-- ==== Sys2Proof/Word.lean ====
section
/-! DEFINITION. The word types of the chip set: 32-bit registers (00_scope.md R14) and bytes. -/

namespace Sys2Proof

/-- A register word (00_scope.md R14). -/
abbrev Word := BitVec 32

/-- A byte of a buffer, an image or a frame. -/
abbrev Byte := BitVec 8

end Sys2Proof
end

