-- ==== Sys2Proof/Syntax.lean ====
section
/-! DEFINITION. The commands of the block: one constructor of `Instr` per row of spec/opcode_table.json, with its operands,
and the plain types of the operands. The operands are what the row's chapter says the event carries (log entry 7, DESIGN CHOICE). -/

namespace Sys2Proof

/-- The two leaves of a VCP pair (00_scope.md Table 0.6). -/
inductive LeafId where
  | leaf0 | leaf1
  deriving DecidableEq, Repr

/-- The number of a leaf, as its strap gives it (01_architecture.md R20). -/
def LeafId.num : LeafId → Nat
  | .leaf0 => 0
  | .leaf1 => 1

/-- The partner of a leaf. -/
def LeafId.other : LeafId → LeafId
  | .leaf0 => .leaf1
  | .leaf1 => .leaf0

/-- A concentrator number, the uplink port index (01_architecture.md R24). -/
abbrev Conc := Fin 48
/-- A cell port of a concentrator. -/
abbrev Port := Fin 256
/-- An arm of the converter. -/
abbrev Arm := Fin 6
/-- A tile of the fabric. -/
abbrev Tile := Fin 256
/-- A slot of the cell table (00_scope.md R10). -/
abbrev Slot := Fin 12288
/-- A command handle (12_host_interface_and_handles.md R402). -/
abbrev Handle := Nat

/-- A cell controller, named by the concentrator and the port it is wired to. -/
structure CellId where
  conc : Conc
  port : Port
  deriving DecidableEq, Repr

/-- The key of a cell in the state's map of cells. -/
def CellId.key (c : CellId) : Nat := c.conc.val * 256 + c.port.val

/-- A part of the chip set, as the addressee of a register access, a reset or an update frame. -/
inductive Part where
  | leaf (l : LeafId)
  | conc (n : Conc)
  | cell (c : CellId)
  | core (l : LeafId) (p : Fin 4)   -- the core-local registers of a pair (18_cores_and_scheduler.md)
  deriving DecidableEq, Repr

/-- Who makes a register access. -/
inductive Agent where
  | host
  | core (p : Fin 4)
  deriving DecidableEq, Repr

/-- One end of a lane (10_flenor_links.md): the set of lane registers it has. -/
inductive LaneEnd where
  | uplinkLeaf (l : LeafId) (n : Conc)        -- LNKn of a leaf
  | mirror (l : LeafId) (i : Fin 4)           -- MIR_Ll of a leaf
  | uplinkConc (n : Conc) (u : LeafId)        -- AUPLu of a concentrator
  | port (n : Conc) (p : Port)                -- APRTp of a concentrator
  | cell (c : CellId)                         -- CLNK of a cell
  deriving DecidableEq, Repr

/-- The reference inputs (02_clocks_and_time.md Table 2.2). -/
inductive RefInput where
  | a | b
  deriving DecidableEq, Repr

/-- Why a lane leaves UP (10_flenor_links.md Table 10.8). -/
inductive LaneDown where
  | signalLoss | lockLoss | markersMissing | giveUp
  deriving DecidableEq, Repr

/-- What the ECC of a scrubbed word reports. -/
inductive EccResult where
  | clean | corrected | uncorrectable
  deriving DecidableEq, Repr

/-- What the residue check and the ECC report of one fabric step (05_control_fabric.md R204, R205) (log entry 15, DESIGN CHOICE). -/
inductive StepCheck where
  | ok | selfCheck | uecc
  deriving DecidableEq, Repr

/-- The protected memories of a tile (05_control_fabric.md R203). -/
inductive FabMem where
  | scratchpad | coeff | stepActive | stepShadow | stateReg
  deriving DecidableEq, Repr

/-- The events on which a standby takes the active role (13_the_hinge.md R439). -/
inductive TakeoverCause where
  | release | majority
  deriving DecidableEq, Repr

/-- A PTP event message at a station port (02_clocks_and_time.md R78, R79). -/
structure PtpEvent where
  port : Fin 2
  egress : Bool
  msgType : Nat
  seqId : Nat
  /-- Delay_Resp turnaround: the ingress stamp of the request, where one-step mode inserts it. -/
  reqIngress : Nat
  deriving DecidableEq, Repr

/-- The payload of a marker block (10_flenor_links.md Table 10.7); `time` is the linear station time of CYC_TS. -/
structure Marker where
  id : Nat
  echo : Nat
  turn : Nat
  cycle : Nat
  phase : Nat
  delay : Nat
  time : Int
  lane : Nat
  trainOk : Bool
  upstream : Bool
  unset : Bool
  deriving DecidableEq, Repr

/-- The payload of a grant block (13_the_hinge.md Table 13.8). -/
structure GrantMsg where
  grant : Nat
  miss : Nat
  replays : Nat
  cycle : Nat
  moves : Nat
  deriving DecidableEq, Repr

/-- The class of a fault (14_faults.md Table 14.1), as Table 14.2 encodes it. -/
inductive FaultClass where
  | note | alarm | trip | deadbolt
  deriving DecidableEq, Repr

/-- The code of a class in a record; a higher class has the larger code. -/
def FaultClass.code : FaultClass → Nat
  | .note => 0
  | .alarm => 1
  | .trip => 2
  | .deadbolt => 3

/-- The class of a code. -/
def FaultClass.ofCode : Nat → FaultClass
  | 0 => .note
  | 1 => .alarm
  | 2 => .trip
  | _ => .deadbolt

/-- A fault record (14_faults.md Table 14.2) with SOURCE in its parts (Table 14.3). BLOCK is CODE[15:8]. -/
structure FaultRec where
  time : Nat
  code : Nat
  cls : FaultClass
  unset : Bool
  injected : Bool
  isOpen : Bool
  superseded : Bool
  seq : Nat
  part : Nat
  unit : Nat
  inst : Nat
  merged : Nat
  cause : Nat
  count : Nat
  cycle : Nat
  detail : Nat
  deriving DecidableEq, Repr

/-- A journal record (12_host_interface_and_handles.md Table 12.7). `data` is the entry words of a PARAM record, else 0. -/
structure JRec where
  kind : Nat
  sqIndex : Nat
  cycle : Nat
  handle : Nat
  tagOrCseq : Nat
  crcOrStatus : Nat
  result : Nat
  detail : Nat
  data : Nat
  deriving DecidableEq, Repr

/-- The command set of one concentrator as it stands on its uplink: header, words and the IARM of ARM_INFO. -/
structure ConcSet where
  conc : Nat
  hdr : Nat
  words : List Nat
  iarm : Nat
  deriving DecidableEq, Repr

/-- The health report of a standby (13_the_hinge.md R431). -/
structure Health where
  summary : Nat
  compared : Nat
  mismatched : Nat
  uncompared : Nat
  passes : Nat
  runs : Nat
  eccTotal : Nat
  deriving DecidableEq, Repr

/-- What a leaf says of itself when the mirror link comes up (13_the_hinge.md R424). -/
structure Identity where
  leaf : Nat
  idCap : Nat
  role : Nat
  conv : Nat
  cyc : Nat
  imageTag : Nat
  floor : Nat
  fwVersion : Nat
  /-- The image of the running firmware is in TRIAL (17_updates.md R541). -/
  trial : Bool
  deriving DecidableEq, Repr

/-- A target of a profiler channel (07_setpoint_profiler.md R253, R254): its handle, value in 2^-24 pu, RATE_REQ, and the flags LIMITED
and ACCEL_OVERRIDE of its result word. -/
structure Target where
  handle : Nat
  value : Int
  rateReq : Nat
  limited : Bool
  override : Bool
  deriving DecidableEq, Repr

/-- A channel of the profiler (R250, R267): value in 2^-56 pu, rate in 2^-56 pu/s, acceleration in 2^-48 pu/s². -/
structure Chan where
  value : Int := 0
  rate : Int := 0
  accel : Int := 0
  /-- V, A and J as LIMITS sets them (Table 7.3). -/
  v : Nat := 1000
  a : Nat := 50
  j : Nat := 10
  /-- The A and J that the ramp uses (R256). -/
  runA : Nat := 50
  runJ : Nat := 10
  /-- The targets, the approached one first (R260). -/
  queue : List Target := []
  /-- The HOLDs that run, and the TARGET they interrupted (R257). -/
  holds : List Nat := []
  held : List Target := []
  /-- The approach to a joint target brakes (R262). -/
  turning : Bool := false
  deriving DecidableEq, Repr

/-- A frame on the mirror link (10_flenor_links.md R379), by what it carries. -/
inductive MirrorMsg where
  /-- The converter state of the active leaf, each cycle (01_architecture.md R34). -/
  | convState (code : Nat) (cycle : Nat)
  /-- The command set published for a cycle; none where the leaf sent SKIP; `overran` where it did (13_the_hinge.md R426, R427). -/
  | publishedSet (cycle : Nat) (overran : Bool) (sets : Option (List ConcSet))
  /-- The identity of a leaf (13_the_hinge.md R424). -/
  | identity (i : Identity)
  /-- Journal records to adopt (12_host_interface_and_handles.md R403, R410). -/
  | journal (recs : List JRec)
  /-- The whole live journal, both sequence counters and the head, for a joining leaf (R410). -/
  | journalAdopt (recs : List JRec) (seq : Nat) (cseq : Nat) (head : Nat)
  /-- The acceptance records are acknowledged (R403). -/
  | journalAck
  /-- The standby's acknowledgement was late (R403). -/
  | journalLate
  /-- An effect of a command is announced for a boundary (R412). -/
  | announce (h : Nat) (cycle : Nat)
  /-- Ring settings, head and acknowledgement of the active leaf, each cycle (12: the rings). -/
  | hndSettings (sqBase : Nat) (sqSize : Nat) (cqBase : Nat) (cqSize : Nat) (head : Nat) (ack : Nat)
  /-- The health report (13_the_hinge.md R431). -/
  | health (h : Health)
  /-- A mismatched cycle, reported by the standby (13_the_hinge.md R428); `raise` when CMP fell. -/
  | mismatch (cycle : Nat) (slot : Nat) (raised : Bool)
  /-- RELEASE from the partner (13_the_hinge.md R433, R435). -/
  | release (planned : Bool) (cause : Nat) (effective : Nat)
  /-- The summary word of the partner. -/
  | standing (summary : Nat) (role : Nat) (hash : Option Nat)
  /-- HNG_CFG and HNG_SOLO written on the active leaf (13_the_hinge.md R447). -/
  | hngCfg (alignHold : Nat) (cmpPersist : Nat) (solo : Nat)
  /-- A commit made on the active leaf (03_control_cycle.md R124): mask, root count, copied shadows and shadow pages. -/
  | commit (mask : Nat) (at_ : Nat) (shadow : List (Nat × Nat)) (coefs : List (Nat × List (Nat × Nat)))
  /-- The stale map of a cycle (03_control_cycle.md R104). -/
  | staleMap (cycle : Nat) (map : Nat)
  /-- The applied rate and offset of the active leaf, its cycle, UNSET, the planned slips, the error of its grid and its period
  (02_clocks_and_time.md R61, R71, R75). -/
  | time (rate : Nat) (ofs : Int) (cyc : Nat) (unset : Bool) (slips : List (Nat × Int)) (err : Int) (per : Nat)
  /-- What a leaf has staged: the image hash, none while nothing is staged; `failed`: its LOAD failed (06_keying_image.md R225, R235). -/
  | keyStaged (hash : Option Nat) (failed : Bool)
  /-- The profiler after a tick (07_setpoint_profiler.md R267): cycle, MODE and REASON, blend time left in 100 ns, the channels, and the
  commands that wait for the next tick. -/
  | profiler (cycle : Nat) (mode : Nat) (left : Nat) (chans : List (Nat × Chan)) (waiting : List Nat)
  /-- The partner's own demand for a block (16_personnel_safety.md R511). -/
  | safety (order : Bool)
  /-- The slot states of the active leaf at a boundary: slot, state and serial number (11_discovery_and_membership.md R379). -/
  | slots (l : List (Nat × Nat × Nat))
  /-- The serial numbers found on the uplinks (01_architecture.md R25). -/
  | serials (l : List (Nat × Nat))
  /-- A grant block that arrived on an uplink, forwarded (13_the_hinge.md R438). -/
  | grant (n : Nat) (g : GrantMsg)
  /-- The buffer bytes of an update command, for the leaf that is not active (17_updates.md). -/
  | buffer (h : Nat) (bytes : List Byte)
  /-- A planned exchange (13_the_hinge.md R444): handle, the leaf that becomes active, and the cycle. -/
  | exchange (handle : Nat) (target : Nat) (j : Nat)
  /-- A store and its session, for a leaf that joins (17_updates.md R523): KIND, state, header, pieces and the recorded hash. -/
  | store (kind : Nat) (st : Nat) (hdr : List Byte) (pieces : List (Nat × List Byte)) (hash : Option Nat)
  /-- The enrolled owner key, the hasp and the handle of the last lift (17_updates.md R532, R533), and the nonce of the active leaf (R532). -/
  | owner (key : Option Nat) (set : Bool) (lift : Nat)
  | nonce (v : Nat)
  deriving DecidableEq, Repr

/-- An UPDATE frame (17_updates.md R547, Tables 17.5 and 17.6): DEST, FRAG, INDEX, SESSION, the bytes of DATA and HEADER, the words of
SELECT and FLOOR, and CRC (log entry 50, DESIGN CHOICE). -/
structure UpdFrame where
  dest : Bool
  frag : Nat
  index : Nat
  session : Nat
  data : List Byte
  words : List Nat
  crc : Nat
  deriving DecidableEq, Repr

/-- The commands of the block, one per row of spec/opcode_table.json (log entry 7, DESIGN CHOICE; log entry 98, DESIGN CHOICE). -/
inductive Instr where
  /-- REGISTER_WRITE (R17): A host or core write to a register that has no row of its own is applied according to its access
  code, including the lock, range and moving-state refusals stated in its table. -/
  | registerWrite (part : Part) (agent : Agent) (off : Nat) (val : Word)
  /-- INVALID_REGISTER_ACCESS (R14): An access that is not an aligned 32-bit word is ignored or reads zero and raises the
  ALARM-class invalid-register-access fault. -/
  | invalidRegisterAccess (part : Part) (write : Bool) (off : Nat) (width : Nat)
  /-- LOWER_WORD_READ (R15): A read of the lower word of a 64-bit register pair captures the upper bits into the pair's
  shared holding copy. -/
  | lowerWordRead (part : Part) (off : Nat)
  /-- TS96_LOWEST_WORD_READ (R65): A read of the lowest word of a three-word TS96 register set captures the two upper words
  into holding copies. -/
  | ts96LowestWordRead (part : Part) (off : Nat)
  /-- CYCLE_START (R91): At each grid instant a new control cycle begins, and boundary effects such as state changes,
  membership changes and profiler ticks are applied. -/
  | cycleStart (l : LeafId)
  /-- READY_PERSISTENCE_MET (R36): The ready condition has held for the ready persistence count, and the converter moves
  from CHARGING to BLOCKED_READY. -/
  | readyPersistenceMet (l : LeafId)
  /-- CHARGE_TIME_LIMIT_EXPIRES (R36): The charge time limit runs out in CHARGING, and the converter trips with a
  charge-timeout fault. -/
  | chargeTimeLimitExpires (l : LeafId)
  /-- CHARGE (R36): The CONFIG command CHARGE moves the converter from KEYED_IDLE to CHARGING when no TRIP cause persists. -/
  | charge (l : LeafId) (h : Handle)
  /-- DEBLOCK (R36): The CONFIG command DEBLOCK moves the converter from BLOCKED_READY to DEBLOCKED and completes when the
  first selected set is published. -/
  | deblock (l : LeafId) (h : Handle)
  /-- BLOCK (R36): The CONFIG command BLOCK moves the converter from DEBLOCKED to BLOCKED_READY and completes when the block
  set is published. -/
  | block (l : LeafId) (h : Handle)
  /-- CLEAR_TRIP (R604): The CONFIG command CLEAR_TRIP leaves TRIPPED for BLOCKED_READY or KEYED_IDLE when no TRIP cause
  persists. -/
  | clearTrip (l : LeafId) (h : Handle)
  /-- SYNCHRONOUS_SAMPLE (R319): At S(k) the cell aborts any conversion in progress and starts the capacitor conversion. -/
  | synchronousSample (c : CellId)
  /-- UPLINK_DEADLINE (R103): At U(k) the leaf delivers the input bank and substitutes the previous cycle's data for any
  concentrator whose sums are missing. -/
  | uplinkDeadline (l : LeafId)
  /-- FABRIC_DONE_INSTANT (R105): At FD(k) the leaf checks the tiles for overrun, and the recorder closes the row of cycle
  k. -/
  | fabricDoneInstant (l : LeafId)
  /-- TUMBLER_SELECT (R152): Once every tile has finished and FD(k) is reached, the tumbler takes its snapshot, computes the
  keys and selects the insertion, bypass and fractional cells. -/
  | tumblerSelect (l : LeafId) (a : Arm)
  /-- PREDICTION_MISMATCH (R143): A cell's key has differed from its own prediction for PERSIST selections, so MISMATCH is
  set and an ALARM is raised. -/
  | predictionMismatch (l : LeafId) (slot : Slot)
  /-- PUBLISH_DEADLINE (R93): At P(k) the active leaf starts the command set and ARM_INFO, a skip header or a block set, and
  a non-active leaf starts its STANDBY frame. -/
  | publishDeadline (l : LeafId)
  /-- SHADOW_MISMATCH (R428): CMP_PERSIST consecutive mismatched cycles clear CMP and raise the shadow-mismatch ALARM on
  both leaves. -/
  | shadowMismatch (l : LeafId)
  /-- CMP_RESTORED (R428): After 1,024 consecutive matching compared cycles the standby sets CMP again. -/
  | cmpRestored (l : LeafId)
  /-- BUDGET_CHECK (R97): Every 1,024 cycles the cycle engine re-evaluates the delay terms, updates the slack registers and
  raises the timing-budget ALARM on a failure. -/
  | budgetCheck (l : LeafId)
  /-- CYC_COMMIT (R118): A write to CYC_COMMIT copies the shadows of the named groups into a pending stage. -/
  | cycCommit (l : LeafId) (mask : Word)
  /-- COMMIT_APPLY (R119): A pending commit stage is checked and then applied at its boundary, or it is refused with a
  record in CYC_COMMIT_ERR. -/
  | commitApply (l : LeafId)
  /-- CYC_DISCARD (R123): A write to CYC_DISCARD copies the applied values of the named groups back into their shadows and
  closes the groups. -/
  | cycDiscard (l : LeafId) (mask : Word)
  /-- GROUP_OPEN_TIMEOUT (R123): A commit group has been open for more than 1,000 cycles, so its bit is set in
  CYC_GROUP_OPEN and a NOTE is raised. -/
  | groupOpenTimeout (l : LeafId) (g : Nat)
  /-- REFERENCE_QUALIFIED (R50): A reference input has been clean for 1 ms and becomes qualified, and the selector moves out
  of ACQUIRE or HOLDOVER. -/
  | referenceQualified (l : LeafId) (inp : RefInput)
  /-- REFERENCE_LOST (R50): A reference input loses qualification on a missing edge or a deviation, and the selector
  switches reference or enters HOLDOVER. -/
  | referenceLost (l : LeafId) (inp : RefInput)
  /-- REFERENCE_REVERTED (R50): The preferred input has been qualified for 10 s with REVERT set, and the selector reverts to
  it. -/
  | referenceReverted (l : LeafId)
  /-- HOLDOVER_EXPIRED (R50): After 10 s in HOLDOVER the selector raises a TRIP while the converter is moving and an ALARM
  otherwise. -/
  | holdoverExpired (l : LeafId)
  /-- TIM_CLK_WRITE (R50): A write of SEL_MODE or PREF may move a locked selector to a forced qualified input. -/
  | timClkWrite (l : LeafId) (val : Word)
  /-- CLOCK_MONITOR_WINDOW (R54): At the end of each 256-cycle supervision window the FCLK count is checked, and a deviation
  above 10 % raises the clock-monitor TRIP. -/
  | clockMonitorWindow (l : LeafId) (count : Nat)
  /-- ROOT_PLL_LOSS_OF_LOCK (R54): The root PLL reports loss of lock, which raises the clock-monitor fault. -/
  | rootPllLossOfLock (l : LeafId)
  /-- MIR_ALIGN_CONVERGED (R59): The phase trim of a leaf that is not active converges within ±200 ps, and MIR_ALIGN becomes
  1. -/
  | mirAlignConverged (l : LeafId)
  /-- ALIGN_HOLD_EXPIRED (R430): ALIGN_HOLD_MS after the mirror link left UP, a standby's MIR_ALIGN falls to 0. -/
  | alignHoldExpired (l : LeafId)
  /-- TIME_TRIGGER (R73): A time trigger fires at the first FCLK edge at or after its programmed station time. -/
  | timeTrigger (l : LeafId) (trg : Nat)
  /-- PTP_EVENT_MESSAGE (R78): A PTP event message is time-stamped in hardware on ingress or egress and its stamp is queued
  in the port FIFO. -/
  | ptpEventMessage (l : LeafId) (ptp : PtpEvent)
  /-- TIM_PN_RXTAG_READ (R89): A read of TIM_Pn_RXTAG pops the head of the ingress FIFO and loads its TS96 into the RXTS
  registers. -/
  | timPnRxtagRead (l : LeafId) (n : Fin 2)
  /-- TIM_PN_TXTAG_READ (R89): A read of TIM_Pn_TXTAG pops the head of the egress FIFO and loads its TS96 into the TXTS
  registers. -/
  | timPnTxtagRead (l : LeafId) (n : Fin 2)
  /-- MARKER_BLOCK (R365): A received marker block supplies a round-trip measurement, updates the one-way delay D and places
  the downstream grid. -/
  | markerBlock (e : LaneEnd) (m : Marker) (rtt : Nat) (crcOk : Bool)
  /-- DELAY_STEP_CONFIRMED (R84): A delay change larger than DLY_STEP is applied after 16 confirming measurements, and a
  NOTE is raised. -/
  | delayStepConfirmed (e : LaneEnd)
  /-- MARKER_SEND (R364): After 4,096 blocks a lane sends a comma followed by a marker block. -/
  | markerSend (e : LaneEnd)
  /-- MARKER_MISSING (R365): Two consecutive expected markers are missing, and the lane leaves UP. -/
  | markerMissing (e : LaneEnd)
  /-- RECORD_CUTOFF (R101): At its cut-off the concentrator sends the partial-sum record with the missing records excluded
  and flagged. -/
  | recordCutoff (n : Conc) (k : BitVec 16)
  /-- UPLINK (R357): A cell's UPLINK frame reaches the concentrator, which forwards it as a record, discards it if it is
  late, or completes the sums. -/
  | uplink (n : Conc) (p : Port) (frame : BitVec 128) (crcOk : Bool)
  /-- UPLINK_SLOT (R362): At S(k) + 540 ns the cell starts its UPLINK block in the reserved control slot. -/
  | uplinkSlot (c : CellId)
  /-- RECORDS (R46): A RECORDS frame at the leaf is merged into the measurement halves of the cell-table entries. -/
  | records (l : LeafId) (n : Conc) (recs : List (Port × BitVec 128))
  /-- SUMS (R358): A SUMS record at the leaf supplies the arm aggregates of the cycle. -/
  | sums (l : LeafId) (n : Conc) (rec : BitVec 512)
  /-- COMMAND_SET (R158): A COMMAND_SET reaches a concentrator, which checks its tag and word count and holds it, or
  discards it when it is late or wrong. -/
  | commandSet (n : Conc) (u : LeafId) (hdr : BitVec 128) (words : List (BitVec 16))
  /-- SKIP (R106): A SKIP header reaches a concentrator and counts as a valid frame that calls for a replay. -/
  | skip (n : Conc) (u : LeafId) (hdr : BitVec 128)
  /-- ARM_INFO (R356): An ARM_INFO frame gives the concentrator the arm current to place in its control frames. -/
  | armInfo (n : Conc) (u : LeafId) (body : BitVec 64)
  /-- STANDBY (R436): A STANDBY frame tells the concentrator whether the non-active leaf is available. -/
  | standby (n : Conc) (u : LeafId) (hdr : BitVec 128)
  /-- REPLAY_INSTANT (R110): At its replay instant the concentrator fans out the set it holds, or replays the last words,
  and judges its grant. -/
  | replayInstant (n : Conc) (m : Nat)
  /-- REPLAY_EXHAUSTED (R112): After four replayed cycles the concentrator sends BLOCK to all its cells and raises an ALARM. -/
  | replayExhausted (n : Conc)
  /-- SILENCE_GRANT_MOVE (R437): At the third consecutive latch cycle without a valid command from the granted leaf, the
  grant moves to the other leaf if that leaf is available. -/
  | silenceGrantMove (n : Conc)
  /-- CONTROL_SLOT (R362): The concentrator opens the downward window and sends each port's CONTROL block 40 ns after the
  set, or the replay, is in hand. -/
  | controlSlot (n : Conc) (m : Nat)
  /-- CONTROL (R361): A CONTROL frame reaches the cell and holds a word for its latch cycle, unless the word is invalid,
  late or a duplicate. -/
  | control (c : CellId) (body : BitVec 219) (crcOk : Bool)
  /-- CELL_CYCLE_START (R115): At the start of each cycle on its grid the cell counts a silent cycle and applies its
  held-back settings. -/
  | cellCycleStart (c : CellId)
  /-- SILENCE_BLOCK (R116): After CLNK_SILENCE silent cycles the cell turns all gates off and enters SIL_BLOCKED. -/
  | silenceBlock (c : CellId)
  /-- LATCH_TIME (R273): At the latch time a READY cell executes its word as gate edges after the delays, including any
  fractional pulse. -/
  | latchTime (c : CellId) (overlap : Bool)
  /-- CPWM_SHORT_CNT_READ (R281): A read of CPWM_SHORT_CNT re-arms the short-pulse NOTE. -/
  | cpwmShortCntRead (c : CellId)
  /-- SOFT_OFF_LEAD_EXPIRED (R283): LEAD core-clock cycles after SOFT_OFF rises, the cell drives every gate low. -/
  | softOffLeadExpired (c : CellId)
  /-- SOFT_OFF_HOLD_EXPIRED (R283): After HOLD × 0.1 µs SOFT_OFF returns low, and gates may rise again. -/
  | softOffHoldExpired (c : CellId)
  /-- TRIP (R285): An enabled trip input becomes active after its filter count, and the cell starts soft turn-off, enters
  TRIP_BLOCKED or bolts, and reports the trip. -/
  | trip (c : CellId) (inp : Fin 4) (active : Bool)
  /-- CTRP_FILT_WRITE (R284): A write to CTRP_FILTn takes effect at once and restarts that input's filter count. -/
  | ctrpFiltWrite (c : CellId) (n : Fin 4) (val : Word)
  /-- REARM (R287): Once every enabled input has been inactive for REARM_MS, with AUTO set or a pending clear, the cell
  leaves TRIP_BLOCKED. -/
  | rearm (c : CellId)
  /-- CTRP_CLEAR (R287): A write of CTRP_CLEAR requests re-arming, which is kept until the inputs have been inactive. -/
  | ctrpClear (c : CellId) (val : Word)
  /-- FIRE_PULSE_TIMER (R291): Every 500 µs while bolting or BYPASS_FIRED, the cell makes another 20 µs BYP_FIRE pulse. -/
  | firePulseTimer (c : CellId)
  /-- COIL_PULSE_END (R291): After 30 ms the bypass coil is de-energised. -/
  | coilPulseEnd (c : CellId)
  /-- BYP_AUX_CONFIRMED (R291): After BYP_AUX has been high for 1 ms the fire pulses stop. -/
  | bypAuxConfirmed (c : CellId)
  /-- BOLT_CONFIRM_TIMEOUT (R292): When BYP_AUX is not high CONFIRM_MS after a coil pulse, the cell pulses the coil again,
  or sets BOLT_UNCONF and raises an ALARM. -/
  | boltConfirmTimeout (c : CellId)
  /-- FIRE (R294): CBYP_CMD FIRE with the correct key starts soft turn-off and enters BYPASS_FIRED. -/
  | fire (c : CellId) (val : Word)
  /-- BOLT (R294): CBYP_CMD BOLT with the correct key starts the bolt sequence with CAUSE command. -/
  | bolt (c : CellId) (val : Word)
  /-- RELEASE (R294): CBYP_CMD RELEASE leaves BYPASS_FIRED for READY when the trip inputs and the capacitor voltage allow
  it, and otherwise sets RELEASE_REFUSED. -/
  | release (c : CellId) (val : Word)
  /-- CPWM_MODE_LOCAL (R295): A write of CPWM_CTL.MODE = LOCAL enters local PWM mode if the cell is READY and its last
  executed word was BLOCK. -/
  | cpwmModeLocal (c : CellId) (val : Word)
  /-- CPWM_MODE_LATCH (R300): A write of CPWM_CTL.MODE = LATCH ends local mode, enters BLOCK and returns the cell to
  executing words. -/
  | cpwmModeLatch (c : CellId) (val : Word)
  /-- LOCAL_PERIOD_START (R296): At each local period boundary the cell transfers a complete PERIOD and DUTY pair and
  switches G1 and G2. -/
  | localPeriodStart (c : CellId)
  /-- CPWM_PERIOD_WRITE (R298): A write of the opening register CPWM_PERIOD waits for a DUTY write before it is transferred. -/
  | cpwmPeriodWrite (c : CellId) (val : Word)
  /-- CPWM_DUTY_WRITE (R297): A write of the closing register CPWM_DUTY makes the pair ready for transfer at the next period
  boundary. -/
  | cpwmDutyWrite (c : CellId) (val : Word)
  /-- COMPARE_TRIGGER (R301): An enabled compare fires POINT ticks after the period or cycle start and triggers its
  conversion run. -/
  | compareTrigger (c : CellId) (n : Fin 4)
  /-- LANE_CLOCK_LOST (R58): The cell loses lane-clock lock, switches to the fallback oscillator, turns off softly and stops
  executing. -/
  | laneClockLost (c : CellId)
  /-- CAPACITOR_CONVERSION_DONE (R310): The capacitor conversion ends, and the cell scales VCAP, checks the over-voltage and
  under-voltage thresholds, computes VPRED_CELL and forms its uplink frame. -/
  | capacitorConversionDone (c : CellId) (code : Nat)
  /-- CADC_START (R314): A write of CADC_START starts one general conversion when that is allowed. -/
  | cadcStart (c : CellId) (val : Word)
  /-- CONVERSION_DONE (R305): A general or sequence conversion ends, and its result is stored. -/
  | conversionDone (c : CellId) (code : Nat)
  /-- HOUSEKEEPING_CONVERSION (R318): Once per millisecond the cell converts TEMP and the supply monitors, and it sets or
  clears OVT. -/
  | housekeepingConversion (c : CellId) (temp : Int) (vdd33 : Nat) (vret : Nat) (vcore : Nat)
  /-- PENDING_RUN_START (R320): When the converter becomes free, a pending compare run or an aborted conversion starts in
  priority order. -/
  | pendingRunStart (c : CellId)
  /-- CADC_PRIV_WRITE (R315): A write of CADC_PRIV that marks more than four channels is ignored and sets CFG_ERR. -/
  | cadcPrivWrite (c : CellId) (val : Word)
  /-- CADC_CAL_REQ (R322): A write of CADC_CAL.REQ requests a calibration. -/
  | cadcCalReq (c : CellId) (val : Word)
  /-- CALIBRATION_SLICE_START (R323): A calibration slice starts after a sync run and at least GAP cycles after the previous
  slice. -/
  | calibrationSliceStart (c : CellId)
  /-- CALIBRATION_DONE (R326): After the tenth slice the new coefficients take effect and CAL_OK is set, or a result outside
  limits sets CAL_FAIL. -/
  | calibrationDone (c : CellId) (ok : Bool)
  /-- DSM_OUTPUT (R330): Every 20 µs the delta-sigma channel delivers an output, its scaled VCAP and its time stamp. -/
  | dsmOutput (c : CellId) (data : BitVec 24) (ovl : Bool) (cycle : BitVec 16) (tick : BitVec 16)
  /-- RETENTION_SCRUB (R337): The retention scrubber checks and corrects words, and on an uncorrectable error it rewrites
  the word or invalidates retention. -/
  | retentionScrub (c : CellId) (addr : Nat) (res : EccResult)
  /-- RETENTION_SUPPLY_CHECK (R340): 300 s after a wake, a VDD_RET below 2.6 V sets RET_LOW and raises an ALARM. -/
  | retentionSupplyCheck (c : CellId) (mv : Nat)
  /-- CRET_WIN_DATA_ACCESS (R347): An access to CRET_WIN_DATA reads the retention word at ADDR, and a write acts only in the
  station area. -/
  | cretWinDataAccess (c : CellId) (w : Option Word)
  /-- SLEEP (R343): VDD33 below SLEEP_V for 10 µs puts the cell to sleep, after which it logs, saves its state and isolates
  retention. -/
  | sleep (c : CellId)
  /-- RETENTION_SUPPLY_LOST (R342): VDD_RET falls below 2.2 V during sleep, the validity latch clears and the cell is OFF. -/
  | retentionSupplyLost (c : CellId)
  /-- WAKE_FROM_OFF (R344): VDD33 qualified without valid retention clears memory and retention and writes reset protection
  values. -/
  | wakeFromOff (c : CellId)
  /-- WAKE_FROM_SLEEP (R345): VDD33 qualified with valid retention restores the protection state and counts the wake. -/
  | wakeFromSleep (c : CellId)
  /-- LANE_ENABLE (R368): Setting xx_CTL.EN takes a lane from DISABLED to DETECT and starts training. -/
  | laneEnable (e : LaneEnd)
  /-- LANE_DISABLE (R368): Clearing xx_CTL.EN silences the transmitter and puts the lane in DISABLED. -/
  | laneDisable (e : LaneEnd)
  /-- SIGNAL_DETECTED (R368): Signal energy at the receiver moves the lane from DETECT to LOCK. -/
  | signalDetected (e : LaneEnd)
  /-- PHASE_LOCKED (R368): The phase-tracking loop locks, and the lane moves to ALIGN. -/
  | phaseLocked (e : LaneEnd)
  /-- COMMA_ALIGNED (R368): The comma has been found at the same position in three training intervals, so the block boundary
  is fixed and the lane moves to POLARITY. -/
  | commaAligned (e : LaneEnd)
  /-- POLARITY_FOUND (R368): An upright or inverted comma sets the polarity, and the lane moves on. -/
  | polarityFound (e : LaneEnd) (inverted : Bool)
  /-- LANE_ORDER_READ (R368): The mirror lanes' LANE fields are read, and the order is corrected and deskewed, or rejected. -/
  | laneOrderRead (l : LeafId) (order : List (Fin 4)) (skew : Bool)
  /-- LINK_UP (R368): When the partner reports TRAIN_OK and 16 round trips have been measured, the lane enters UP. -/
  | linkUp (e : LaneEnd) (sn : Nat) (cap : Word)
  /-- LINK_DOWN (R368): Loss of signal, loss of lock, missing markers or a give-up take a lane out of UP with a link-down
  fault. -/
  | linkDown (e : LaneEnd) (cause : LaneDown)
  /-- LANE_STATE_TIMEOUT (R368): A training state timeout returns the lane to DETECT and counts the timeout. -/
  | laneStateTimeout (e : LaneEnd)
  /-- RETRAIN (R371): A RETRAIN write returns the lane to DETECT unless it is refused while the converter is moving. -/
  | retrain (e : LaneEnd) (val : Word)
  /-- TEST_FACILITY_ENABLE (R371): Enabling a PRBS generator, a checker, a loopback or error injection puts the lane in TEST
  unless it is refused. -/
  | testFacilityEnable (e : LaneEnd) (val : Word)
  /-- TEST_FACILITY_DISABLE (R368): Disabling every test facility returns the lane from TEST to DETECT. -/
  | testFacilityDisable (e : LaneEnd) (val : Word)
  /-- LINK_ACK (R366): An acknowledgement or NAK releases unacknowledged frames or starts a retransmission. -/
  | linkAck (e : LaneEnd) (seq : Nat) (nak : Bool)
  /-- RETRANSMIT_TIMEOUT (R366): With no acknowledgement in time the sender retransmits, and after 8 retransmissions it
  gives up and takes the lane down. -/
  | retransmitTimeout (e : LaneEnd)
  /-- CDC_TIMEOUT (R376): A crossing whose far clock stalls for 1,024 cycles flushes and raises the CDC-timeout ALARM. -/
  | cdcTimeout (e : LaneEnd)
  /-- CDC_RESYNC (R377): The pointer-reset handshake of a crossing completes after reset, and entries in flight are
  discarded. -/
  | cdcResync (e : LaneEnd)
  /-- GRANT_BLOCK (R438): A leaf receives a concentrator's grant block, forwards it to its partner and uses it for takeover
  and split checks. -/
  | grantBlock (l : LeafId) (n : Conc) (g : GrantMsg) (fwd : Bool)
  /-- KNOCK_INTERVAL (R381): Every 10 ms the concentrator sends a KNOCK, a PROBE or JOIN or UNJOIN, on each idle port. -/
  | knockInterval (n : Conc) (p : Port)
  /-- PROBE (R382): A cell answers a KNOCK PROBE with one KNOCK_ANSWER. -/
  | probe (c : CellId) (body : BitVec 219)
  /-- JOIN (R384): A KNOCK JOIN with the cell's own serial number sets its TYPE and stores the map tag in retention. -/
  | join (c : CellId) (body : BitVec 219)
  /-- UNJOIN (R384): A KNOCK UNJOIN sets the cell's TYPE to 0. -/
  | unjoin (c : CellId) (body : BitVec 219)
  /-- KNOCK_ANSWER (R385): A knock answer forwarded to the leaf drives the slot transitions to KNOCKED, JOINED, ACTIVE,
  QUARANTINED or BOLTED. -/
  | knockAnswer (l : LeafId) (n : Conc) (p : Port) (body : BitVec 219)
  /-- JOIN_FAILED (R385): Three JOIN knocks without an answer showing the TYPE sent quarantine the slot. -/
  | joinFailed (l : LeafId) (slot : Slot)
  /-- CELL_LOST (R102): An ACTIVE or BYPASSED slot silent for 16 consecutive cycles becomes LOST with an ALARM. -/
  | cellLost (l : LeafId) (slot : Slot)
  /-- PORT_DOWN_TIMEOUT (R385): A port lane out of UP for 1 s returns a KNOCKED, JOINED or quarantined slot to EMPTY. -/
  | portDownTimeout (l : LeafId) (n : Conc) (p : Port)
  /-- REPLACE (R389): The CELL command REPLACE frees a BOLTED or QUARANTINED slot to EMPTY and sends UNJOIN. -/
  | replace (l : LeafId) (h : Handle)
  /-- DOORBELL (R404): A write of HND_SQ_TAIL announces new entries, which the leaf then fetches in ring order. -/
  | doorbell (l : LeafId) (val : Word)
  /-- ENTRY_FETCHED (R405): A fetched submission entry is judged MALFORMED, RETRY, a re-presentation, or is journaled for
  acceptance. -/
  | entryFetched (l : LeafId) (entry : Option (BitVec 512))
  /-- JOURNAL_ACK (R403): The standby's acknowledgement of the acceptance records accepts the command, and ACCEPTED with its
  handle is written. -/
  | journalAck (l : LeafId)
  /-- MRAM_WRITE_DONE (R403): With no standby, or a late one, the MRAM write of the acceptance records accepts the command. -/
  | mramWriteDone (l : LeafId) (ok : Bool)
  /-- JOURNAL_ACK_TIMEOUT (R403): A standby that has not acknowledged within 10 µs is told that it was late, and it clears
  JOURNAL. -/
  | journalAckTimeout (l : LeafId)
  /-- COMPLETION_WRITE (R400): A decided completion is written in CSEQ order into its slot once there is room in the ring. -/
  | completionWrite (l : LeafId)
  /-- HND_CQ_ACK_WRITE (R401): A write to HND_CQ_ACK acknowledges completions and frees their records, or sets ACK_BAD. -/
  | hndCqAckWrite (l : LeafId) (val : Word)
  /-- HND_ENABLE (R395): Setting HND_CFG.EN rewrites unacknowledged completions and resumes fetching from the head that the
  journal gives. -/
  | hndEnable (l : LeafId)
  /-- HND_DISABLE (R395): Clearing HND_CFG.EN stops fetching and completion writes without discarding the journal. -/
  | hndDisable (l : LeafId)
  /-- RING_SETTING_WRITE (R394): A write of the ring base or size takes effect only while EN is 0 on the active leaf, and
  otherwise sets CFG_REFUSED. -/
  | ringSettingWrite (l : LeafId) (off : Nat) (val : Word)
  /-- FUNCTION_LEVEL_RESET (R395): A function-level reset stops fetching and completion writes without discarding the
  journal. -/
  | functionLevelReset (l : LeafId)
  /-- PCIE_LINK_DOWN (R395): A hot reset or link-down stops fetching and completion writes. -/
  | pcieLinkDown (l : LeafId)
  /-- COMPLETION_IRQ_TIMER (R392): Vector 0 fires TIME_US after the first unsignalled completion, even below COUNT. -/
  | completionIrqTimer (l : LeafId)
  /-- ECHO (R414): The DIAG command ECHO completes with its value and the cycle of acceptance. -/
  | echo (l : LeafId) (h : Handle)
  /-- JOURNAL_READ (R414): The DIAG command JOURNAL_READ copies journal records to host memory. -/
  | journalRead (l : LeafId) (h : Handle)
  /-- FORMAT_JOURNAL (R414): The DIAG command FORMAT_JOURNAL schedules a format of the journal on both leaves, if it is
  allowed. -/
  | formatJournal (l : LeafId) (h : Handle)
  /-- JOURNAL_FORMAT (R414): At the boundary after the FORMAT_JOURNAL completion is acknowledged, both leaves clear the
  journal and restart the sequences. -/
  | journalFormat (l : LeafId)
  /-- REMOTE_READ (R415): The CELL command REMOTE_READ reads a concentrator or cell register over the links. -/
  | remoteRead (l : LeafId) (h : Handle)
  /-- REMOTE_WRITE (R416): The CELL command REMOTE_WRITE writes a concentrator or cell register once per handle. -/
  | remoteWrite (l : LeafId) (h : Handle)
  /-- REMOTE_REQ (R416): A concentrator or cell executes a REMOTE_REQ, or answers a repeated handle from its stored result. -/
  | remoteReq (part : Part) (l : LeafId) (h : Handle) (w : Option Word) (mask : Word) (off : Nat)
  /-- REMOTE_RSP (R415): A REMOTE_RSP completes the remote command at the leaf. -/
  | remoteRsp (l : LeafId) (h : Handle) (val : Word)
  /-- REMOTE_TIMEOUT (R415): A remote command without a response within 10 ms completes TIMEOUT. -/
  | remoteTimeout (l : LeafId) (h : Handle)
  /-- MIRROR (R412): A MIRROR frame delivers state, published sets, journal records, commits, announced effects and health
  to the partner. -/
  | mirror (l : LeafId) (msg : MirrorMsg)
  /-- MIRROR_LINK_UP (R423): The mirror link reaches UP, the leaves exchange identities, and a STARTING leaf becomes ACTIVE,
  STANDBY or reports a pairing fault. -/
  | mirrorLinkUp (l : LeafId)
  /-- SOLO_TIMEOUT (R423): HNG_SOLO.MS after start-up step 4 without the mirror link, a STARTING leaf becomes ACTIVE alone. -/
  | soloTimeout (l : LeafId)
  /-- RELEASE_FRAME (R437): A RELEASE frame at a concentrator moves its grant, drops it to NONE, or stores a planned move. -/
  | releaseFrame (n : Conc) (u : LeafId) (frame : BitVec 128)
  /-- TAKEOVER (R439): A standing-by leaf takes the active role on RELEASE from its partner or a majority of grants, and
  publishes from the next suitable deadline. -/
  | takeover (l : LeafId) (why : TakeoverCause)
  /-- TAKEOVER_COMPLETE (R420): Within 50 µs of taking the role, the new active leaf rewrites completions, sets ROLE 1 and
  accepts entries again. -/
  | takeoverComplete (l : LeafId)
  /-- SPLIT_GRANT (R442): A split lasting more than 4 boundaries raises the TRIP-class split-grant fault on the majority
  leaf. -/
  | splitGrant (l : LeafId)
  /-- HNG_SWAP (R443): The HNG command SWAP starts a planned exchange of the active role to the target leaf. -/
  | hngSwap (l : LeafId) (h : Handle)
  /-- PLANNED_EXCHANGE (R444): At the start of cycle j-1 the roles exchange, unless the target has stopped standing by and
  the exchange is cancelled. -/
  | plannedExchange (l : LeafId)
  /-- HEALTH_REPORT (R431): Every second the standby sends its summary word and counts to the active leaf. -/
  | healthReport (l : LeafId)
  /-- HEALTH_REPORT_LATE (R431): No report for 3 s with the mirror link UP sets REPORT_LATE and raises an ALARM. -/
  | healthReportLate (l : LeafId)
  /-- FAULT (R452): A FAULT frame at a leaf adds, merges or closes a concentrator or cell fault record. -/
  | fault (l : LeafId) (n : Conc) (rec : FaultRec)
  /-- CELL_FAULT (R451): A cell-lane FAULT body is completed by the concentrator into a full record and sent to both leaves. -/
  | cellFault (n : Conc) (p : Port) (body : BitVec 219)
  /-- FLT_CLEAR (R453): A write of FLT_CLEAR with ALL = 0 closes the record at INDEX. -/
  | fltClear (l : LeafId) (val : Word)
  /-- FLT_CLEAR_ALL (R453): A write of FLT_CLEAR with ALL = 1 closes every open NOTE and ALARM record. -/
  | fltClearAll (l : LeafId) (val : Word)
  /-- AFLT_CLEAR (R453): A write of AFLT_CLEAR with ALL = 0 closes one concentrator record, a TRIP record only once its
  cause is gone. -/
  | afltClear (n : Conc) (val : Word)
  /-- AFLT_CLEAR_ALL (R453): A write of AFLT_CLEAR with ALL = 1 closes every open concentrator record whose cause is gone. -/
  | afltClearAll (n : Conc) (val : Word)
  /-- CFLT_CLEAR (R453): A write of CFLT_CLEAR with ALL = 0 closes the cell event-log record named by SEQ. -/
  | cfltClear (c : CellId) (val : Word)
  /-- CFLT_CLEAR_ALL (R453): A write of CFLT_CLEAR with ALL = 1 closes every open NOTE and ALARM cell record. -/
  | cfltClearAll (c : CellId) (val : Word)
  /-- FAULT_LINE_INPUT (R460): A paired fault-line input takes a new level, which raises EXT_TRIP, EXT_ALARM or CONC_SUM on
  the VCP or drives BLOCK_IN on a concentrator. -/
  | faultLineInput (part : Part) (line : Nat) (active : Bool)
  /-- BROKEN_WIRE (R461): Equal levels on a pair, or an output readback mismatch, for 10 µs raise the broken-wire ALARM. -/
  | brokenWire (part : Part) (line : Nat) (readback : Bool)
  /-- FLT_INJ_CAUSE (R465): A write of FLT_INJ_CAUSE raises an injected VCP fault while test mode is allowed. -/
  | fltInjCause (l : LeafId) (val : Word)
  /-- AFLT_INJ_CAUSE (R465): A write of AFLT_INJ_CAUSE raises an injected concentrator fault while test mode is allowed. -/
  | afltInjCause (n : Conc) (val : Word)
  /-- CFLT_INJ_CAUSE (R465): A write of CFLT_INJ_CAUSE raises an injected cell fault while test mode is allowed. -/
  | cfltInjCause (c : CellId) (val : Word)
  /-- DECIMATOR_SAMPLE (R469): A concentrator decimator produces a stamped sample and sends it in DECIM frames. -/
  | decimatorSample (n : Conc) (d : Fin 8) (sample : BitVec 16) (ovr : Bool) (cycle : BitVec 16) (tick : BitVec 16)
  /-- DECIM (R471): A DECIM frame gives the leaf decimator samples for the recorder and the input routing. -/
  | decim (l : LeafId) (n : Conc) (d : Fin 8) (words : List Word)
  /-- AUTO_TRIGGER (R481): After AUTO_MS in PRE the recorder triggers at the next row, which it marks FORCED. -/
  | autoTrigger (l : LeafId)
  /-- POST_ROWS_COMPLETE (R482): The last post-trigger row ends capture and moves the recorder to REARM or STOPPED. -/
  | postRowsComplete (l : LeafId)
  /-- RECORD_CLOSED (R484): The recorder computes the measurements, writes the header with VALID last and sets the segment
  READY. -/
  | recordClosed (l : LeafId)
  /-- REARM_COMPLETE (R482): The next segment is prepared, and the recorder returns to PRE. -/
  | rearmComplete (l : LeafId)
  /-- ARM (R485): The REC command ARM checks the configuration and enters PRE. -/
  | recArm (l : LeafId) (h : Handle)
  /-- STOP (R482): The REC command STOP returns the recorder to STOPPED, truncating a record in progress. -/
  | recStop (l : LeafId) (h : Handle)
  /-- FORCE (R481): The REC command FORCE triggers at once in PRE. -/
  | recForce (l : LeafId) (h : Handle)
  /-- DRAIN (R492): The REC command DRAIN copies a READY record's bytes to host memory. -/
  | recDrain (l : LeafId) (h : Handle)
  /-- REC_RELEASE (R492): The REC command RELEASE frees the segment that holds the named record. -/
  | recRelease (l : LeafId) (h : Handle)
  /-- SAFETY_TICK (R495): Every 10 µs both safety channels sample the safe inputs, update the group states and outputs, and
  compare with each other. -/
  | safetyTick (l : LeafId) (a : BitVec 32) (b : BitVec 32)
  /-- TICK_WATCHDOG (R495): A tick interval outside 8.5 µs to 11.5 µs raises the DEADBOLT-class channel fault. -/
  | tickWatchdog (l : LeafId) (ns : Nat)
  /-- CHANNEL_DISAGREEMENT (R496): The two channels have differed at 100 consecutive ticks, which raises fault 0x2905. -/
  | channelDisagreement (l : LeafId)
  /-- OSSD_DEMAND (R500): One OSSD channel at demand level for 100 ticks is taken as demand. -/
  | ossdDemand (l : LeafId) (n : Fin 32) (ch : Bool)
  /-- DISCREPANCY (R501): A pair's channels have disagreed for N ticks, so the pair is discrepant and an ALARM is raised. -/
  | discrepancy (l : LeafId) (n : Fin 32)
  /-- TWO_HAND_TIMEOUT (R504): 0.5 s after the first two-hand pair without both pairs RUN, the group returns to DEMAND. -/
  | twoHandTimeout (l : LeafId) (g : Fin 16)
  /-- RESET_BUTTON_HELD (R507): A reset press at its 200,001st tick raises the reset-button-held NOTE. -/
  | resetButtonHeld (l : LeafId) (n : Fin 32)
  /-- RELEASE_OUTPUT_PERMIT (R509): A RELEASE output is energised once its permit has held and the converter has been idle
  for RELEASE_S. -/
  | releaseOutputPermit (l : LeafId) (n : Fin 8)
  /-- OUTPUT_TEST_PULSE (R510): Each second an energised safe output is switched off briefly and its readback is checked. -/
  | outputTestPulse (l : LeafId) (n : Fin 8) (readback : Bool) (low : Bool)
  /-- HASP_PRODUCE (R513): A producing Hasp connection sends a frame every PERIOD. -/
  | haspProduce (l : LeafId) (c : Fin 16)
  /-- HASP_FRAME (R513): A consuming connection accepts a Hasp frame that passes its checks and restarts its time
  expectation. -/
  | haspFrame (l : LeafId) (net : Fin 2) (frame : List Byte)
  /-- HASP_TIME_EXPECTATION (R514): The time expectation runs out, so the connection is no longer OK and an ALARM is raised. -/
  | haspTimeExpectation (l : LeafId) (c : Fin 16)
  /-- TRIP_ORDER_REPEAT (R515): Copies of a new trip order are sent at 1 ms intervals on both networks. -/
  | tripOrderRepeat (l : LeafId)
  /-- TRIP_ORDER_FRAME (R517): A receiver accepts a trip-order copy and executes the order once its decision rule is met. -/
  | tripOrderFrame (l : LeafId) (net : Fin 2) (frame : List Byte)
  /-- TRIP_ORDER_MATCH_TIMEOUT (R517): 2 ms without a matching copy sets ORD_MISMATCH and, under two-of-two, discards the
  order. -/
  | tripOrderMatchTimeout (l : LeafId) (r : Fin 8)
  /-- SAF_CFG_LOCK (R518): A write of SAF_CFG.LOCK locks the configuration, computes its CRC and runs or holds the block. -/
  | safCfgLock (l : LeafId) (val : Word)
  /-- SETPOINT_TARGET (R253): The SETPOINT command TARGET starts a ramp, queues a target in blend mode, or is refused as
  locked. -/
  | setpointTarget (l : LeafId) (h : Handle)
  /-- HOLD (R257): The SETPOINT command HOLD stops the channel along the shortest jerk-limited path. -/
  | hold (l : LeafId) (h : Handle)
  /-- LIMITS (R255): The SETPOINT command LIMITS sets V, A and J from the next tick. -/
  | limits (l : LeafId) (h : Handle)
  /-- MODE (R258): The SETPOINT command MODE enters blend mode for an allowed reason, or returns to normal service. -/
  | mode (l : LeafId) (h : Handle)
  /-- PRESET (R263): The SETPOINT command PRESET sets a resting channel's value at the next tick. -/
  | preset (l : LeafId) (h : Handle)
  /-- BLEND_EXPIRED (R259): BLEND_S after blend mode was entered it ends with a NOTE, and the queued targets complete
  INCOMPLETE. -/
  | blendExpired (l : LeafId)
  /-- KEY_LOAD (R220): The KEY command LOAD starts reading a ward into the SHADOW plane on both leaves. -/
  | keyLoad (l : LeafId) (h : Handle)
  /-- KEY_LOAD_DONE (R220): The load checks finish, and SHADOW becomes STAGED or FAILED. -/
  | keyLoadDone (l : LeafId)
  /-- KEY_SWAP (R226): The KEY command SWAP schedules the staged image to take effect at cycle j = c + 4. -/
  | keySwap (l : LeafId) (h : Handle)
  /-- PLANE_SWAP (R226): At cycle j the staged image becomes active, hitless or clearing, and the keying pointer is written. -/
  | planeSwap (l : LeafId)
  /-- KEY_DISCARD (R223): The KEY command DISCARD returns SHADOW to EMPTY and restores the shadow coefficient pages. -/
  | keyDiscard (l : LeafId) (h : Handle)
  /-- KEY_FALLBACK (R242): The KEY command FALLBACK loads the other ward and swaps to it. -/
  | keyFallback (l : LeafId) (h : Handle)
  /-- KEY_RAISE_FLOOR (R241): The KEY command RAISE_FLOOR raises KEY_FLOOR in the anti-rollback store. -/
  | keyRaiseFloor (l : LeafId) (h : Handle)
  /-- IMAGE_TRANSFER (R236): A joining leaf receives the active image over the mirror link and activates it with its own
  clearing swap. -/
  | imageTransfer (l : LeafId) (image : List Byte)
  /-- BEGIN (R528): The UPD command BEGIN checks a package header and opens or resumes a download session. -/
  | begin (l : LeafId) (h : Handle) (buf : List Byte)
  /-- PIECE (R529): The UPD command PIECE programs, reads back and records one piece. -/
  | piece (l : LeafId) (h : Handle) (buf : List Byte)
  /-- VERIFY (R527): The UPD command VERIFY starts hashing the stored body. -/
  | verify (l : LeafId) (h : Handle)
  /-- VERIFY_DONE (R527): The body hash is complete, and the session becomes VERIFIED, or OPEN again if the hash differs. -/
  | verifyDone (l : LeafId)
  /-- ACTIVATE (R541): The UPD command ACTIVATE switches a leaf, a concentrator or a slot to its verified image in TRIAL. -/
  | activate (l : LeafId) (h : Handle)
  /-- DISTRIBUTE (R543): The UPD command DISTRIBUTE sends a verified store to the idle banks of concentrators or cells. -/
  | distribute (l : LeafId) (h : Handle)
  /-- DISTRIBUTION_PIECE_SEND (R543): At most every 10 ms a concentrator sends the next piece to each selected port. -/
  | distributionPieceSend (n : Conc)
  /-- WAVE (R544): The UPD command WAVE activates cell firmware in waves within the arm's spare margin. -/
  | wave (l : LeafId) (h : Handle)
  /-- WAVE_NEXT (R544): When the wave's cells report, or 1 s after it began, the next wave is picked. -/
  | waveNext (l : LeafId)
  /-- CONFIRM (R538): The UPD command CONFIRM writes CONFIRMED pointers for the images in TRIAL. -/
  | confirm (l : LeafId) (h : Handle)
  /-- UPD_ABORT (R527): The UPD command ABORT erases a session. -/
  | updAbort (l : LeafId) (h : Handle)
  /-- HASP_SET (R532): The UPD command HASP_SET sets the owner's update lock. -/
  | haspSet (l : LeafId) (h : Handle)
  /-- HASP_LIFT (R532): The UPD command HASP_LIFT lifts the hasp with a valid owner signature and draws a new nonce. -/
  | haspLift (l : LeafId) (h : Handle) (buf : List Byte)
  /-- HASP_ENROLL (R533): The UPD command HASP_ENROLL stores the owner key hash once. -/
  | haspEnroll (l : LeafId) (h : Handle) (buf : List Byte)
  /-- UPD_RAISE_FLOOR (R540): The UPD command RAISE_FLOOR raises the floor of firmware KIND 1, 3 or 4. -/
  | updRaiseFloor (l : LeafId) (h : Handle)
  /-- UPDATE_DATA (R548): An UPDATE DATA fragment is stored, and a reassembled piece is checked against its CRC. -/
  | updateData (part : Part) (u : UpdFrame)
  /-- UPDATE_HEADER (R548): An UPDATE HEADER of a new session is checked and erases the idle bank's session. -/
  | updateHeader (part : Part) (u : UpdFrame)
  /-- UPDATE_SELECT (R547): An UPDATE SELECT gives a concentrator the port mask for distribution. -/
  | updateSelect (part : Part) (u : UpdFrame)
  /-- UPDATE_VERIFY (R543): An UPDATE VERIFY makes a part with a complete bitmap hash its idle bank and mark it VERIFIED. -/
  | updateVerify (part : Part) (u : UpdFrame)
  /-- UPDATE_ACTIVATE (R545): An UPDATE ACTIVATE makes a cell enter UPDATING and restart on its verified bank in TRIAL, or
  makes a concentrator restart. -/
  | updateActivate (part : Part) (u : UpdFrame)
  /-- UPDATE_CONFIRM (R538): An UPDATE CONFIRM writes a CONFIRMED pointer in the receiving part. -/
  | updateConfirm (part : Part) (u : UpdFrame)
  /-- UPDATE_ABORT (R547): An UPDATE ABORT discards the receiving part's idle-bank session. -/
  | updateAbort (part : Part) (u : UpdFrame)
  /-- UPDATE_FLOOR (R540): An UPDATE FLOOR raises a concentrator's or cell's own floor. -/
  | updateFloor (part : Part) (u : UpdFrame)
  /-- UPDATE_RESTART_DONE (R545): A cell that activated new firmware returns to STARTING within 150 ms. -/
  | updateRestartDone (c : CellId)
  /-- TRIAL_AGE_UPDATE (R537): At least every 600 s a part running a TRIAL image adds its running time to AGE. -/
  | trialAgeUpdate (part : Part) (secs : Nat)
  /-- TRIAL_EXPIRED (R537): AGE reaches 86,400 s, and the part falls back, or defers while the converter is moving. -/
  | trialExpired (part : Part) (secs : Nat)
  /-- TILE_LIST_START (R98): A tile starts its step list at FD(k-1) or when its previous list ends, and skips the list if
  U(k+1) has passed. -/
  | tileListStart (l : LeafId) (t : Tile)
  /-- TILE_LIST_ABORT (R173): A list still running at S(k+2) is aborted and counted. -/
  | tileListAbort (l : LeafId) (t : Tile)
  /-- NOP (R182): The fabric step NOP does nothing for one cycle. -/
  | stepNop (l : LeafId) (t : Tile) (chk : StepCheck)
  /-- MOV (R182): The fabric step MOV copies A to DST. -/
  | stepMov (l : LeafId) (t : Tile) (chk : StepCheck)
  /-- ADD (R182): The fabric step ADD writes A + B with saturation. -/
  | stepAdd (l : LeafId) (t : Tile) (chk : StepCheck)
  /-- SUB (R182): The fabric step SUB writes A - B with saturation. -/
  | stepSub (l : LeafId) (t : Tile) (chk : StepCheck)
  /-- NEG (R182): The fabric step NEG writes -A with saturation. -/
  | stepNeg (l : LeafId) (t : Tile) (chk : StepCheck)
  /-- ABS (R182): The fabric step ABS writes |A| with saturation. -/
  | stepAbs (l : LeafId) (t : Tile) (chk : StepCheck)
  /-- MIN (R182): The fabric step MIN writes the smaller operand. -/
  | stepMin (l : LeafId) (t : Tile) (chk : StepCheck)
  /-- MAX (R182): The fabric step MAX writes the larger operand. -/
  | stepMax (l : LeafId) (t : Tile) (chk : StepCheck)
  /-- CMP (R182): The fabric step CMP writes 1 when A rel B holds. -/
  | stepCmp (l : LeafId) (t : Tile) (chk : StepCheck)
  /-- SEL (R182): The fabric step SEL writes A or B according to a state register. -/
  | stepSel (l : LeafId) (t : Tile) (chk : StepCheck)
  /-- LIM (R182): The fabric step LIM clamps A to a coefficient band. -/
  | stepLim (l : LeafId) (t : Tile) (chk : StepCheck)
  /-- MUL (R174): The fabric step MUL writes the shifted exact product. -/
  | stepMul (l : LeafId) (t : Tile) (chk : StepCheck)
  /-- ACCOUT (R182): The fabric step ACCOUT writes the saturated accumulator. -/
  | stepAccout (l : LeafId) (t : Tile) (chk : StepCheck)
  /-- MAC (R182): The fabric step MAC adds or subtracts a coefficient product into the accumulator. -/
  | stepMac (l : LeafId) (t : Tile) (chk : StepCheck)
  /-- DIV (R177): The fabric step DIV writes a quotient rounded toward zero, with divide-by-zero handling. -/
  | stepDiv (l : LeafId) (t : Tile) (chk : StepCheck)
  /-- SQRT (R177): The fabric step SQRT writes the floor square root, with negative-operand handling. -/
  | stepSqrt (l : LeafId) (t : Tile) (chk : StepCheck)
  /-- SINCOS (R182): The fabric step SINCOS writes the sine and cosine of an angle. -/
  | stepSincos (l : LeafId) (t : Tile) (chk : StepCheck)
  /-- ABC2AB (R182): The fabric step ABC2AB transforms three-phase values to alpha-beta. -/
  | stepAbc2ab (l : LeafId) (t : Tile) (chk : StepCheck)
  /-- ROT (R182): The fabric step ROT rotates a vector pair. -/
  | stepRot (l : LeafId) (t : Tile) (chk : StepCheck)
  /-- DELAY (R182): The fabric step DELAY reads and writes a circular delay line in scratchpad. -/
  | stepDelay (l : LeafId) (t : Tile) (chk : StepCheck)
  /-- RATE_LIM (R182): The fabric step RATE_LIM moves DST toward A by at most |c|. -/
  | stepRateLim (l : LeafId) (t : Tile) (chk : StepCheck)
  /-- FILT1 (R182): The fabric step FILT1 applies a first-order filter. -/
  | stepFilt1 (l : LeafId) (t : Tile) (chk : StepCheck)
  /-- FILT2 (R182): The fabric step FILT2 applies a biquad filter. -/
  | stepFilt2 (l : LeafId) (t : Tile) (chk : StepCheck)
  /-- LOAD (R182): The fabric step LOAD reads an indexed scratchpad word. -/
  | stepLoad (l : LeafId) (t : Tile) (chk : StepCheck)
  /-- STORE (R182): The fabric step STORE writes an indexed scratchpad word. -/
  | stepStore (l : LeafId) (t : Tile) (chk : StepCheck)
  /-- SEND (R195): The fabric step SEND places a tagged value into a tile's receive channel, waiting while the channel is
  full. -/
  | stepSend (l : LeafId) (t : Tile) (chk : StepCheck)
  /-- CHANNEL_ENTRY_ARRIVAL (R192): A sent entry reaches its receive channel 3 or 8 FCLK cycles after issue. -/
  | channelEntryArrival (l : LeafId) (t : Tile) (ch : Fin 8)
  /-- RECV (R194): The fabric step RECV takes the entry of its cycle, discards earlier ones and waits for later ones. -/
  | stepRecv (l : LeafId) (t : Tile) (chk : StepCheck)
  /-- OUT (R189): The fabric step OUT writes an output port for the tumblers, the model watch, the fault unit or the
  recorder. -/
  | stepOut (l : LeafId) (t : Tile) (chk : StepCheck)
  /-- CTLD (R196): The fabric step CTLD requests a cell-table word into a mailbox. -/
  | stepCtld (l : LeafId) (t : Tile) (chk : StepCheck)
  /-- CTST (R198): The fabric step CTST requests a write of C_EST and LEARN_N. -/
  | stepCtst (l : LeafId) (t : Tile) (chk : StepCheck)
  /-- CELL_TABLE_REQUEST_SERVICE (R196): After P(k) the arm bank serves the CTLD and CTST requests of the cycle. -/
  | cellTableRequestService (l : LeafId) (a : Arm)
  /-- MODEL_WATCH_ALARM (R201): |r| above the ALARM band for ALARM_P counted cycles raises the model-watch ALARM. -/
  | modelWatchAlarm (l : LeafId) (u : Fin 12)
  /-- MODEL_WATCH_TRIP (R201): |r| above the TRIP band for TRIP_P counted cycles raises the model-watch TRIP. -/
  | modelWatchTrip (l : LeafId) (u : Fin 12)
  /-- SCRUB (R203): The scrubber reads, checks and corrects protected fabric words in free port cycles. -/
  | scrub (l : LeafId) (t : Tile) (mem : FabMem) (addr : Nat) (res : EccResult)
  /-- TILE_SELF_TEST (R206): A 64-cycle self-test run on a spare tile ends, marks the tile FAILED on failure and moves to
  the next spare tile. -/
  | tileSelfTest (l : LeafId) (pass : Bool)
  /-- TILE_SP_DATA_ACCESS (R185): An access to TILE_SP_DATA reads or writes the scratchpad word at ADDR, and the write is
  refused while the converter is moving. -/
  | tileSpDataAccess (l : LeafId) (t : Tile) (w : Option Word)
  /-- TILE_SN_WRITE (R185): A host write to a tile state register is ignored while the converter is moving and sets
  HOST_WR_REFUSED. -/
  | tileSnWrite (l : LeafId) (t : Tile) (n : Fin 64) (val : Word)
  /-- CELL_TABLE_CONTROL_WRITE (R133): A write of a cell-table control half passes LATCH_OFS to the concentrator, or is
  refused while the converter is moving. -/
  | cellTableControlWrite (l : LeafId) (slot : Slot) (w : Nat) (val : Word)
  /-- CORE_OP_READY (R564): The kernel operation READY makes a blocked thread ready or sets its PEND. -/
  | coreOpReady (l : LeafId) (p : Fin 4) (val : Word)
  /-- CORE_OP_BLOCK (R564): The kernel operation BLOCK blocks a thread or consumes its PEND. -/
  | coreOpBlock (l : LeafId) (p : Fin 4) (val : Word)
  /-- CORE_OP_YIELD (R564): The kernel operation YIELD puts the running thread at the tail of its list. -/
  | coreOpYield (l : LeafId) (p : Fin 4) (val : Word)
  /-- CORE_OP_SET_PRIO (R564): The kernel operation SET_PRIO changes a thread's priority. -/
  | coreOpSetPrio (l : LeafId) (p : Fin 4) (val : Word)
  /-- CORE_OP_SET_AFF (R564): The kernel operation SET_AFF changes a thread's affinity. -/
  | coreOpSetAff (l : LeafId) (p : Fin 4) (val : Word)
  /-- CORE_OP_START (R564): The kernel operation START makes a dormant thread ready. -/
  | coreOpStart (l : LeafId) (p : Fin 4) (val : Word)
  /-- CORE_OP_STOP (R564): The kernel operation STOP makes a thread dormant. -/
  | coreOpStop (l : LeafId) (p : Fin 4) (val : Word)
  /-- CORE_OP_SWITCHED (R564): The kernel operation SWITCHED acknowledges a dispatch, or counts a stale one. -/
  | coreOpSwitched (l : LeafId) (p : Fin 4) (val : Word)
  /-- CORE_NEXT_READ (R563): A read of CORE_NEXT returns the running thread and clears the pending dispatch interrupt. -/
  | coreNextRead (l : LeafId) (p : Fin 4)
  /-- LOCKSTEP_MISMATCH (R555): A lockstep pair mismatch holds the pair in reset and raises fault 0x2B01 with the reaction
  of Table 13.5. -/
  | lockstepMismatch (l : LeafId) (p : Fin 4)
  /-- CORE_SRAM_UECC (R556): An uncorrectable core SRAM word raises fault 0x2B02 and an access fault in the reading core. -/
  | coreSramUecc (l : LeafId) (p : Fin 4) (addr : Nat)
  /-- MACHINE_TIMER (R566): CORE_MTIME reaches CORE_MTIMECMP, and the pair's machine timer interrupt becomes pending. -/
  | machineTimer (l : LeafId) (p : Fin 4)
  /-- CORE_MSIX (R567): A write of CORE_MSIX fires MSI-X vector 16 to 63, or sets OP_ERR for any other value. -/
  | coreMsix (l : LeafId) (p : Fin 4) (val : Word)
  /-- CORE_RELEASE (R559): A write of CORE_RELEASE by pair 0 releases pairs 1 to 3 from reset. -/
  | coreRelease (l : LeafId) (p : Fin 4) (val : Word)
  /-- SCH_TRACE_DATA_READ (R568): A read of SCH_TRACE_DATA returns the trace word and advances ADDR. -/
  | schTraceDataRead (l : LeafId)
  /-- RAIL_OUT_OF_RANGE (R572): A rail outside its window for 10 µs sets its PWR_RAIL_ERR bit and raises the TRIP-class rail
  fault. -/
  | railOutOfRange (l : LeafId) (rail : Fin 7)
  /-- FULL_POWER_ON_RESET (R576): VDD_AON below its threshold resets the whole part, the deadbolt latch included. -/
  | fullPowerOnReset (part : Part)
  /-- CORE_POWER_ON_RESET (R576): Any other rail below its threshold resets the part, keeping the always-on state. -/
  | corePowerOnReset (part : Part)
  /-- PIN_RESET (R575): RESET_N registers low and holds the part in reset with its outputs safe. -/
  | pinReset (part : Part)
  /-- PIN_RESET_RELEASE (R577): RESET_N registers high, and the part leaves reset once its clocks allow, or a cell wakes. -/
  | pinResetRelease (part : Part)
  /-- RESET_TIMER_END (R581): All rails have been in their windows for 1 ms, and start-up proceeds to reference
  qualification. -/
  | resetTimerEnd (l : LeafId)
  /-- BOOT_ROM_START (R559): Pair 0 runs the boot ROM: it checks the pointer and the image, copies the firmware and jumps,
  or enters BOOT_FAILED. -/
  | bootRomStart (l : LeafId)
  /-- CONCENTRATOR_START (R584): After reset a concentrator selects its bank, starts its firmware and enables its lanes with
  grant NONE. -/
  | concentratorStart (n : Conc)
  /-- WARM_RESET (R579): PWR_CTL ACTION WARM with the key restarts the cores, after a hand-over if the leaf is active. -/
  | warmReset (l : LeafId) (val : Word)
  /-- HOLD_UP_LOW (R574): VHOLD below THRESH for 1 ms sets AUX_LOW, refuses activations and raises an ALARM. -/
  | holdUpLow (l : LeafId) (mv : Nat)
  /-- HOLD_UP_NORMAL (R574): VHOLD above THRESH + 50 mV for 1 ms returns the hold-up monitor to normal. -/
  | holdUpNormal (l : LeafId) (mv : Nat)
  deriving DecidableEq, Repr

end Sys2Proof
end

