-- ==== Sys2Proof/Decode.lean ====
section
/-! DEFINITION. Commands as words. spec/opcode_table.json gives no row any bits: a command is an event with operands, and no word spells
one. -/

namespace Sys2Proof

/-- The command that a word spells by the table's bits: none, for the table gives no row bits (log entry 1, DESIGN CHOICE). -/
def decodeTableWord (_nbits _w : Nat) : Option Instr := none

end Sys2Proof
end

