-- ==== Sys2Proof/Config.lean ====
section
/-! DEFINITION. The free values and the functions the spec names without defining. Each is an opaque constant: no proof can
see a value of it, so a claim about it holds for every value (log entry 4, DESIGN CHOICE). -/

namespace Sys2Proof

/-- A value the spec leaves open, one per reading of the part's counter `freeIdx` (log entry 4, DESIGN CHOICE). -/
opaque Config.freeValue : Nat → Nat

/-- The error of SINCOS in units of the last place, before it is cut to the accuracy the spec gives (05_control_fabric.md
R182, log entry 4, DESIGN CHOICE). -/
opaque Config.sincosError : Nat → Nat

/-- SHA-384 of a byte string, as a number of 384 bits (06_keying_image.md, 17_updates.md; the algorithm is named, not
defined, by the spec; log entry 4, DESIGN CHOICE). -/
opaque Config.sha384 : List Byte → Nat

/-- ECDSA verification: key hash, message digest and signature bytes (06_keying_image.md, 17_updates.md; log entry 4, DESIGN CHOICE). -/
opaque Config.ecdsaVerify : Nat → Nat → List Byte → Bool

/-- The key that signs keying images and firmware, burnt into the part (06_keying_image.md; log entry 4, DESIGN CHOICE). -/
opaque Config.vendorKey : Nat → Nat

end Sys2Proof
end

