-- ==== Sys2Proof/Machine/State.lean ====
section
/-! DEFINITION. The state of the chip set, as plain data: two leaves, the concentrators, the cells and the queue of commands.
Register fields live in the bank of their part (RegMap.lean names them); the rest of the state has fields of its own.
INVENTORY.md lists every piece with the rule that names it. -/

namespace Sys2Proof.Machine

/-- A sparse map in canonical form: keys strictly rising, no entry equal to what an unlisted key reads as. -/
abbrev SMap (α : Type) := List (Nat × α)

/-- The access codes (00_scope.md Table 0.7). -/
inductive Access where
  | rw | ro | wo | w1c | w1s | rwc | lck
  deriving DecidableEq, Repr

/-- What a field stores of a written value that its table does not take as it is. -/
inductive Fix where
  | any
  | clamp (lo hi : Nat)      -- the nearest bound
  | atLeast (lo : Nat)       -- a smaller value stores `lo`
  | atMost (hi : Nat)        -- a larger value stores `hi`
  | ignoreAbove (hi : Nat)   -- a larger value is ignored
  | leak                     -- FAB_MWu_CTL.LEAK: 1 to 7 store 8, above 24 store 24
  deriving DecidableEq, Repr

/-- One field of a register: offset, lowest bit, width, access code, reset value, and the copies of its register. -/
structure Fld where
  off : Nat
  lo : Nat
  w : Nat
  acc : Access
  rst : Nat
  stride : Nat
  count : Nat
  fix : Fix
  deriving DecidableEq, Repr

/-! ## Faults (14_faults.md) -/

/-- One record of a fault store with its index in the ring; the store is in the order of raising, oldest first. -/
structure FltEnt where
  idx : Nat
  r : FaultRec
  deriving DecidableEq, Repr

/-- A fault store: a leaf's ring of 1,024 records, a concentrator's of 16 (14_faults.md R450, R457) (log entry 3, DESIGN CHOICE). -/
structure FltStore where
  recs : List FltEnt := []
  seq : Nat := 0
  head : Nat := 0
  /-- A record of class ALARM or higher was lost since the overflow flag was last cleared (Table 14.5a). -/
  lostAlarm : Bool := false
  lostTrip : Bool := false
  deriving DecidableEq, Repr

/-! ## The converter (01_architecture.md) -/

/-- The converter states (01_architecture.md Table 1.4). -/
inductive Conv where
  | unkeyed | keyedIdle | charging | blockedReady | deblocked | tripped | deadbolted
  deriving DecidableEq, Repr

/-- The code of a state (Table 1.4). -/
def Conv.code : Conv → Nat
  | .unkeyed => 0
  | .keyedIdle => 1
  | .charging => 2
  | .blockedReady => 3
  | .deblocked => 4
  | .tripped => 5
  | .deadbolted => 6

/-- The state of a code; the codes 7 to 15 are unused. -/
def Conv.ofCode : Nat → Conv
  | 1 => .keyedIdle
  | 2 => .charging
  | 3 => .blockedReady
  | 4 => .deblocked
  | 5 => .tripped
  | 6 => .deadbolted
  | _ => .unkeyed

/-- The converter (01_architecture.md) (log entry 43, DEDUCED). -/
structure ConvSt where
  st : Conv := .unkeyed
  /-- The cycle in which the state was entered. -/
  since : Nat := 0
  /-- The state before it: what the active leaf reported at that boundary, before its host commands (R34, R38). -/
  before : Conv := .unkeyed
  /-- A TRIP-class fault of this leaf waits for the boundary (R36, R38). -/
  tripPend : Bool := false
  /-- A DEADBOLT-class fault of a leaf waits for the boundary (R40). -/
  boltPend : Bool := false
  /-- The handle of a DEBLOCK, and those of BLOCKs, that have made their transition and wait for its publication (R605). -/
  deblockWait : Option Nat := none
  blockWait : List Nat := []
  /-- The clock monitor's condition of R54 holds (R604). -/
  clockBad : Bool := false
  deriving DecidableEq, Repr

/-! ## Host interface (12_host_interface_and_handles.md) -/

/-- An accepted command. `params` are the 40 bytes of PARAMS; `ann` is the announced boundary (R412). -/
structure Cmd where
  handle : Nat
  cls : Nat
  op : Nat
  params : Nat
  idx : Nat
  tag : Nat
  crc : Nat
  cycle : Nat
  ann : Option Nat := none
  /-- The command has taken effect, or completed without effect (R417). -/
  effective : Bool := false
  /-- The completion is decided. -/
  decided : Bool := false
  /-- What a leaf that is not active would complete the command with: status, RESULT, DETAIL (R419). -/
  own : Option (Nat × Nat × Nat) := none
  /-- The command is executed again by a leaf that started (R411). -/
  restart : Bool := false
  deriving DecidableEq, Repr

/-- A decided completion (Table 12.4). -/
structure Compl where
  handle : Nat
  cseq : Nat
  status : Nat
  result : Nat
  detail : Nat
  cycle : Nat
  deriving DecidableEq, Repr

/-- A remote command on its way (R415). -/
structure RemotePend where
  handle : Nat
  write : Bool
  deriving DecidableEq, Repr

/-- A stored result of a REMOTE_WRITE (R416). -/
structure RemoteRes where
  handle : Nat
  value : Nat
  deriving DecidableEq, Repr

/-- The host engine (12_host_interface_and_handles.md). -/
structure Hnd where
  cmds : List Cmd := []
  compl : List Compl := []
  /-- The journal buffer and the MRAM, by record index, and the index the next record takes. -/
  journal : SMap JRec := []
  mram : SMap JRec := []
  jnext : Nat := 0
  /-- Index and handle of the newest ACCEPT or SKIP record (R409, R607); handle 0 for SKIP. -/
  newest : Option (Nat × Nat) := none
  /-- The next completion sequence number to decide, and the acceptance sequence number last given (R400, R402). -/
  cseq : Nat := 0
  seq : Nat := 0
  /-- The next CSEQ to write to host memory, and the acknowledgement, as 48-bit counts (R400, R401). -/
  cqNext : Nat := 0
  ack : Nat := 0
  /-- The entry whose acceptance records wait for the acknowledgement or the MRAM (R403). -/
  accepting : Option Cmd := none
  /-- The standby's acknowledgement of those records is late (R403). -/
  late : Bool := false
  remote : List RemotePend := []
  /-- Fetching stands at an entry answered RETRY, or after a fetch failure, until the next doorbell. -/
  stopped : Bool := false
  /-- The last MRAM write failed (R405). -/
  mramBad : Bool := false
  /-- FORMAT_JOURNAL completed and waits for its acknowledgement (R414): its CSEQ. -/
  formatCseq : Option Nat := none
  /-- Completions written since vector 0 last fired (HND_IRQ_CFG). -/
  unsignalled : Nat := 0
  deriving DecidableEq, Repr

/-! ## The hinge (13_the_hinge.md) -/

/-- The roles of a leaf (13_the_hinge.md Table 13.1). -/
inductive Role where
  | starting | active | standby | released
  deriving DecidableEq, Repr

/-- The code of a role (Table 13.1). -/
def Role.code : Role → Nat
  | .starting => 0
  | .active => 1
  | .standby => 2
  | .released => 3

/-- The newest grant block of a concentrator on one path (R441): its contents and the cycle of its arrival. -/
structure GrantSeen where
  grant : Nat := 2
  at_ : Option Nat := none
  deriving DecidableEq, Repr

/-- A planned exchange (R444). -/
structure Exchange where
  handle : Nat
  target : Nat
  j : Nat
  deriving DecidableEq, Repr

/-- What a leaf knows of its partner (13_the_hinge.md R424, R429). -/
structure Partner where
  ident : Option Identity := none
  /-- The last summary word received. -/
  summary : Nat := 0
  conv : Nat := 0
  /-- The hash of the image that it has active (Table 13.4). -/
  hash : Option Nat := none
  /-- The demand it last reported (16_personnel_safety.md R511). -/
  demand : Bool := false
  deriving DecidableEq, Repr

/-- The hinge (13_the_hinge.md). -/
structure Hng where
  role : Role := .starting
  partner : Partner := {}
  /-- Latest grant blocks by concentrator: on the own uplink and forwarded by the partner. -/
  grantOwn : SMap GrantSeen := []
  grantFwd : SMap GrantSeen := []
  exchange : Option Exchange := none
  /-- CMP of the summary word and the runs of R428. -/
  cmpOk : Bool := true
  misRun : Nat := 0
  matchRun : Nat := 0
  /-- Cycle of the last increase of MISMATCHED (R443). -/
  lastMis : Option Nat := none
  /-- A RELEASE of the partner has come in this cycle (R435). -/
  relSeen : Bool := false
  /-- Local counter when the last health report came, and its lateness has been raised (R431). -/
  healthAt : Option Nat := none
  healthLate : Bool := false
  /-- Local counter when the mirror link last reached UP (R431). -/
  mirrorAt : Nat := 0
  /-- The split that stands has been raised (R441). -/
  splitRaised : Bool := false
  /-- The sets this leaf computed or published, by cycle, newest last, with whether it overran, and those the partner published. -/
  ownSets : List (Nat × Bool × Option (List ConcSet)) := []
  partnerSets : List (Nat × Bool × Option (List ConcSet)) := []
  /-- The last cycle that the comparison judged (R427). -/
  judged : Option Nat := none
  /-- Cycle of this leaf's last change of role (R427). -/
  roleCycle : Option Nat := none
  /-- Root count at the takeover (R439) until its first publication, and STANDING_BY as it stood. -/
  takenAt : Option Nat := none
  takeover : Bool := false
  /-- The leaf that was ACTIVE when the present split began (R441). -/
  splitActive : Nat := 0
  /-- Summary bits kept by events (Table 13.4): lockstep, fabric pass, clock, time, journal, image. -/
  lockstepOk : Bool := true
  fabricOk : Bool := false
  journalOk : Bool := false
  /-- Own grant is released: RELEASE repeated at every publish deadline (R433). -/
  cause : Nat := 0
  deriving DecidableEq, Repr

/-! ## Identity: fuses and straps (00_scope.md Tables 0.3 to 0.5 and 0.11; log entry 2, DESIGN CHOICE) -/

/-- The fuses and straps of a VCP. `variant` is the VARIANT code (00_scope.md R1, Table 0.2): 1 KV-6120, 2 KV-6080, 3 KV-6040 (log entry 2, DESIGN CHOICE). -/
structure LeafIdent where
  leaf : Nat := 0
  variant : Nat := 1
  stepping : Nat := 0x10
  vendor : Nat := 0
  testFuse : Bool := true
  fuseOk : Bool := true
  testStrap : Bool := false
  /-- The revocation fuses of the four signing keys (17_updates.md R525). -/
  revoked : Nat := 0
  serial : Nat := 1
  romVer : Nat := 0
  /-- The fused MAC address of the safety networks. -/
  mac : Nat := 0x020000000000
  deriving DecidableEq, Repr

/-- The fuses and straps of a concentrator; variants may be mixed (00_scope.md R3). VARIANT 1 KA-0256, 2 KA-0128 (log entry 2, DESIGN CHOICE). -/
structure ConcIdent where
  variant : Nat := 1
  testFuse : Bool := true
  fuseOk : Bool := true
  testStrap : Bool := false
  /-- The revocation fuses of the four signing keys (17_updates.md R525). -/
  revoked : Nat := 0
  serial : Nat := 0x1000
  deriving DecidableEq, Repr

/-- The fuses and straps of a cell: VARIANT 1 KC-0040, 2 KC-0020 (log entry 2, DESIGN CHOICE). -/
structure CellIdent where
  variant : Nat := 1
  testFuse : Bool := true
  fuseOk : Bool := true
  testStrap : Bool := false
  /-- The revocation fuses of the four signing keys (17_updates.md R525). -/
  revoked : Nat := 0
  serial : Nat := 0x10000
  deriving DecidableEq, Repr

/-! ## Time (02_clocks_and_time.md) -/

/-- A stored PTP stamp (02_clocks_and_time.md R78, R80). -/
structure PtpStamp where
  msgType : Nat
  seqId : Nat
  ts : Nat
  unset : Bool
  deriving DecidableEq, Repr

/-- The delay measurements of a lane (R83, R84), delays in 1/16 ns: the last 16, and the run that confirms a step. -/
structure LinkMeas where
  last : List Nat := []
  confirm : Nat := 0
  /-- The last up-path delay, E_down + F + I_up (03_control_cycle.md). -/
  up : Nat := 0
  /-- The measured D that a moving converter lets the applied D approach (R84). -/
  target : Option Nat := none
  /-- The round trips measured since training began (10_flenor_links.md R368). -/
  trips : Nat := 0
  deriving DecidableEq, Repr

/-- The timebase (02_clocks_and_time.md). -/
structure Tim where
  /-- The free-running counter C (R62). -/
  c : Nat := 0
  /-- The counter when the selector last entered HOLDOVER (HOLD_MS, Table 2.11). -/
  holdFrom : Nat := 0
  /-- The applied offset, in units of 2^-16 ns (R63). -/
  ofs : Int := 0
  /-- The number of the control cycle. -/
  cyc : Nat := 0
  /-- Armed time triggers: the trigger and its linear time (R73). -/
  armed : List (Nat × Int) := []
  /-- Stamp FIFOs, by port times 2 plus direction (R80). -/
  fifo : SMap (List PtpStamp) := []
  /-- Delay measurements by lane: uplink index, then 48 plus the mirror lane. -/
  meas : SMap LinkMeas := []
  /-- The slips planned, by cycle number, in FCLK cycles (R75, R76). -/
  slips : List (Nat × Int) := []
  /-- Station time at the start of the last cycles, newest first. -/
  starts : List (Nat × Int) := []
  /-- An offset action has asked for a re-phase of the grid (R77). -/
  rephase : Bool := false
  /-- The error of the grid that the slips have not yet removed, in units of 2^-56 ns (R75). -/
  gerr : Int := 0
  deriving DecidableEq, Repr

/-! ## The control cycle (03_control_cycle.md) -/

/-- A pending commit stage (R118): the groups, the root count of the write, the copied shadows, and the copied shadow pages of tiles. -/
structure Stage where
  mask : Nat
  at_ : Nat
  shadow : SMap Nat
  coefs : SMap (SMap Nat)
  deriving DecidableEq, Repr

/-- The cycle engine (03_control_cycle.md). -/
structure Cyc where
  stages : List Stage := []
  /-- The cycle in which each open group was opened (R123). -/
  opened : List (Nat × Nat) := []
  /-- Cycles of the overruns within the last 500 (R113). -/
  ovrWin : List Nat := []
  /-- Cycle of the last TRIP-class overrun (R114). -/
  lastStorm : Option Nat := none
  /-- Cycles that overran and are not yet published: by a tile, by a tumbler (R105). -/
  tileLate : List Nat := []
  tumLate : List Nat := []
  /-- Sums that arrived for the running cycle, and the sums in use, by concentrator (R103). -/
  sumsIn : SMap Nat := []
  sums : SMap Nat := []
  /-- Slots whose record arrived for the running cycle (R102). -/
  recsIn : List Nat := []
  /-- The measurement halves as they stood before the records of the running cycle, by slot, put back where its sums are missing (R103). -/
  recOld : SMap (SMap Nat) := []
  /-- Consecutive stale cycles by concentrator (R103) and silent cycles by slot (R102). -/
  staleRun : SMap Nat := []
  silent : SMap Nat := []
  /-- The stale maps of the last cycles: own and the partner's, with their cycle (R104). -/
  ownStale : List (Nat × Nat) := []
  partnerStale : List (Nat × Nat) := []
  /-- Consecutive boundaries at which the ready condition held (01_architecture.md Table 1.5). -/
  readyRun : Nat := 0
  /-- Membership changes that wait for the boundary, by slot (01_architecture.md R43); 16 is none. -/
  member : SMap Nat := []
  /-- Control-half fields written during this cycle, by key, with the value the tumbler's copy still holds (R132). -/
  ctOld : SMap (Option Nat) := []
  /-- Slots whose word 0x14 the host wrote in this cycle (05_control_fabric.md R198). -/
  hostCt : List Nat := []
  deriving DecidableEq, Repr

/-! ## The tumblers (04_tumblers_and_arm_modulation.md) -/

/-- A finished selection: its cycle, the command words by position, and what was applied (R152). -/
structure Pick where
  cycle : Nat
  words : List (Nat × Nat)
  neg : Bool
  m : Nat
  f : Nat
  deriving DecidableEq, Repr

/-- A tumbler: the selection of the running cycle, the runs of R143 by position, HEALTHY at the previous selection (R137) and whether
that selection was clamped (R139). -/
structure Tum where
  pick : Option Pick := none
  xrun : SMap Nat := []
  prevHealthy : Option Nat := none
  clamped : Bool := false
  deriving DecidableEq, Repr

/-! ## The control fabric (05_control_fabric.md) -/

/-- An entry of a receive channel: the low 2 bits of the sender's cycle number and the value (R192). -/
structure ChanEnt where
  tag : Nat
  value : Nat
  deriving DecidableEq, Repr

/-- A CTLD or CTST request of the list of `cycle` (R196 to R198): `arg` is the mailbox, or the word to store. -/
structure CtReq where
  cycle : Nat
  store : Bool
  slot : Nat
  word : Nat
  arg : Nat
  deriving DecidableEq, Repr

/-- A tile of the fabric (Table 5.1). A coefficient is its 32-bit value plus its 6-bit shift times 2^32; `acc` is the signed 64-bit
accumulator. The SHADOW plane is the plane of the staged image (06_keying_image.md). -/
structure TileSt where
  steps : SMap Nat := []
  used : Bool := false
  sp : SMap Nat := []
  coef : SMap Nat := []
  coefShadow : SMap Nat := []
  s : SMap Nat := []
  acc : Int := 0
  /-- The input banks of even and odd cycles (R186). -/
  in0 : SMap Nat := []
  in1 : SMap Nat := []
  mb : SMap Nat := []
  reqs : List CtReq := []
  chan : SMap (List ChanEnt) := []
  /-- Entries on their way to a channel, oldest first (R192). -/
  flight : List (Nat × ChanEnt) := []
  /-- Scratchpad words that the step before wrote, with the values they had (R183). -/
  spOld : List (Nat × Nat) := []
  /-- The list that runs: its cycle, the step it stands at, and the FCLK cycles it has used. -/
  run : Option Nat := none
  pc : Nat := 0
  spent : Nat := 0
  /-- The cycle of the last list finished, aborted or skipped, and whether it missed FD (R105, R109). -/
  lastDone : Option Nat := none
  late : Bool := false
  deriving DecidableEq, Repr

/-- A model-watch unit (R199 to R202): E_MODEL in mJ, the runs outside the ALARM and TRIP bands and inside the ALARM band, and
whether the ALARM, or the TRIP of this run, has been raised. -/
structure Mw where
  e : Int := 0
  aRun : Nat := 0
  tRun : Nat := 0
  inRun : Nat := 0
  alarmed : Bool := false
  tripped : Bool := false
  deriving DecidableEq, Repr

/-- What the tiles share (05_control_fabric.md). -/
structure Fab where
  /-- Output banks of even and odd cycles, and the cycle plus 1 in which a port was last written (R189, R199). -/
  out0 : SMap Nat := []
  out1 : SMap Nat := []
  outCyc : SMap Nat := []
  /-- Protection lines (R191). -/
  lines : SMap Nat := []
  mw : SMap Mw := []
  /-- The last cycle whose U, and whose FD, has been reached (R187, R98). -/
  delivered : Option Nat := none
  fdDone : Option Nat := none
  /-- List times of the last 1,024 cycles: cycle, tile and time (FAB_LOAD). -/
  loads : List (Nat × Nat × Nat) := []
  /-- Words visited in the running scrub pass (R203). -/
  scrubbed : SMap Nat := []
  /-- The samples of the decimators in the last cycles, by concentrator times 8 plus decimator: cycle, tick and value (R188). -/
  decs : SMap (List (Nat × Nat × Nat)) := []
  deriving DecidableEq, Repr

/-! ## Stores, sessions and pointers (17_updates.md) -/

/-- A store in flash: its package header, its pieces by index, and the hash recorded when it was verified. -/
structure Store where
  hdr : List Byte := []
  pieces : SMap (List Byte) := []
  hash : Option Nat := none
  deriving DecidableEq, Repr

/-- A session (17_updates.md Table 17.3): its state code, its header, the pieces stored, and the handles of VERIFY that wait. -/
structure Session where
  st : Nat := 0
  hdr : List Byte := []
  bits : SMap Nat := []
  waiting : List Nat := []
  deriving DecidableEq, Repr

/-- One copy of a pointer (Table 17.4); `valid`: its CRC holds. -/
structure PtrCopy where
  valid : Bool := false
  seq : Nat := 0
  second : Bool := false
  trial : Bool := false
  boots : Nat := 0
  fellBack : Bool := false
  age : Nat := 0
  version : Nat := 0
  secCtr : Nat := 0
  deriving DecidableEq, Repr

/-- A pointer in its two copies (R534). -/
structure Ptr where
  c0 : PtrCopy := {}
  c1 : PtrCopy := {}
  deriving DecidableEq, Repr

/-- The firmware of a concentrator or a cell: banks 0 and 1, pointer, the idle-bank session, and the fragments received (R547, R548). -/
structure PartFw where
  bank0 : Store := {}
  bank1 : Store := {}
  ptr : Ptr := {}
  sess : Session := {}
  hdrFrags : SMap (List Byte) := []
  dataIndex : Nat := 0
  dataFrags : SMap (List Byte) := []
  /-- The SESSION of the last HEADER received, and a header of a new session in the making. -/
  tag : Nat := 0
  newTag : Nat := 0
  /-- The bank whose image runs. -/
  run : Bool := false
  /-- An image runs: the part has found a valid one (R536). -/
  up : Bool := false
  fallbackWait : Bool := false
  deriving DecidableEq, Repr

/-- A distribution that runs (R542, R543): handle, KIND, the parts selected, those holding a VERIFIED copy, and the rounds left. -/
structure Dist where
  handle : Nat
  kind : Nat
  targets : List Nat
  holding : List Nat := []
  rounds : Nat := 3
  deriving DecidableEq, Repr

/-- A WAVE that runs (R544): handle, arm, MAX, the cycle in which it started, the cells of the running wave and the local counter when it
began, the cells activated and those that failed. -/
structure WaveJob where
  handle : Nat
  arm : Nat
  max : Nat
  start : Nat
  cells : List Nat := []
  begun : Nat := 0
  done : List Nat := []
  failed : List Nat := []
  deriving DecidableEq, Repr

/-- The update engine of a leaf: the stores of its flash, the pointers, the sessions by KIND, the enrolled owner key, and the commands that
run (log entry 3, DESIGN CHOICE). -/
structure Upd where
  fwA : Store := {}
  fwB : Store := {}
  keyA : Store := {}
  keyB : Store := {}
  conc : Store := {}
  cell : Store := {}
  boot : Ptr := {}
  kptr : Ptr := {}
  sess : SMap Session := []
  owner : Option Nat := none
  /-- The partner has a different owner key enrolled (R533). -/
  ownerBad : Bool := false
  dist : List Dist := []
  waves : List WaveJob := []
  /-- Handles of ACTIVATE that wait: handle, KIND and the part named. -/
  acts : List (Nat × Nat × Nat) := []
  /-- A trial fallback of the firmware waits (R537). -/
  fwWait : Bool := false
  /-- The VERSION of the image that runs. -/
  running : Nat := 0
  deriving DecidableEq, Repr


/-! ## The keying image (06_keying_image.md) -/

/-- TOPOLOGY of one arm (Table 6.3). -/
structure ArmRec where
  cells : Nat
  full : Nat
  nReq : Nat
  concs : List Nat
  deriving DecidableEq, Repr

/-- PORT_MAP entry (Table 6.4). -/
structure PortEnt where
  conc : Nat
  port : Nat
  type : Nat
  pos : Nat
  deriving DecidableEq, Repr

/-- FABRIC_PLANE block of a tile (Table 6.5): 64-bit step words. -/
structure TileBlk where
  tile : Nat
  wcet : Nat
  steps : List Nat
  deriving DecidableEq, Repr

/-- ROUTING entry (Table 6.6). -/
structure RouteEnt where
  tile : Nat
  inp : Nat
  kind : Nat
  source : Nat
  deriving DecidableEq, Repr

/-- One coefficient: index, signed shift as 6 bits, value (Table 6.7). -/
structure CoefEnt where
  index : Nat
  shift : Nat
  value : Nat
  deriving DecidableEq, Repr

/-- COEFFICIENTS block of a tile (Table 6.7). -/
structure CoefBlk where
  tile : Nat
  group : Nat
  entries : List CoefEnt
  deriving DecidableEq, Repr

/-- TUMBLER_POLICY of an arm (Table 6.8): seven register images, POLICY to CMIN. -/
structure TumPol where
  regs : List Nat
  warn : Nat
  group : Nat
  ssMode : Nat
  deriving DecidableEq, Repr

/-- A model-watch record of PROTECTION (Table 6.9). -/
structure MwRec where
  alarm : Nat
  trip : Nat
  alarmP : Nat
  tripP : Nat
  leak : Nat
  group : Nat
  deriving DecidableEq, Repr

/-- PROTECTION (Table 6.9). -/
structure Prot where
  chargeDet : Nat
  discharge : Nat
  readyV : Nat
  readyP : Nat
  chargeLim : Nat
  lineClass : Nat
  fabRoute : Nat
  fltVcp : Nat
  fltConc : Nat
  mw : List MwRec
  deriving DecidableEq, Repr

/-- COMMIT_GROUPS entry (Table 6.10). -/
structure GroupEnt where
  group : Nat
  kinds : Nat
  members : Nat
  deriving DecidableEq, Repr

/-- STATE_MAP entry (Table 6.11). -/
structure StateEnt where
  tile : Nat
  space : Nat
  words : Nat
  addr : Nat
  init : Nat
  signal : Nat
  deriving DecidableEq, Repr

/-- A keying image (06_keying_image.md). A digest is the number whose top byte is digest byte 0. -/
structure Image where
  hash : Nat
  version : Nat
  secCtr : Nat
  period : Nat
  critPath : Nat
  stateHash : Nat
  mapHash : Nat
  arms : List ArmRec
  ports : List PortEnt
  tiles : List TileBlk
  routes : List RouteEnt
  coefs : List CoefBlk
  pols : List TumPol
  prot : Prot
  groups : List GroupEnt
  smap : List StateEnt
  deriving DecidableEq, Repr

/-- A LOAD that runs: its handle, the ward (false A, true B), and the FALLBACK it serves. Handle 0: no command waits. -/
structure LoadJob where
  handle : Nat
  ward : Bool
  fallback : Bool := false
  startUp : Bool := false
  /-- The start-up load of the other ward, after the pointer's ward failed (R239). -/
  second : Bool := false
  deriving DecidableEq, Repr

/-- A scheduled swap (R226). -/
structure SwapPend where
  handle : Nat
  j : Nat
  hitless : Bool
  period : Nat
  ward : Bool
  /-- The swap of a FALLBACK, of a start-up (R239), or of a fallback that the update rules ask for (R243). -/
  fallback : Bool := false
  startUp : Bool := false
  fellBack : Bool := false
  deriving DecidableEq, Repr

/-- The keying engine (06_keying_image.md) (log entry 3, DESIGN CHOICE). -/
structure Key where
  active : Option Image := none
  staged : Option Image := none
  stagedWard : Bool := false
  load : Option LoadJob := none
  pend : Option SwapPend := none
  /-- The image hash that the partner has staged (R225, R235). -/
  partnerStaged : Option Nat := none
  /-- The LOAD that waits for the partner, and whether a FALLBACK goes on from it (Table 6.14). -/
  waitPartner : Option LoadJob := none
  /-- STATE_HASH active before a warm reset (R240). -/
  keptState : Option Nat := none
  /-- Cycle from which sums decide the first state after a swap in UNKEYED (R231). -/
  firstSums : Option Nat := none
  /-- Cycle from which the lists of a clearing swap run (R229). -/
  runFrom : Nat := 0
  /-- An automatic fallback waits (R243). -/
  fallbackWait : Bool := false
  deriving DecidableEq, Repr

/-! ## The set-point profiler (07_setpoint_profiler.md) -/

/-- The profiler. -/
structure Prof where
  chans : SMap Chan := []
  /-- Handles of the SETPOINT commands that take effect at the next tick, in acceptance order (R249). -/
  waiting : List Nat := []
  /-- Blend time left, in units of 100 ns (R259). -/
  left : Nat := 0
  /-- The cycle in which a CLEAR_TRIP last completed DONE (R258). -/
  clearAt : Option Nat := none
  /-- The cycle of the last tick, made or received (R268). -/
  ticked : Nat := 0
  deriving DecidableEq, Repr
/-! ## The cell controller (08_cell_switching.md, 09_cell_measurement_and_sleep.md) -/

/-- The power states of a cell (09_cell_measurement_and_sleep.md Table 9.8). -/
inductive CellPow where
  | off | sleep | run
  deriving DecidableEq, Repr

/-- The operating states of a cell (04_tumblers_and_arm_modulation.md Table 4.3, Table 8.5). -/
inductive CellSt where
  | starting | ready | silBlocked | tripBlocked | bypassFired | bolted | undervolt | updating
  deriving DecidableEq, Repr

/-- The code of a state (Table 4.3). -/
def CellSt.code : CellSt → Nat
  | .starting => 0
  | .ready => 1
  | .silBlocked => 2
  | .tripBlocked => 3
  | .bypassFired => 4
  | .bolted => 5
  | .undervolt => 6
  | .updating => 7

/-- A valid command word that the cell holds (R275): latch cycle, offset in ticks, word, and the IARM_C of its frame. -/
structure HeldWord where
  cycle : Nat
  ofs : Nat
  word : Nat
  iarm : Nat
  deriving DecidableEq, Repr

/-- An ideal transition to come: its tick, its ideal state, and whether its word has not been executed yet (R277, R279). An ideal
state is a CMD code times 16 plus the levels of G4 to G1. -/
structure Ideal where
  tick : Nat
  st : Nat
  tentative : Bool := false
  deriving DecidableEq, Repr

/-- An edge to come: its tick, its gate 0 to 3 and its level. -/
structure Edge where
  tick : Nat
  gate : Nat
  level : Bool
  deriving DecidableEq, Repr

/-- The switching unit. Ticks count PWM ticks on the cell's grid since the wake. -/
structure CellSw where
  st : CellSt := .starting
  /-- The tick at which the running cycle began, its length, and the tick of the last event. -/
  start : Nat := 0
  len : Nat := 3200
  now : Nat := 0
  /-- Planned slips by cycle number modulo 65,536, in the code of SLIP_PLAN. -/
  slips : SMap Nat := []
  held : List HeldWord := []
  /-- Consecutive cycles with a valid control frame (R116). -/
  validRun : Nat := 0
  /-- STARTING has been left since the wake, or since an update. -/
  started : Bool := false
  /-- The word of the running cycle has had its latch time. -/
  latched : Bool := false
  /-- A word has been executed since the wake (R295). -/
  executed : Bool := false
  /-- The ideal state in force, the one before it, and the tick of its transition. -/
  ideal : Nat := 0
  before : Nat := 0
  since : Nat := 0
  plan : List Ideal := []
  edges : List Edge := []
  /-- The tick of the last falling edge by gate; 0 while there was none. -/
  lowAt : SMap Nat := []
  /-- The gates go low when LEAD ends (R283). -/
  lead : Bool := false
  /-- The NOTE of R281 has been raised since CPWM_SHORT_CNT was last read. -/
  shortNoted : Bool := false
  /-- Register words held back, by offset (R282, R317). -/
  pwmHeld : SMap Nat := []
  adcHeld : SMap Nat := []
  /-- Local mode (R296 to R298): the next period start, a DUTY write not yet transferred, a PERIOD write without its DUTY write. -/
  locNext : Option Nat := none
  pairReady : Bool := false
  periodOpen : Bool := false
  /-- The lane clock is locked, and a grid marker has come since the lane entered UP (R58, R346). -/
  laneClock : Bool := true
  laneMarked : Bool := false
  deriving DecidableEq, Repr

/-- Trips and bypass. Times are in milliseconds since the wake. -/
structure CellTrip where
  ms : Nat := 0
  /-- The times of the trips of the last 1,000 ms (R288). -/
  window : List Nat := []
  /-- The time from which every enabled input has been inactive (R287). -/
  quiet : Nat := 0
  /-- Fire pulses run; the coil is energised; the coil pulses begun (R291, R292). -/
  firing : Bool := false
  coil : Bool := false
  coils : Nat := 0
  deriving DecidableEq, Repr

/-- What the SAR converter converts. -/
inductive SarJob where
  | none | cap | general (ch : Nat) | entry (src : Nat) (i : Nat) (left : Nat)
  deriving DecidableEq, Repr

/-- The converter. A source is 0 for the synchronous sample and 1 to 4 for CMP0 to CMP3 (R320). -/
structure CellAdc where
  job : SarJob := .none
  /-- The runs that wait, by source, and a run whose entry was aborted: source, entry, entries left. -/
  pend : List Nat := []
  susp : Option (Nat × Nat × Nat) := none
  /-- A general conversion waits to start or to be restarted. -/
  general : Bool := false
  /-- The cycle of the last sample and its tick. -/
  sample : Nat := 0
  sampleAt : Nat := 0
  /-- The latest capacitor result. -/
  vcap : Nat := 0
  ovHard : Bool := false
  ovWarn : Bool := false
  late : Bool := false
  /-- The latest TEMP result. -/
  temp : Int := 0
  seq : Nat := 0
  /-- The frame formed and not yet sent (R332, R362). -/
  frame : Option Nat := none
  /-- Calibration (R322 to R326): a request waits, a calibration runs, a slice runs, its time in ticks, cycles since the last slice
  began, and a calibration whose coefficients wait for the cycle start. -/
  calReq : Bool := false
  calRun : Bool := false
  slice : Bool := false
  got : Nat := 0
  sinceSlice : Nat := 0
  calNew : Bool := false
  /-- Delta-sigma outputs since EN was set, and no overload in the latest. -/
  dsm : Nat := 0
  dsmClean : Bool := true
  deriving DecidableEq, Repr

/-- An event-log entry (Table 9.7) with the fault record it belongs to. LOCAL is in microseconds. -/
structure LogEnt where
  r : FaultRec
  local_ : Nat
  lost : Bool := false
  deriving DecidableEq, Repr

/-- The retention domain (Table 9.6). The protection state is that of the live registers (R334) (log entry 3, DESIGN CHOICE). -/
structure CellRet where
  /-- The validity latch, and an uncorrectable error marked in the header or the protection area (R335). -/
  latch : Bool := false
  bad : Bool := false
  /-- The three BOLTED copies. -/
  bolt0 : Bool := false
  bolt1 : Bool := false
  bolt2 : Bool := false
  counters : SMap Nat := []
  mapHash : Nat := 0
  log : SMap (Option LogEnt) := []
  logSeq : Nat := 0
  station : SMap Nat := []
  /-- A retention error waits to be raised (R337). -/
  errWait : Bool := false
  deriving DecidableEq, Repr


/-! ## Discovery (11_discovery_and_membership.md) -/

/-- What a leaf knows of a slot (R385, R386, R390): the slot's serial number, the one it held when it last left ACTIVE, the reason of a
quarantine, and the last answer on its port. -/
structure SlotInfo where
  sn : Nat := 0
  lastSn : Nat := 0
  qreason : Nat := 0
  answered : Bool := false
  ans : Nat := 0
  variant : Nat := 0
  fw : Nat := 0
  st : Nat := 0
  lock : Bool := false
  hard : Nat := 0
  type : Nat := 0
  trial : Bool := false
  deriving DecidableEq, Repr

/-- Discovery. -/
structure Disc where
  /-- AID_CAP of the concentrators, by uplink index (R380). -/
  caps : SMap Nat := []
  slots : SMap SlotInfo := []
  /-- UNJOINs ordered, by concentrator times 256 plus port (Table 11.3). -/
  unjoin : SMap Nat := []
  /-- Ports whose unmapped answer has been noted, with the number of times their lane had reached UP (R387). -/
  noted : SMap Nat := []
  /-- REPLACE commands that wait for the boundary: handle and slot (R389). -/
  replace : List (Nat × Nat) := []
  /-- Slots that a REPLACE has freed, by handle (Table 11.5). -/
  replaced : List (Nat × Nat) := []
  /-- Concentrators whose absence has been raised (R380). -/
  missing : List Nat := []
  /-- The concentrators' serial numbers as the partner found them, and the uplinks whose wiring fault has been raised (R25). -/
  partnerSn : SMap Nat := []
  wiring : List Nat := []
  deriving DecidableEq, Repr

/-! ## The disturbance recorder (15_disturbance_recorder.md) -/

/-- What a trigger unit remembers between two samples of its source (R478): the sample before with its instant, whether the value has been
at or below A less HYST (at or above A plus HYST) since the last crossing, the samples since the last crossing, the width of the pulse or
transition that runs, whether it reached B, and the output. -/
structure TrigU where
  prev : Option (Int × Int) := none
  low : Bool := false
  high : Bool := false
  since : Nat := 0
  width : Option Nat := none
  reachedB : Bool := false
  out : Bool := false
  deriving DecidableEq, Repr

/-- A trigger that was taken: its instant (linear station time), FRAC, the units that were true, the cycle of its row, and FORCED. -/
structure Trig where
  at_ : Int
  frac : Nat
  units : Nat
  row : Nat
  forced : Bool
  unset : Bool
  deriving DecidableEq, Repr

/-- A row of the running record: its cycle and the start of that cycle. -/
structure RowMark where
  cycle : Nat := 0
  start : Int := 0
  deriving DecidableEq, Repr

/-- The layout that ARM fixes (R475, R476): fast channels with the sample period in 0.625 ns, slow channels, event groups, MAXF, CAP, SIZE in
4 KiB and T_c in 0.625 ns, and the measurement registers. -/
structure RecGeo where
  fast : List (Nat × Nat) := []
  slow : List Nat := []
  evs : List Nat := []
  fmask : Nat := 0
  smask : List Nat := []
  maxf : Nat := 0
  cap : Nat := 0
  size : Nat := 1
  tc : Nat := 320
  meas : List Nat := []
  deriving DecidableEq, Repr

/-- A record whose header is in the making (R484). -/
structure RecClose where
  seg : Nat
  recno : Nat
  p : Nat
  post : Nat
  first : Nat
  retrig : Nat
  trig : Trig
  oldest : RowMark
  shortPre : Bool
  clamped : Bool
  overflow : Bool
  trunc : Bool
  hinge : Bool
  geo : RecGeo
  deriving DecidableEq, Repr

/-- The recorder. -/
structure Rec where
  /-- The recorder memory by word. -/
  mem : SMap Nat := []
  /-- Segments that are not FREE: state (1 CAPTURING, 2 READY) and the record they hold. -/
  segs : SMap (Nat × Nat) := []
  seg : Nat := 0
  geo : RecGeo := {}
  /-- Rows written in PRE, and their marks by slot. -/
  pre : Nat := 0
  marks : SMap RowMark := []
  trig : Option Trig := none
  p : Option Nat := none
  post : Nat := 0
  /-- POST as ARM applied it (R486). -/
  postN : Nat := 1
  clamped : Bool := false
  retrig : Nat := 0
  units : SMap TrigU := []
  cond : Bool := false
  /-- Fast samples that wait for their row, by fast channel: cycle, slot and 16-bit value. -/
  samples : SMap (List (Nat × Nat × Nat)) := []
  /-- RATE of each decimator, by concentrator times 8 plus decimator, as its last frame gave it. -/
  rates : SMap Nat := []
  /-- Cycle of the last row closed. -/
  lastRow : Option Nat := none
  /-- The missed-trigger ring: instant, cycle and units (R483). -/
  miss : SMap (Nat × Nat × Nat) := []
  closing : List RecClose := []
  /-- Local counter when PRE was entered (R481). -/
  preAt : Nat := 0
  deriving DecidableEq, Repr

/-- A decimator of a concentrator: the samples of the frame in the making (R471). -/
structure Dec where
  cycle : Nat := 0
  tick : Nat := 0
  samples : List Nat := []
  ovr : Bool := false
  deriving DecidableEq, Repr

/-! ## The personnel-safety block (16_personnel_safety.md) -/

/-- An input pair: the consecutive ticks an OSSD channel has stood at its demand level, the run of disagreement (R501), the length of the
press that runs and the groups that were in WAIT_RESET when it began (R506), and whether it was reported as held (R507). -/
structure SafPair where
  demA : Nat := 0
  demB : Nat := 0
  disagree : Nat := 0
  press : Nat := 0
  waiting : Nat := 0
  heldRaised : Bool := false
  deriving DecidableEq, Repr

/-- A Hasp connection: the last SEQ accepted or sent, whether any SEQ resynchronises it, frames in sequence while not OK, and the local
counter at the last accepted frame while the time expectation runs (R513, R514). -/
structure HaspConn where
  last : Nat := 0
  resync : Bool := true
  good : Nat := 0
  timing : Option Nat := none
  deriving DecidableEq, Repr

/-- The first copy of an order at a receiver: its network, its bytes but REPEAT and SCRC, its ORDER_SEQ and the local counter. -/
structure OrdCopy where
  net : Nat
  body : List Byte
  seq : Nat
  at_ : Nat
  matched : Bool := false
  deriving DecidableEq, Repr

/-- A receiver of trip orders: the last ORDER_SEQ executed, and the order being matched (R516, R517). -/
structure OrdRx where
  last : Option Nat := none
  first : Option OrdCopy := none
  deriving DecidableEq, Repr

/-- A trip order that this block sends: ORDER_SEQ, group, ISSUED and the next REPEAT (R515). -/
structure OrdTx where
  seq : Nat
  group : Nat
  issued : Nat
  next : Nat
  deriving DecidableEq, Repr

/-- The safety block. -/
structure Saf where
  pairs : SMap SafPair := []
  /-- Ticks since the first pair of a TWO_HAND group became RUN in WAIT_RESET. -/
  twoHand : SMap (Option Nat) := []
  /-- Ticks in UNKEYED or KEYED_IDLE without a break, and the RELEASE outputs permitted (R509). -/
  idle : Nat := 0
  permitted : Nat := 0
  hasp : SMap HaspConn := []
  rx : SMap OrdRx := []
  tx : List OrdTx := []
  ordSeq : Nat := 0
  deriving DecidableEq, Repr

/-! ## The scheduler (18_cores_and_scheduler.md) -/

/-- The states of a thread slot (R560). -/
inductive ThrSt where
  | dormant | ready | running | blocked
  deriving DecidableEq, Repr

/-- The code of a thread state (Table 18.7). -/
def ThrSt.code : ThrSt → Nat
  | .dormant => 0
  | .ready => 1
  | .running => 2
  | .blocked => 3

/-- A thread slot. -/
structure Thr where
  st : ThrSt := .dormant
  pend : Bool := false
  pair : Nat := 0
  prio : Nat := 0
  aff : Nat := 0
  deriving DecidableEq, Repr

/-- The scheduler, and what the core-local blocks hold (Tables 18.5 to 18.7). -/
structure Sch where
  thr : SMap Thr := []
  /-- The ready lists by priority, first in first. -/
  lists : SMap (List Nat) := []
  /-- The running thread of each pair. -/
  run : SMap (Option Nat) := []
  /-- Pairs 1 to 3 released by pair 0 (CORE_RELEASE), as bits. -/
  released : Nat := 0
  /-- Machine timer interrupts pending, as bits, and CORE_MTIMECMP of each pair (R566). -/
  mtip : Nat := 0
  cmp : SMap Nat := []
  /-- Upper half of CORE_MTIME captured by a read of the lower (00_scope.md R15), by pair. -/
  hold : SMap Nat := []
  /-- The trace RAM by word, the records written since it was cleared, and the next sequence number (R565). -/
  trace : SMap Nat := []
  traced : Nat := 0
  seq : Nat := 0
  deriving DecidableEq, Repr

/-! ## Power, reset and start-up (19_power_reset_startup.md) -/

/-- The start-up of a leaf: the step of Table 19.4 (1 to 7; 8 when it has ended, 0 in BOOT_FAILED), whether RESET_N holds it, the lanes
that have come UP or timed out in step 5 (uplink index, then 48 plus the mirror lane), and a warm reset that waits for a hand-over. -/
structure Pwr where
  step : Nat := 1
  held : Bool := false
  settled : List Nat := []
  warmWait : Option Nat := none
  /-- The local counter when the last reset ended (PWR_UPTIME). -/
  upAt : Nat := 0
  deriving DecidableEq, Repr

/-! ## The concentrator's command path (03_control_cycle.md, 13_the_hinge.md) -/

/-- A valid command held for a latch cycle (13_the_hinge.md R436): its leaf, its latch cycle modulo 65,536, a skip header or not, whether its
words may be fanned out (01_architecture.md R30), its CONV_STATE, and the word of each mapped port. A block header has no words. -/
structure HeldSet where
  leaf : Nat
  cycle : Nat
  skip : Bool
  use : Bool
  block : Bool
  conv : Nat
  words : List (Nat × Nat)
  deriving DecidableEq, Repr

/-- The command path of a concentrator. Cycle numbers are modulo 65,536. -/
structure ConcSw where
  /-- An uplink has been UP since the start (19_power_reset_startup.md R584). -/
  linked : Bool := false
  held : List HeldSet := []
  /-- ARM_INFO frames held: leaf, latch cycle, IARM; and the last IARM received (10_flenor_links.md R356). -/
  iarms : List (Nat × Nat × Nat) := []
  iarm : Nat := 0
  /-- The latch cycle whose replay instant came last, and the set that is fanned out for it; none: a replay. -/
  passed : Option Nat := none
  cur : Option HeldSet := none
  /-- What was last fanned out: port, word and offset (R110). -/
  words : List (Nat × Nat × Nat) := []
  /-- The words fanned out for the last latch cycles (10_flenor_links.md R358). -/
  sent : List (Nat × List (Nat × Nat)) := []
  /-- CONV_STATE of the last header fanned out, and the map page of the last header accepted. -/
  conv : Nat := 0
  page : Nat := 0
  /-- Planned slips by cycle (02_clocks_and_time.md R76), and the cut-off of the last header (R100). -/
  slips : SMap Nat := []
  cutoff : Nat := 0
  /-- The latest frame that each leaf sent at a publish deadline: its cycle, and whether it makes the leaf available (13_the_hinge.md R436). -/
  seen0 : Option (Nat × Bool) := none
  seen1 : Option (Nat × Bool) := none
  /-- BLOCK goes out until the next valid set (14_faults.md R462). -/
  blockHold : Bool := false
  /-- The records of the running cycle: the cycle, and record and port in the order of arrival; the records after the cut-off; and the
  last cycle whose SUMS record was sent (R101). -/
  recCyc : Option Nat := none
  recs : List (Nat × Nat) := []
  late : Nat := 0
  summed : Option Nat := none
  deriving DecidableEq, Repr

/-- The knocks of a port: KNOCK_SEQ of the last one, the JOIN knocks since the slot was KNOCKED, and the UNJOINs sent (R381, R382,
Table 11.3). -/
structure Knock where
  seq : Nat := 0
  joins : Nat := 0
  unjoined : Nat := 0
  deriving DecidableEq, Repr

/-! ## What the parts send (the model's own record, log entry 5, DESIGN CHOICE) -/

/-- Something a part has sent or driven: a frame or block on a lane, a mirror frame, an interrupt, a write to host memory, a
level or pulse on a pin (log entry 5, DESIGN CHOICE). -/
inductive Out where
  | frame (lane : LaneEnd) (type : Nat) (payload : List Nat)
  | mirror (m : MirrorMsg)
  | marker (lane : LaneEnd) (m : Marker)
  | grant (lane : LaneEnd) (g : GrantMsg)
  | msix (vec : Nat)
  | dma (addr : Nat) (words : List Nat)
  | dmaBytes (addr : Nat) (bytes : List Byte)
  | pin (name : String) (v : Nat)
  | gate (tick : Nat) (gate : Nat) (level : Bool)
  | trigger (n : Nat)
  | safeOut (n : Nat) (on : Bool)
  | coreIrq (pair : Nat) (cause : Nat)
  | net (port : Nat) (bytes : List Byte)
  | ptp (port : Nat) (msgType : Nat) (origin : Nat) (correction : Int) (udpChecksumZero : Bool)
  deriving DecidableEq, Repr
/-! ## Retransmission (10_flenor_links.md R366, R367) -/

/-- The sender of a lane: TSEQ of the oldest unacknowledged frame, the unacknowledged frames, those that wait, and how often the oldest
was retransmitted (log entry 59, DEDUCED). -/
structure LaneQ where
  base : Nat := 0
  unacked : List Out := []
  waiting : List Out := []
  tries : Nat := 0
  /-- How often the lane has entered UP. -/
  ups : Nat := 0
  /-- The number of the next marker, and that of the last one received (R364). -/
  mkId : Nat := 0
  echo : Nat := 0
  deriving DecidableEq, Repr


/-- A valve control processor. -/
@[ext] structure Leaf where
  ident : LeafIdent := {}
  bank : SMap Nat := []
  shadow : SMap Nat := []
  hold : SMap Nat := []
  rdata : Nat := 0
  out : List Out := []
  freeIdx : Nat := 0
  lanes : SMap LaneQ := []
  conv : ConvSt := {}
  tim : Tim := {}
  hnd : Hnd := {}
  hng : Hng := {}
  flt : FltStore := {}
  key : Key := {}
  cyc : Cyc := {}
  tiles : SMap TileSt := []
  tum : SMap Tum := []
  fab : Fab := {}
  prof : Prof := {}
  pwr : Pwr := {}
  upd : Upd := {}
  sch : Sch := {}
  rcd : Rec := {}
  disc : Disc := {}
  saf : Saf := {}
  deriving DecidableEq, Repr

/-- A concentrator. -/
@[ext] structure Concentrator where
  ident : ConcIdent := {}
  /-- Delay measurements by port, then 256 plus the uplink (02_clocks_and_time.md R83, R84). -/
  meas : SMap LinkMeas := []
  bank : SMap Nat := []
  rdata : Nat := 0
  out : List Out := []
  freeIdx : Nat := 0
  lanes : SMap LaneQ := []
  flt : FltStore := {}
  /-- Handles and results of the last 16 REMOTE_WRITEs (12_host_interface_and_handles.md R416), oldest first. -/
  remote : List RemoteRes := []
  fw : PartFw := {}
  time : Int := 0
  timeUnset : Bool := true
  cyc : Nat := 0
  dec : SMap Dec := []
  sw : ConcSw := {}
  knocks : SMap Knock := []
  /-- The port mask of the last SELECT, and the UPDATE frames for its cells that wait (17_updates.md R543, R547), each with its OP. -/
  relayMask : Nat := 0
  relay : List (Nat × UpdFrame) := []
  deriving DecidableEq, Repr

/-- A cell controller. -/
@[ext] structure Cell where
  ident : CellIdent := {}
  bank : SMap Nat := []
  rdata : Nat := 0
  out : List Out := []
  freeIdx : Nat := 0
  lanes : SMap LaneQ := []
  remote : List RemoteRes := []
  fw : PartFw := {}
  time : Int := 0
  timeUnset : Bool := true
  cyc : Nat := 0
  /-- CONV_STATE of the last control frame (10_flenor_links.md Table 10.6). -/
  conv : Nat := 0
  pow : CellPow := .off
  /-- RESET_N holds the running cell in pin reset (19_power_reset_startup.md R585). -/
  held : Bool := false
  sw : CellSw := {}
  trip : CellTrip := {}
  adc : CellAdc := {}
  ret : CellRet := {}
  deriving DecidableEq, Repr

/-- The chip set of one converter (01_architecture.md R19, R22 to R24, R27): the two leaves, the concentrators and cells by number (a number not listed is a part as reset leaves it),
and the queue of commands. -/
structure State where
  leaf0 : Leaf
  leaf1 : Leaf
  concs : SMap Concentrator
  cells : SMap Cell
  pending : List Instr
  deriving DecidableEq, Repr

/-- Why the machine stops: no command of the spec stops the chip set, so there is no such reason. -/
inductive Fault where
  deriving DecidableEq, Repr

/-- Why the model answers with no meaning. -/
inductive Refusal where
  /-- Raised by `exec` for a command without a meaning yet, by the table's name. Safe: nothing is claimed of it. -/
  | notModelled (mnemonic : String)
  deriving DecidableEq, Repr

/-- The chip set right after reset: leaf 0 and leaf 1 by their straps, every other field as its structure gives it, an empty
queue. The reset values the spec does not give are those of log entries 2 and 3, DESIGN CHOICE. -/
def State.reset : State where
  leaf0 := {}
  leaf1 := { ident := { leaf := 1, serial := 2 } }
  concs := []
  cells := []
  pending := []

end Sys2Proof.Machine
end

