-- ==== Sys2Proof/Machine/RegMap.lean ====
section
/-! DEFINITION. The register fields of every part, one `Fld` per field of the spec's field tables, and the table of each part.
A field is named REGISTER_FIELD with the spec's names; an index letter in a register's name (n, p, t ...) stands for the
copies that `stride` and `count` describe. Resets the tables give as a word (per variant, fuse, strap, stored, random,
none) are 0 here and are set by `State.reset` or by the operation that loads them (log entries 2 and 3, DESIGN CHOICE). Fields of the
lane register set are relative to the base of a lane (10_flenor_links.md). The register blocks are those of R89, R90, R125, R211, R271, R378,
R448, R468, R553 and R587. -/

namespace Sys2Proof.Machine.Reg
open Sys2Proof.Machine


/-! 00_scope.md, Table 0.11 -/
def ID_PART_DEVICE : Fld := ⟨0x0, 16, 16, .ro, 0, 0, 1, .any⟩
def ID_PART_STEPPING : Fld := ⟨0x0, 8, 8, .ro, 0, 0, 1, .any⟩
def ID_VENDOR_VENDOR : Fld := ⟨0x4, 0, 16, .ro, 0, 0, 1, .any⟩

/-! 00_scope.md, Table 0.3 -/
def ID_CAP_VARIANT : Fld := ⟨0x8, 24, 8, .ro, 0, 0, 1, .any⟩
def ID_CAP_ARM_CELLS : Fld := ⟨0x8, 12, 4, .ro, 0, 0, 1, .any⟩
def ID_CAP_REC_SIZE : Fld := ⟨0x8, 8, 4, .ro, 0, 0, 1, .any⟩
def ID_CAP_SAF : Fld := ⟨0x8, 1, 1, .ro, 0, 0, 1, .any⟩
def ID_CAP_REC : Fld := ⟨0x8, 0, 1, .ro, 0, 0, 1, .any⟩

/-! 00_scope.md, Table 0.11 -/
def ID_FUSE_TEST_FUSE : Fld := ⟨0xC, 1, 1, .ro, 0, 0, 1, .any⟩
def ID_FUSE_FUSE_OK : Fld := ⟨0xC, 0, 1, .ro, 0, 0, 1, .any⟩
def ID_SERIAL_LO_SN : Fld := ⟨0x10, 0, 32, .ro, 0, 0, 1, .any⟩
def ID_SERIAL_HI_SN : Fld := ⟨0x14, 0, 32, .ro, 0, 0, 1, .any⟩
def ID_FW_VER_VERSION : Fld := ⟨0x18, 0, 32, .ro, 0, 0, 1, .any⟩
def ID_ROM_VER_VERSION : Fld := ⟨0x1C, 0, 32, .ro, 0, 0, 1, .any⟩

/-! 02_clocks_and_time.md, Table 2.8 -/
def TIM_CTL_OP : Fld := ⟨0x10000, 0, 2, .rwc, 0, 0, 1, .any⟩

/-! 02_clocks_and_time.md, Table 2.9 -/
def TIM_STATUS_FOLLOWING : Fld := ⟨0x10004, 9, 1, .ro, 0, 0, 1, .any⟩
def TIM_STATUS_UNSET : Fld := ⟨0x10004, 8, 1, .ro, 1, 0, 1, .any⟩
def TIM_STATUS_TRIG_LATE : Fld := ⟨0x10004, 3, 1, .w1c, 0, 0, 1, .any⟩
def TIM_STATUS_BAD_TS : Fld := ⟨0x10004, 2, 1, .w1c, 0, 0, 1, .any⟩
def TIM_STATUS_RATE_CLAMPED : Fld := ⟨0x10004, 1, 1, .w1c, 0, 0, 1, .any⟩
def TIM_STATUS_OFS_REFUSED : Fld := ⟨0x10004, 0, 1, .w1c, 0, 0, 1, .any⟩

/-! 02_clocks_and_time.md, Table 2.10 -/
def TIM_CLK_REVERT : Fld := ⟨0x10008, 8, 1, .rw, 0, 0, 1, .any⟩
def TIM_CLK_SEL_MODE : Fld := ⟨0x10008, 4, 2, .rw, 0, 0, 1, .any⟩
def TIM_CLK_PREF : Fld := ⟨0x10008, 0, 1, .rw, 0, 0, 1, .any⟩

/-! 02_clocks_and_time.md, Table 2.11 -/
def TIM_CLK_STATUS_HOLD_MS : Fld := ⟨0x1000C, 16, 16, .ro, 0, 0, 1, .any⟩
def TIM_CLK_STATUS_MIR_ALIGN : Fld := ⟨0x1000C, 11, 1, .ro, 0, 0, 1, .any⟩
def TIM_CLK_STATUS_HOLD_EXPIRED : Fld := ⟨0x1000C, 10, 1, .w1c, 0, 0, 1, .any⟩
def TIM_CLK_STATUS_HOLD_SEEN : Fld := ⟨0x1000C, 9, 1, .w1c, 0, 0, 1, .any⟩
def TIM_CLK_STATUS_SWITCHED : Fld := ⟨0x1000C, 8, 1, .w1c, 0, 0, 1, .any⟩
def TIM_CLK_STATUS_STATE : Fld := ⟨0x1000C, 2, 2, .ro, 0, 0, 1, .any⟩
def TIM_CLK_STATUS_QUAL_B : Fld := ⟨0x1000C, 1, 1, .ro, 0, 0, 1, .any⟩
def TIM_CLK_STATUS_QUAL_A : Fld := ⟨0x1000C, 0, 1, .ro, 0, 0, 1, .any⟩

/-! 02_clocks_and_time.md, Table 2.12 -/
def TIM_GRID_SLIPS : Fld := ⟨0x1004C, 16, 16, .ro, 0, 0, 1, .any⟩
def TIM_GRID_ERROR : Fld := ⟨0x1004C, 0, 16, .ro, 0, 0, 1, .any⟩

/-! 02_clocks_and_time.md, Table 2.13 -/
def TIM_Pn_CFG_TRANSPORT : Fld := ⟨0x10100, 3, 1, .rw, 0, 64, 2, .any⟩
def TIM_Pn_CFG_ONE_STEP : Fld := ⟨0x10100, 2, 1, .rw, 0, 64, 2, .any⟩
def TIM_Pn_CFG_SPEED : Fld := ⟨0x10100, 1, 1, .rw, 1, 64, 2, .any⟩
def TIM_Pn_CFG_EN : Fld := ⟨0x10100, 0, 1, .rw, 0, 64, 2, .any⟩
def TIM_Pn_ASYM_EGRESS : Fld := ⟨0x10104, 16, 16, .rw, 0, 64, 2, .any⟩
def TIM_Pn_ASYM_INGRESS : Fld := ⟨0x10104, 0, 16, .rw, 0, 64, 2, .any⟩

/-! 02_clocks_and_time.md, Table 2.14 -/
def TIM_Pn_RXTAG_VALID : Fld := ⟨0x10108, 31, 1, .ro, 0, 64, 2, .any⟩
def TIM_Pn_RXTAG_MSGTYPE : Fld := ⟨0x10108, 16, 4, .ro, 0, 64, 2, .any⟩
def TIM_Pn_RXTAG_SEQID : Fld := ⟨0x10108, 0, 16, .ro, 0, 64, 2, .any⟩
def TIM_Pn_TXTAG_VALID : Fld := ⟨0x10118, 31, 1, .ro, 0, 64, 2, .any⟩
def TIM_Pn_TXTAG_MSGTYPE : Fld := ⟨0x10118, 16, 4, .ro, 0, 64, 2, .any⟩
def TIM_Pn_TXTAG_SEQID : Fld := ⟨0x10118, 0, 16, .ro, 0, 64, 2, .any⟩
def TIM_Pn_STAT_TX_LOST : Fld := ⟨0x10128, 16, 16, .ro, 0, 64, 2, .any⟩
def TIM_Pn_STAT_RX_LOST : Fld := ⟨0x10128, 0, 16, .ro, 0, 64, 2, .any⟩

/-! 02_clocks_and_time.md, Table 2.7 -/
def TIM_COUNT_LO_VALUE : Fld := ⟨0x10010, 0, 32, .ro, 0, 0, 1, .any⟩
def TIM_COUNT_HI_VALUE : Fld := ⟨0x10014, 0, 32, .ro, 0, 0, 1, .any⟩
def TIM_NOW0_VALUE : Fld := ⟨0x10018, 0, 32, .ro, 0, 0, 1, .any⟩
def TIM_NOW1_VALUE : Fld := ⟨0x1001C, 0, 32, .ro, 0, 0, 1, .any⟩
def TIM_NOW2_VALUE : Fld := ⟨0x10020, 0, 32, .ro, 0, 0, 1, .any⟩
def TIM_RATE_VALUE : Fld := ⟨0x10024, 0, 32, .rwc, 0, 0, 1, .any⟩
def TIM_ADJ_LO_VALUE : Fld := ⟨0x10028, 0, 32, .rwc, 0, 0, 1, .any⟩
def TIM_ADJ_HI_VALUE : Fld := ⟨0x1002C, 0, 32, .rwc, 0, 0, 1, .any⟩
def TIM_LOAD0_VALUE : Fld := ⟨0x10030, 0, 32, .rwc, 0, 0, 1, .any⟩
def TIM_LOAD1_VALUE : Fld := ⟨0x10034, 0, 32, .rwc, 0, 0, 1, .any⟩
def TIM_LOAD2_VALUE : Fld := ⟨0x10038, 0, 32, .rwc, 0, 0, 1, .any⟩
def TIM_OFS0_VALUE : Fld := ⟨0x1003C, 0, 32, .ro, 0, 0, 1, .any⟩
def TIM_OFS1_VALUE : Fld := ⟨0x10040, 0, 32, .ro, 0, 0, 1, .any⟩
def TIM_OFS2_VALUE : Fld := ⟨0x10044, 0, 32, .ro, 0, 0, 1, .any⟩

/-! 02_clocks_and_time.md, Table 2.7 (R70) -/
def TIM_RATE_LIM_VALUE : Fld := ⟨0x10048, 0, 30, .rw, 109951163, 0, 1, .atMost 549755814⟩

/-! 02_clocks_and_time.md, Table 2.7 -/
def TIM_Pn_RXTS0_VALUE : Fld := ⟨0x1010C, 0, 32, .ro, 0, 64, 2, .any⟩
def TIM_Pn_RXTS1_VALUE : Fld := ⟨0x10110, 0, 32, .ro, 0, 64, 2, .any⟩
def TIM_Pn_RXTS2_VALUE : Fld := ⟨0x10114, 0, 32, .ro, 0, 64, 2, .any⟩
def TIM_Pn_TXTS0_VALUE : Fld := ⟨0x1011C, 0, 32, .ro, 0, 64, 2, .any⟩
def TIM_Pn_TXTS1_VALUE : Fld := ⟨0x10120, 0, 32, .ro, 0, 64, 2, .any⟩
def TIM_Pn_TXTS2_VALUE : Fld := ⟨0x10124, 0, 32, .ro, 0, 64, 2, .any⟩

/-! 03_control_cycle.md, Table 3.6 -/
def CYC_STATUS_STBY_WRITE : Fld := ⟨0x20000, 11, 1, .w1c, 0, 0, 1, .any⟩
def CYC_STATUS_BUDGET : Fld := ⟨0x20000, 10, 1, .ro, 0, 0, 1, .any⟩
def CYC_STATUS_COMMIT_REFUSED : Fld := ⟨0x20000, 9, 1, .w1c, 0, 0, 1, .any⟩
def CYC_STATUS_CONV_STATE : Fld := ⟨0x20000, 0, 4, .ro, 0, 0, 1, .any⟩
def CYC_PERIOD_PERIOD : Fld := ⟨0x20004, 0, 8, .rwc, 20, 0, 1, .any⟩
def CYC_SAMPLE_OFS_VALUE : Fld := ⟨0x20008, 0, 14, .rwc, 0, 0, 1, .any⟩
def CYC_UPL_DL_VALUE : Fld := ⟨0x2000C, 0, 14, .rwc, 720, 0, 1, .any⟩
def CYC_PUB_DL_VALUE : Fld := ⟨0x20010, 0, 14, .rwc, 1080, 0, 1, .any⟩
def CYC_SEL_ALLOW_VALUE : Fld := ⟨0x20014, 0, 14, .rwc, 320, 0, 1, .any⟩
def CYC_COMMIT_GROUPS : Fld := ⟨0x20018, 0, 32, .wo, 0, 0, 1, .any⟩
def CYC_DISCARD_GROUPS : Fld := ⟨0x2001C, 0, 32, .wo, 0, 0, 1, .any⟩
def CYC_COMMIT_PEND_GROUPS : Fld := ⟨0x20020, 0, 32, .ro, 0, 0, 1, .any⟩
def CYC_GROUP_OPEN_GROUPS : Fld := ⟨0x20024, 0, 32, .w1c, 0, 0, 1, .any⟩
def CYC_COMMIT_ERR_VALID : Fld := ⟨0x20028, 31, 1, .w1c, 0, 0, 1, .any⟩
def CYC_COMMIT_ERR_REASON : Fld := ⟨0x20028, 8, 3, .ro, 0, 0, 1, .any⟩
def CYC_COMMIT_ERR_GROUP : Fld := ⟨0x20028, 0, 5, .ro, 0, 0, 1, .any⟩
def CYC_OVR_TOTAL : Fld := ⟨0x20038, 16, 16, .ro, 0, 0, 1, .any⟩
def CYC_OVR_WINDOW : Fld := ⟨0x20038, 8, 8, .ro, 0, 0, 1, .any⟩
def CYC_OVR_CONSEC : Fld := ⟨0x20038, 0, 8, .ro, 0, 0, 1, .any⟩
def CYC_OVR_LAST_SKIPS : Fld := ⟨0x2003C, 24, 8, .ro, 0, 0, 1, .any⟩
def CYC_OVR_LAST_CAUSE : Fld := ⟨0x2003C, 16, 2, .ro, 0, 0, 1, .any⟩
def CYC_OVR_LAST_CYCLE : Fld := ⟨0x2003C, 0, 16, .ro, 0, 0, 1, .any⟩
def CYC_STALE_LO_MAP : Fld := ⟨0x20048, 0, 32, .ro, 0, 0, 1, .any⟩
def CYC_STALE_HI_MAP : Fld := ⟨0x2004C, 0, 16, .ro, 0, 0, 1, .any⟩

/-! 03_control_cycle.md, Table 3.5 -/
def CYC_COUNT_LO_VALUE : Fld := ⟨0x20030, 0, 32, .ro, 0, 0, 1, .any⟩
def CYC_COUNT_HI_VALUE : Fld := ⟨0x20034, 0, 32, .ro, 0, 0, 1, .any⟩

/-! 03_control_cycle.md, Table 3.6 -/
def CYC_SLACK_UP_MIN : Fld := ⟨0x20040, 0, 16, .ro, 32767, 0, 1, .any⟩
def CYC_SLACK_DN_MIN : Fld := ⟨0x20044, 0, 16, .ro, 32767, 0, 1, .any⟩

/-! 04_tumblers_and_arm_modulation.md, Table 4.10 -/
def TUM_STATUS_OFS_LOCKED : Fld := ⟨0x30000, 11, 1, .w1c, 0, 8192, 6, .any⟩
def TUM_STATUS_SS_REFUSED : Fld := ⟨0x30000, 10, 1, .w1c, 0, 8192, 6, .any⟩
def TUM_STATUS_XCHK : Fld := ⟨0x30000, 9, 1, .w1c, 0, 8192, 6, .any⟩
def TUM_STATUS_FRAC_DROP : Fld := ⟨0x30000, 8, 1, .w1c, 0, 8192, 6, .any⟩
def TUM_STATUS_NEG_CLAMP : Fld := ⟨0x30000, 7, 1, .w1c, 0, 8192, 6, .any⟩
def TUM_STATUS_POS_CLAMP : Fld := ⟨0x30000, 6, 1, .w1c, 0, 8192, 6, .any⟩
def TUM_STATUS_SHORTFALL : Fld := ⟨0x30000, 5, 1, .ro, 0, 8192, 6, .any⟩
def TUM_STATUS_WARN : Fld := ⟨0x30000, 4, 1, .ro, 0, 8192, 6, .any⟩
def TUM_STATUS_DIR : Fld := ⟨0x30000, 3, 1, .ro, 0, 8192, 6, .any⟩
def TUM_STATUS_OUT_MODE : Fld := ⟨0x30000, 0, 2, .ro, 0, 8192, 6, .any⟩
def TUM_POLICY_MAX_SWAP : Fld := ⟨0x30004, 24, 8, .rwc, 4, 8192, 6, .any⟩
def TUM_POLICY_F_DEAD : Fld := ⟨0x30004, 2, 11, .rwc, 0, 8192, 6, .any⟩
def TUM_POLICY_THERM_EN : Fld := ⟨0x30004, 1, 1, .rwc, 0, 8192, 6, .any⟩
def TUM_POLICY_FRAC_ROTATE : Fld := ⟨0x30004, 0, 1, .rwc, 1, 8192, 6, .any⟩
def TUM_HYST_HYST : Fld := ⟨0x30008, 0, 16, .rwc, 128, 8192, 6, .any⟩
def TUM_BUDGET_DEPTH : Fld := ⟨0x3000C, 24, 8, .rwc, 8, 8192, 6, .atLeast 1⟩
def TUM_BUDGET_RATE : Fld := ⟨0x3000C, 0, 16, .rwc, 0, 8192, 6, .any⟩
def TUM_THERM_T0 : Fld := ⟨0x30010, 24, 8, .rwc, 85, 8192, 6, .any⟩
def TUM_THERM_GAIN : Fld := ⟨0x30010, 0, 16, .rwc, 0, 8192, 6, .any⟩
def TUM_ISIGN_I_DB : Fld := ⟨0x30014, 0, 16, .rwc, 160, 8192, 6, .any⟩
def TUM_XCHK_PERSIST : Fld := ⟨0x30018, 24, 8, .rwc, 16, 8192, 6, .atLeast 1⟩
def TUM_XCHK_BAND : Fld := ⟨0x30018, 0, 16, .rwc, 128, 8192, 6, .any⟩
def TUM_CMIN_C_MIN : Fld := ⟨0x3001C, 0, 16, .rwc, 1000, 8192, 6, .any⟩
def TUM_SPARE_N_REQ : Fld := ⟨0x30020, 20, 12, .ro, 0, 8192, 6, .any⟩
def TUM_SPARE_WARN : Fld := ⟨0x30020, 12, 8, .rwc, 0, 8192, 6, .any⟩
def TUM_SPARE_HEALTHY : Fld := ⟨0x30020, 0, 12, .ro, 0, 8192, 6, .any⟩
def TUM_STANDSTILL_ISO : Fld := ⟨0x30024, 1, 1, .rw, 0, 8192, 6, .any⟩
def TUM_STANDSTILL_MODE : Fld := ⟨0x30024, 0, 1, .rw, 0, 8192, 6, .any⟩
def TUM_IN_N_N : Fld := ⟨0x30028, 0, 16, .ro, 0, 8192, 6, .any⟩
def TUM_IN_F_F : Fld := ⟨0x3002C, 0, 12, .ro, 0, 8192, 6, .any⟩
def TUM_IN_IARM_IARM : Fld := ⟨0x30030, 0, 32, .ro, 0, 8192, 6, .any⟩
def TUM_OUT_POL : Fld := ⟨0x30034, 31, 1, .ro, 0, 8192, 6, .any⟩
def TUM_OUT_M : Fld := ⟨0x30034, 16, 12, .ro, 0, 8192, 6, .any⟩
def TUM_OUT_F : Fld := ⟨0x30034, 0, 12, .ro, 0, 8192, 6, .any⟩
def TUM_FRAC_VALID : Fld := ⟨0x30038, 31, 1, .ro, 0, 8192, 6, .any⟩
def TUM_FRAC_POSITION : Fld := ⟨0x30038, 16, 11, .ro, 0, 8192, 6, .any⟩
def TUM_FRAC_CYCLE : Fld := ⟨0x30038, 0, 16, .ro, 0, 8192, 6, .any⟩
def TUM_SELTIME_MAX : Fld := ⟨0x3003C, 16, 16, .ro, 0, 8192, 6, .any⟩
def TUM_SELTIME_LAST : Fld := ⟨0x3003C, 0, 16, .ro, 0, 8192, 6, .any⟩
def TUM_CNT_SWAPS : Fld := ⟨0x30040, 24, 8, .ro, 0, 8192, 6, .any⟩
def TUM_CNT_XCHK : Fld := ⟨0x30040, 16, 8, .ro, 0, 8192, 6, .any⟩
def TUM_CNT_CLAMPS : Fld := ⟨0x30040, 8, 8, .ro, 0, 8192, 6, .any⟩
def TUM_CNT_DROPS : Fld := ⟨0x30040, 0, 8, .ro, 0, 8192, 6, .any⟩
def TUM_XCHK_SLOT_VALID : Fld := ⟨0x30044, 31, 1, .w1c, 0, 8192, 6, .any⟩
def TUM_XCHK_SLOT_POSITION : Fld := ⟨0x30044, 0, 11, .ro, 0, 8192, 6, .any⟩

/-! 05_control_fabric.md, Table 5.11 -/
def FAB_STATUS_UECC_SEEN : Fld := ⟨0x40000, 15, 1, .w1c, 0, 0, 1, .any⟩
def FAB_STATUS_SELFCHK : Fld := ⟨0x40000, 14, 1, .w1c, 0, 0, 1, .any⟩
def FAB_STATUS_HOST_WR_REFUSED : Fld := ⟨0x40000, 13, 1, .w1c, 0, 0, 1, .any⟩
def FAB_STATUS_RESERVE : Fld := ⟨0x40000, 12, 1, .w1c, 0, 0, 1, .any⟩
def FAB_STATUS_CLEARING : Fld := ⟨0x40000, 8, 1, .ro, 0, 0, 1, .any⟩
def FAB_STATUS_RUN : Fld := ⟨0x40000, 0, 1, .ro, 0, 0, 1, .any⟩
def FAB_CFG_SCRUB_S : Fld := ⟨0x40004, 4, 4, .rw, 1, 0, 1, .clamp 1 10⟩
def FAB_CFG_STEST_EN : Fld := ⟨0x40004, 0, 1, .rw, 1, 0, 1, .any⟩
def FAB_ROUTE_SQRT_NEG : Fld := ⟨0x40008, 6, 2, .ro, 0, 0, 1, .any⟩
def FAB_ROUTE_DIV_ZERO : Fld := ⟨0x40008, 4, 2, .ro, 0, 0, 1, .any⟩
def FAB_ROUTE_ACC_OVF : Fld := ⟨0x40008, 2, 2, .ro, 0, 0, 1, .any⟩
def FAB_ROUTE_SAT : Fld := ⟨0x40008, 0, 2, .ro, 0, 0, 1, .any⟩
def FAB_LOAD_TILE : Fld := ⟨0x4000C, 24, 8, .ro, 0, 0, 1, .any⟩
def FAB_LOAD_MAX : Fld := ⟨0x4000C, 0, 16, .ro, 0, 0, 1, .any⟩
def FAB_SCRUB_PASSES : Fld := ⟨0x40010, 16, 16, .ro, 0, 0, 1, .any⟩
def FAB_SCRUB_CORR : Fld := ⟨0x40010, 0, 16, .ro, 0, 0, 1, .any⟩
def FAB_ECC_TILE : Fld := ⟨0x40014, 24, 8, .ro, 0, 0, 1, .any⟩
def FAB_ECC_MEM : Fld := ⟨0x40014, 20, 4, .ro, 0, 0, 1, .any⟩
def FAB_ECC_COUNT : Fld := ⟨0x40014, 0, 16, .ro, 0, 0, 1, .any⟩
def FAB_STEST_TILE : Fld := ⟨0x40018, 24, 8, .ro, 0, 0, 1, .any⟩
def FAB_STEST_FAILED : Fld := ⟨0x40018, 16, 8, .ro, 0, 0, 1, .any⟩
def FAB_STEST_RUNS : Fld := ⟨0x40018, 0, 16, .ro, 0, 0, 1, .any⟩
def FAB_FLAGMAPn_MAP : Fld := ⟨0x40020, 0, 32, .ro, 0, 4, 8, .any⟩
def FAB_USEDMAPn_MAP : Fld := ⟨0x40040, 0, 32, .ro, 0, 4, 8, .any⟩
def FAB_MWu_CTL_KIND : Fld := ⟨0x40100, 31, 1, .ro, 0, 16, 12, .any⟩
def FAB_MWu_CTL_LEAK : Fld := ⟨0x40100, 24, 5, .rwc, 16, 16, 12, .leak⟩
def FAB_MWu_CTL_TRIP_P : Fld := ⟨0x40100, 16, 8, .rwc, 8, 16, 12, .atLeast 1⟩
def FAB_MWu_CTL_ALARM_P : Fld := ⟨0x40100, 8, 8, .rwc, 32, 16, 12, .atLeast 1⟩
def FAB_MWu_CTL_TRIPPED : Fld := ⟨0x40100, 1, 1, .w1c, 0, 16, 12, .any⟩
def FAB_MWu_CTL_ALARMED : Fld := ⟨0x40100, 0, 1, .w1c, 0, 16, 12, .any⟩
def FAB_MWu_ALARM_BAND : Fld := ⟨0x40104, 0, 32, .rwc, 2147483647, 16, 12, .any⟩
def FAB_MWu_TRIP_BAND : Fld := ⟨0x40108, 0, 32, .rwc, 2147483647, 16, 12, .any⟩
def FAB_MWu_RES_R : Fld := ⟨0x4010C, 0, 32, .ro, 0, 16, 12, .any⟩

/-! 05_control_fabric.md, Table 5.13 -/
def TILE_STATUS_FAILED : Fld := ⟨0x100000, 11, 1, .ro, 0, 4096, 256, .any⟩
def TILE_STATUS_USED : Fld := ⟨0x100000, 10, 1, .ro, 0, 4096, 256, .any⟩
def TILE_STATUS_STEST : Fld := ⟨0x100000, 9, 1, .ro, 0, 4096, 256, .any⟩
def TILE_STATUS_RESERVE : Fld := ⟨0x100000, 8, 1, .w1c, 0, 4096, 256, .any⟩
def TILE_STATUS_ABORT : Fld := ⟨0x100000, 7, 1, .w1c, 0, 4096, 256, .any⟩
def TILE_STATUS_SELFCHK : Fld := ⟨0x100000, 6, 1, .w1c, 0, 4096, 256, .any⟩
def TILE_STATUS_UECC : Fld := ⟨0x100000, 5, 1, .w1c, 0, 4096, 256, .any⟩
def TILE_STATUS_SQRT_NEG : Fld := ⟨0x100000, 3, 1, .w1c, 0, 4096, 256, .any⟩
def TILE_STATUS_DIV_ZERO : Fld := ⟨0x100000, 2, 1, .w1c, 0, 4096, 256, .any⟩
def TILE_STATUS_ACC_OVF : Fld := ⟨0x100000, 1, 1, .w1c, 0, 4096, 256, .any⟩
def TILE_STATUS_SAT : Fld := ⟨0x100000, 0, 1, .w1c, 0, 4096, 256, .any⟩
def TILE_FLAG_STEP_CYCLE : Fld := ⟨0x100004, 16, 16, .ro, 0, 4096, 256, .any⟩
def TILE_FLAG_STEP_VALID : Fld := ⟨0x100004, 15, 1, .ro, 0, 4096, 256, .any⟩
def TILE_FLAG_STEP_STEP : Fld := ⟨0x100004, 0, 9, .ro, 0, 4096, 256, .any⟩
def TILE_LIST_WCET : Fld := ⟨0x100008, 16, 16, .ro, 0, 4096, 256, .any⟩
def TILE_LIST_STEPS : Fld := ⟨0x100008, 0, 10, .ro, 0, 4096, 256, .any⟩
def TILE_TIME_MAX : Fld := ⟨0x10000C, 16, 16, .ro, 0, 4096, 256, .any⟩
def TILE_TIME_LAST : Fld := ⟨0x10000C, 0, 16, .ro, 0, 4096, 256, .any⟩
def TILE_ECC_UNCORR : Fld := ⟨0x100010, 16, 16, .ro, 0, 4096, 256, .any⟩
def TILE_ECC_CORR : Fld := ⟨0x100010, 0, 16, .ro, 0, 4096, 256, .any⟩
def TILE_SP_ADDR_ADDR : Fld := ⟨0x100014, 0, 12, .rw, 0, 4096, 256, .any⟩
def TILE_SP_DATA_DATA : Fld := ⟨0x100018, 0, 32, .rw, 0, 4096, 256, .any⟩
def TILE_CO_ADDR_ADDR : Fld := ⟨0x10001C, 0, 9, .rw, 0, 4096, 256, .any⟩
def TILE_CO_DATA_VALUE : Fld := ⟨0x100020, 0, 32, .rwc, 0, 4096, 256, .any⟩
def TILE_CO_SHIFT_SHIFT : Fld := ⟨0x100024, 0, 6, .rwc, 0, 4096, 256, .any⟩
def TILE_IC_DISCARD : Fld := ⟨0x100028, 16, 16, .ro, 0, 4096, 256, .any⟩
def TILE_IC_OCC : Fld := ⟨0x100028, 0, 8, .ro, 0, 4096, 256, .any⟩
def TILE_ACC_LO_ACC : Fld := ⟨0x100030, 0, 32, .ro, 0, 4096, 256, .any⟩
def TILE_ACC_HI_ACC : Fld := ⟨0x100034, 0, 32, .ro, 0, 4096, 256, .any⟩
def TILE_Sn_VALUE : Fld := ⟨0x100100, 0, 32, .rw, 0, 4096, 256, .any⟩
def TILE_INn_VALUE : Fld := ⟨0x100200, 0, 32, .ro, 0, 4096, 256, .any⟩
def TILE_MBn_VALUE : Fld := ⟨0x100300, 0, 32, .ro, 0, 4096, 256, .any⟩

/-! 06_keying_image.md, Table 6.17 -/
def KEY_STATUS_SHADOW_LOST : Fld := ⟨0x200000, 15, 1, .w1c, 0, 0, 1, .any⟩
def KEY_STATUS_PARTNER_MISMATCH : Fld := ⟨0x200000, 14, 1, .w1c, 0, 0, 1, .any⟩
def KEY_STATUS_CO_WR_REFUSED : Fld := ⟨0x200000, 13, 1, .w1c, 0, 0, 1, .any⟩
def KEY_STATUS_TRIAL : Fld := ⟨0x200000, 12, 1, .ro, 0, 0, 1, .any⟩
def KEY_STATUS_HITLESS : Fld := ⟨0x200000, 9, 1, .ro, 0, 0, 1, .any⟩
def KEY_STATUS_ACT_WARD : Fld := ⟨0x200000, 8, 1, .ro, 0, 0, 1, .any⟩
def KEY_STATUS_SHD_STATE : Fld := ⟨0x200000, 4, 2, .ro, 0, 0, 1, .any⟩
def KEY_STATUS_SWAP_PEND : Fld := ⟨0x200000, 1, 1, .ro, 0, 0, 1, .any⟩
def KEY_STATUS_KEYED : Fld := ⟨0x200000, 0, 1, .ro, 0, 0, 1, .any⟩
def KEY_ERR_VALID : Fld := ⟨0x200004, 31, 1, .w1c, 0, 0, 1, .any⟩
def KEY_ERR_CHECK : Fld := ⟨0x200004, 16, 8, .ro, 0, 0, 1, .any⟩
def KEY_ERR_SECTION : Fld := ⟨0x200004, 0, 16, .ro, 0, 0, 1, .any⟩
def KEY_FLOOR_FLOOR : Fld := ⟨0x200008, 0, 32, .ro, 0, 0, 1, .any⟩
def KEY_WARD_PTR : Fld := ⟨0x20001C, 7, 1, .ro, 0, 0, 1, .any⟩
def KEY_WARD_B_BUSY : Fld := ⟨0x20001C, 5, 1, .ro, 0, 0, 1, .any⟩
def KEY_WARD_B_VALID : Fld := ⟨0x20001C, 4, 1, .ro, 0, 0, 1, .any⟩
def KEY_WARD_A_BUSY : Fld := ⟨0x20001C, 1, 1, .ro, 0, 0, 1, .any⟩
def KEY_WARD_A_VALID : Fld := ⟨0x20001C, 0, 1, .ro, 0, 0, 1, .any⟩
def KEY_SWAP_CYCLE : Fld := ⟨0x200030, 16, 16, .ro, 0, 0, 1, .any⟩
def KEY_SWAP_KIND : Fld := ⟨0x200030, 1, 1, .ro, 0, 0, 1, .any⟩
def KEY_SWAP_VALID : Fld := ⟨0x200030, 0, 1, .ro, 0, 0, 1, .any⟩
def KEY_MAP_TAG_TAG : Fld := ⟨0x200034, 0, 32, .ro, 0, 0, 1, .any⟩
def KEY_HASH_SEL_SEL : Fld := ⟨0x200038, 0, 3, .rw, 0, 0, 1, .any⟩
def KEY_ERR_OFS_OFFSET : Fld := ⟨0x20003C, 0, 32, .ro, 0, 0, 1, .any⟩
def KEY_FLOOR_LEFT_LEFT : Fld := ⟨0x200070, 0, 11, .ro, 1024, 0, 1, .any⟩
def KEY_ACT_VER_VALUE : Fld := ⟨0x20000C, 0, 32, .ro, 0, 0, 1, .any⟩
def KEY_ACT_SEC_VALUE : Fld := ⟨0x200010, 0, 32, .ro, 0, 0, 1, .any⟩
def KEY_SHD_VER_VALUE : Fld := ⟨0x200014, 0, 32, .ro, 0, 0, 1, .any⟩
def KEY_SHD_SEC_VALUE : Fld := ⟨0x200018, 0, 32, .ro, 0, 0, 1, .any⟩
def KEY_WARDA_VER_VALUE : Fld := ⟨0x200020, 0, 32, .ro, 0, 0, 1, .any⟩
def KEY_WARDA_SEC_VALUE : Fld := ⟨0x200024, 0, 32, .ro, 0, 0, 1, .any⟩
def KEY_WARDB_VER_VALUE : Fld := ⟨0x200028, 0, 32, .ro, 0, 0, 1, .any⟩
def KEY_WARDB_SEC_VALUE : Fld := ⟨0x20002C, 0, 32, .ro, 0, 0, 1, .any⟩
def KEY_HASHn_BYTES : Fld := ⟨0x200040, 0, 32, .ro, 0, 4, 12, .any⟩

/-! 07_setpoint_profiler.md, Table 7.6 -/
def PROF_STATUS_REASON : Fld := ⟨0x210000, 1, 2, .ro, 0, 0, 1, .any⟩
def PROF_STATUS_MODE : Fld := ⟨0x210000, 0, 1, .ro, 0, 0, 1, .any⟩
def PROF_CFG_BLEND_S : Fld := ⟨0x210004, 16, 10, .rw, 60, 0, 1, .clamp 1 600⟩
def PROF_CFG_LOCK : Fld := ⟨0x210004, 1, 1, .w1s, 0, 0, 1, .any⟩
def PROF_CFG_TEST_ALLOW : Fld := ⟨0x210004, 0, 1, .lck, 0, 0, 1, .any⟩
def PROF_BLEND_LEFT_MS : Fld := ⟨0x210008, 0, 16, .ro, 0, 0, 1, .any⟩
def PROF_CH_VALUE_VALUE : Fld := ⟨0x210100, 0, 32, .ro, 0, 64, 4, .any⟩
def PROF_CH_TARGET_VALUE : Fld := ⟨0x210104, 0, 32, .ro, 0, 64, 4, .any⟩
def PROF_CH_RATE_RATE : Fld := ⟨0x210108, 0, 32, .ro, 0, 64, 4, .any⟩
def PROF_CH_ACCEL_ACCEL : Fld := ⟨0x21010C, 0, 32, .ro, 0, 64, 4, .any⟩
def PROF_CH_RATE_LIM_RATE : Fld := ⟨0x210110, 0, 20, .ro, 1000, 64, 4, .any⟩
def PROF_CH_ACCEL_LIM_ACCEL : Fld := ⟨0x210114, 0, 24, .ro, 50, 64, 4, .any⟩
def PROF_CH_JERK_LIM_JERK : Fld := ⟨0x210118, 0, 27, .ro, 10, 64, 4, .any⟩
def PROF_CH_STATE_QUEUE : Fld := ⟨0x21011C, 8, 4, .ro, 0, 64, 4, .any⟩
def PROF_CH_STATE_FROZEN : Fld := ⟨0x21011C, 6, 1, .w1c, 0, 64, 4, .any⟩
def PROF_CH_STATE_ACCEL_OVERRIDE : Fld := ⟨0x21011C, 5, 1, .w1c, 0, 64, 4, .any⟩
def PROF_CH_STATE_LIMITED : Fld := ⟨0x21011C, 4, 1, .w1c, 0, 64, 4, .any⟩
def PROF_CH_STATE_MOTION : Fld := ⟨0x21011C, 0, 3, .ro, 0, 64, 4, .any⟩
def PROF_CH_HANDLE_LO_HANDLE : Fld := ⟨0x210120, 0, 32, .ro, 0, 64, 4, .any⟩
def PROF_CH_HANDLE_HI_HANDLE : Fld := ⟨0x210124, 0, 32, .ro, 0, 64, 4, .any⟩

/-! 10_flenor_links.md, Table 10.13 -/
def LNKn_PEER_SN_LO_SN : Fld := ⟨0x220040, 0, 32, .ro, 0, 1024, 48, .any⟩
def LNKn_PEER_SN_HI_SN : Fld := ⟨0x220044, 0, 32, .ro, 0, 1024, 48, .any⟩
def MIR_STATUS_UP : Fld := ⟨0x230000, 8, 1, .ro, 0, 0, 1, .any⟩
def MIR_STATUS_SKEW : Fld := ⟨0x230000, 0, 8, .ro, 0, 0, 1, .any⟩

/-! 11_discovery_and_membership.md, Table 11.8 -/
def DISC_EVT_CONC : Fld := ⟨0x240000, 5, 1, .w1c, 0, 0, 1, .any⟩
def DISC_EVT_UNMAP : Fld := ⟨0x240000, 4, 1, .w1c, 0, 0, 1, .any⟩
def DISC_EVT_BOLTED : Fld := ⟨0x240000, 3, 1, .w1c, 0, 0, 1, .any⟩
def DISC_EVT_QUAR : Fld := ⟨0x240000, 2, 1, .w1c, 0, 0, 1, .any⟩
def DISC_EVT_LOST : Fld := ⟨0x240000, 1, 1, .w1c, 0, 0, 1, .any⟩
def DISC_EVT_JOINED : Fld := ⟨0x240000, 0, 1, .w1c, 0, 0, 1, .any⟩
def DISC_CFG_LIVE_READMIT : Fld := ⟨0x240004, 0, 1, .rw, 0, 0, 1, .any⟩
def DISC_HARD_HARD : Fld := ⟨0x240008, 0, 16, .rw, 65535, 0, 1, .any⟩
def DISC_FW_VERSION : Fld := ⟨0x24000C, 0, 32, .rw, 0, 0, 1, .any⟩
def DISC_SLOT_SEL_SLOT : Fld := ⟨0x240060, 0, 14, .rw, 0, 0, 1, .any⟩
def DISC_SLOT_INFO_STATE : Fld := ⟨0x240064, 28, 4, .ro, 0, 0, 1, .any⟩
def DISC_SLOT_INFO_VARIANT : Fld := ⟨0x240064, 20, 8, .ro, 0, 0, 1, .any⟩
def DISC_SLOT_INFO_QREASON : Fld := ⟨0x240064, 16, 4, .ro, 0, 0, 1, .any⟩
def DISC_SLOT_INFO_FW_PENDING : Fld := ⟨0x240064, 15, 1, .ro, 0, 0, 1, .any⟩
def DISC_SLOT_FW_VERSION : Fld := ⟨0x240070, 0, 32, .ro, 0, 0, 1, .any⟩
def DISC_UNMAP_VALID : Fld := ⟨0x240080, 31, 1, .w1c, 0, 0, 1, .any⟩
def DISC_UNMAP_CONC : Fld := ⟨0x240080, 16, 6, .ro, 0, 0, 1, .any⟩
def DISC_UNMAP_PORT : Fld := ⟨0x240080, 0, 8, .ro, 0, 0, 1, .any⟩
def DISC_CONC_FOUND_LO_MAP : Fld := ⟨0x240010, 0, 32, .ro, 0, 0, 1, .any⟩
def DISC_CONC_FOUND_HI_MAP : Fld := ⟨0x240014, 0, 16, .ro, 0, 0, 1, .any⟩
def DISC_CONC_UNDECL_LO_MAP : Fld := ⟨0x240018, 0, 32, .w1c, 0, 0, 1, .any⟩
def DISC_CONC_UNDECL_HI_MAP : Fld := ⟨0x24001C, 0, 16, .w1c, 0, 0, 1, .any⟩
def DISC_CONC_SHORT_LO_MAP : Fld := ⟨0x240020, 0, 32, .w1c, 0, 0, 1, .any⟩
def DISC_CONC_SHORT_HI_MAP : Fld := ⟨0x240024, 0, 16, .w1c, 0, 0, 1, .any⟩
def DISC_ARMa_CNT_ACTIVE : Fld := ⟨0x240040, 20, 12, .ro, 0, 4, 6, .any⟩
def DISC_ARMa_CNT_LOST : Fld := ⟨0x240040, 10, 10, .ro, 0, 4, 6, .any⟩
def DISC_ARMa_CNT_BOLTED : Fld := ⟨0x240040, 0, 10, .ro, 0, 4, 6, .any⟩
def DISC_SLOT_SN_LO_SN : Fld := ⟨0x240068, 0, 32, .ro, 0, 0, 1, .any⟩
def DISC_SLOT_SN_HI_SN : Fld := ⟨0x24006C, 0, 32, .ro, 0, 0, 1, .any⟩
def DISC_UNMAP_SN_LO_SN : Fld := ⟨0x240084, 0, 32, .ro, 0, 0, 1, .any⟩
def DISC_UNMAP_SN_HI_SN : Fld := ⟨0x240088, 0, 32, .ro, 0, 0, 1, .any⟩

/-! 12_host_interface_and_handles.md, Table 12.13 -/
def HND_STATUS_JRNL_FAULT : Fld := ⟨0x250000, 11, 1, .w1c, 0, 0, 1, .any⟩
def HND_STATUS_FETCH_FAULT : Fld := ⟨0x250000, 10, 1, .w1c, 0, 0, 1, .any⟩
def HND_STATUS_ACK_BAD : Fld := ⟨0x250000, 9, 1, .w1c, 0, 0, 1, .any⟩
def HND_STATUS_CFG_REFUSED : Fld := ⟨0x250000, 8, 1, .w1c, 0, 0, 1, .any⟩
def HND_STATUS_CQ_FULL : Fld := ⟨0x250000, 2, 1, .ro, 0, 0, 1, .any⟩
def HND_STATUS_ROLE : Fld := ⟨0x250000, 0, 2, .ro, 0, 0, 1, .any⟩
def HND_CFG_EN : Fld := ⟨0x250004, 0, 1, .rw, 0, 0, 1, .any⟩
def HND_SQ_BASE_LO_ADDR : Fld := ⟨0x250008, 12, 20, .rw, 0, 0, 1, .any⟩
def HND_SQ_BASE_HI_ADDR : Fld := ⟨0x25000C, 0, 32, .rw, 0, 0, 1, .any⟩
def HND_SQ_SIZE_SIZE : Fld := ⟨0x250010, 0, 13, .rw, 16, 0, 1, .any⟩
def HND_SQ_TAIL_TAIL : Fld := ⟨0x250014, 0, 12, .rw, 0, 0, 1, .any⟩
def HND_SQ_HEAD_HEAD : Fld := ⟨0x250018, 0, 12, .ro, 0, 0, 1, .any⟩
def HND_CQ_BASE_LO_ADDR : Fld := ⟨0x250020, 12, 20, .rw, 0, 0, 1, .any⟩
def HND_CQ_BASE_HI_ADDR : Fld := ⟨0x250024, 0, 32, .rw, 0, 0, 1, .any⟩
def HND_CQ_SIZE_SIZE : Fld := ⟨0x250028, 0, 13, .rw, 16, 0, 1, .any⟩
def HND_CQ_ACK_CSEQ : Fld := ⟨0x25002C, 0, 32, .rw, 0, 0, 1, .any⟩
def HND_CQ_NEXT_LO_VALUE : Fld := ⟨0x250030, 0, 32, .ro, 0, 0, 1, .any⟩
def HND_CQ_NEXT_HI_VALUE : Fld := ⟨0x250034, 0, 32, .ro, 0, 0, 1, .any⟩
def HND_SEQ_LO_VALUE : Fld := ⟨0x250038, 0, 32, .ro, 0, 0, 1, .any⟩
def HND_SEQ_HI_VALUE : Fld := ⟨0x25003C, 0, 32, .ro, 0, 0, 1, .any⟩
def HND_JRNL_LIVE : Fld := ⟨0x250040, 0, 17, .ro, 0, 0, 1, .any⟩
def HND_IRQ_CFG_COUNT : Fld := ⟨0x250044, 16, 8, .rw, 1, 0, 1, .atLeast 1⟩
def HND_IRQ_CFG_TIME_US : Fld := ⟨0x250044, 0, 16, .rw, 0, 0, 1, .any⟩
def HND_CNT_RETRY : Fld := ⟨0x250048, 16, 16, .ro, 0, 0, 1, .any⟩
def HND_CNT_MALFORMED : Fld := ⟨0x250048, 0, 16, .ro, 0, 0, 1, .any⟩

/-! 13_the_hinge.md, Table 13.13 -/
def HNG_STATUS_SPLIT_SEEN : Fld := ⟨0x260000, 15, 1, .w1c, 0, 0, 1, .any⟩
def HNG_STATUS_MISMATCH : Fld := ⟨0x260000, 14, 1, .w1c, 0, 0, 1, .any⟩
def HNG_STATUS_REPORT_LATE : Fld := ⟨0x260000, 13, 1, .w1c, 0, 0, 1, .any⟩
def HNG_STATUS_HINGED : Fld := ⟨0x260000, 12, 1, .w1c, 0, 0, 1, .any⟩
def HNG_STATUS_PAIR_FAULT : Fld := ⟨0x260000, 11, 1, .w1c, 0, 0, 1, .any⟩
def HNG_STATUS_SPLIT : Fld := ⟨0x260000, 7, 1, .ro, 0, 0, 1, .any⟩
def HNG_STATUS_PARTNER_STANDING : Fld := ⟨0x260000, 6, 1, .ro, 0, 0, 1, .any⟩
def HNG_STATUS_PARTNER_UP : Fld := ⟨0x260000, 5, 1, .ro, 0, 0, 1, .any⟩
def HNG_STATUS_STANDING_BY : Fld := ⟨0x260000, 4, 1, .ro, 0, 0, 1, .any⟩
def HNG_STATUS_LEAF : Fld := ⟨0x260000, 3, 1, .ro, 0, 0, 1, .any⟩
def HNG_STATUS_ROLE : Fld := ⟨0x260000, 0, 3, .ro, 0, 0, 1, .any⟩
def HNG_CFG_ALIGN_HOLD_MS : Fld := ⟨0x260004, 8, 8, .rw, 20, 0, 1, .clamp 1 100⟩
def HNG_CFG_CMP_PERSIST : Fld := ⟨0x260004, 0, 8, .rw, 2, 0, 1, .atLeast 1⟩
def HNG_SOLO_MS : Fld := ⟨0x260008, 0, 16, .rw, 5000, 0, 1, .clamp 1000 60000⟩
def HNG_CAUSE_CYCLE : Fld := ⟨0x26000C, 16, 16, .ro, 0, 0, 1, .any⟩
def HNG_CAUSE_VALID : Fld := ⟨0x26000C, 15, 1, .w1c, 0, 0, 1, .any⟩
def HNG_CAUSE_CAUSE : Fld := ⟨0x26000C, 0, 6, .ro, 0, 0, 1, .any⟩
def HNG_HEALTH_SUMMARY : Fld := ⟨0x260010, 0, 32, .ro, 0, 0, 1, .any⟩
def HNG_HEALTH_AGE_MS : Fld := ⟨0x260014, 0, 16, .ro, 65535, 0, 1, .any⟩
def HNG_CMP_COMPARED : Fld := ⟨0x260018, 0, 32, .ro, 0, 0, 1, .any⟩
def HNG_CMP_BAD_MISMATCHED : Fld := ⟨0x26001C, 16, 16, .ro, 0, 0, 1, .any⟩
def HNG_CMP_BAD_UNCOMPARED : Fld := ⟨0x26001C, 0, 16, .ro, 0, 0, 1, .any⟩
def HNG_CMP_LAST_CYCLE : Fld := ⟨0x260020, 16, 16, .ro, 0, 0, 1, .any⟩
def HNG_CMP_LAST_SLOT : Fld := ⟨0x260020, 0, 14, .ro, 0, 0, 1, .any⟩
def HNG_SPLIT_NOW : Fld := ⟨0x260024, 24, 8, .ro, 0, 0, 1, .any⟩
def HNG_SPLIT_LONGEST : Fld := ⟨0x260024, 16, 8, .ro, 0, 0, 1, .any⟩
def HNG_SPLIT_SPLITS : Fld := ⟨0x260024, 0, 16, .ro, 0, 0, 1, .any⟩
def HNG_CNT_HINGE_OVERS : Fld := ⟨0x260028, 16, 16, .ro, 0, 0, 1, .any⟩
def HNG_CNT_SWAPS : Fld := ⟨0x260028, 0, 16, .ro, 0, 0, 1, .any⟩
def HNG_GRANT0_LO_MAP : Fld := ⟨0x260030, 0, 32, .ro, 0, 0, 1, .any⟩
def HNG_GRANT0_HI_MAP : Fld := ⟨0x260034, 0, 16, .ro, 0, 0, 1, .any⟩
def HNG_GRANT1_LO_MAP : Fld := ⟨0x260038, 0, 32, .ro, 0, 0, 1, .any⟩
def HNG_GRANT1_HI_MAP : Fld := ⟨0x26003C, 0, 16, .ro, 0, 0, 1, .any⟩

/-! 14_faults.md, Table 14.10 -/
def FLT_STATUS_DEADBOLT : Fld := ⟨0x270000, 15, 1, .ro, 0, 0, 1, .any⟩
def FLT_STATUS_TRIP_OPEN : Fld := ⟨0x270000, 14, 1, .ro, 0, 0, 1, .any⟩
def FLT_STATUS_ALARM_OPEN : Fld := ⟨0x270000, 13, 1, .ro, 0, 0, 1, .any⟩
def FLT_STATUS_RING_OVF : Fld := ⟨0x270000, 12, 1, .w1c, 0, 0, 1, .any⟩
def FLT_STATUS_BROKEN : Fld := ⟨0x270000, 11, 1, .w1c, 0, 0, 1, .any⟩
def FLT_STATUS_TEST : Fld := ⟨0x270000, 10, 1, .ro, 0, 0, 1, .any⟩
def FLT_STATUS_MODE : Fld := ⟨0x270000, 0, 1, .ro, 0, 0, 1, .any⟩
def FLT_LINES_BROKEN : Fld := ⟨0x270004, 16, 8, .ro, 0, 0, 1, .any⟩
def FLT_LINES_LEVEL : Fld := ⟨0x270004, 0, 8, .ro, 0, 0, 1, .any⟩
def FLT_RING_OPEN : Fld := ⟨0x270008, 16, 11, .ro, 0, 0, 1, .any⟩
def FLT_RING_HELD : Fld := ⟨0x270008, 0, 11, .ro, 0, 0, 1, .any⟩
def FLT_REC_SEL_HEAD : Fld := ⟨0x27000C, 16, 10, .ro, 0, 0, 1, .any⟩
def FLT_REC_SEL_INDEX : Fld := ⟨0x27000C, 0, 10, .rw, 0, 0, 1, .any⟩
def FLT_CLEAR_ALL : Fld := ⟨0x270010, 10, 1, .wo, 0, 0, 1, .any⟩
def FLT_CLEAR_INDEX : Fld := ⟨0x270010, 0, 10, .wo, 0, 0, 1, .any⟩
def FLT_CNT_LOST : Fld := ⟨0x270014, 16, 16, .ro, 0, 0, 1, .any⟩
def FLT_CNT_MERGED : Fld := ⟨0x270014, 0, 16, .ro, 0, 0, 1, .any⟩
def FLT_DBOLT_CODE : Fld := ⟨0x270018, 16, 16, .ro, 0, 0, 1, .any⟩
def FLT_DBOLT_VALID : Fld := ⟨0x270018, 15, 1, .ro, 0, 0, 1, .any⟩
def FLT_INJ_CODE_CLASS : Fld := ⟨0x270040, 16, 2, .rw, 0, 0, 1, .any⟩
def FLT_INJ_CODE_CODE : Fld := ⟨0x270040, 0, 16, .rw, 0, 0, 1, .any⟩
def FLT_INJ_SRC_SOURCE : Fld := ⟨0x270044, 0, 32, .rw, 0, 0, 1, .any⟩
def FLT_INJ_CAUSE_CAUSE : Fld := ⟨0x270048, 0, 16, .wo, 0, 0, 1, .any⟩
def FLT_RECn_WORD : Fld := ⟨0x270020, 0, 32, .ro, 0, 4, 8, .any⟩

/-! 15_disturbance_recorder.md, Table 15.11 -/
def REC_STATUS_UECC : Fld := ⟨0x280000, 19, 1, .w1c, 0, 0, 1, .any⟩
def REC_STATUS_CFG_LOCKED : Fld := ⟨0x280000, 18, 1, .w1c, 0, 0, 1, .any⟩
def REC_STATUS_MISSED : Fld := ⟨0x280000, 17, 1, .w1c, 0, 0, 1, .any⟩
def REC_STATUS_OVERFLOW : Fld := ⟨0x280000, 16, 1, .w1c, 0, 0, 1, .any⟩
def REC_STATUS_MODE : Fld := ⟨0x280000, 3, 1, .ro, 0, 0, 1, .any⟩
def REC_STATUS_STATE : Fld := ⟨0x280000, 0, 3, .ro, 0, 0, 1, .any⟩
def REC_CFG_AUTO_MS : Fld := ⟨0x280004, 16, 16, .rw, 0, 0, 1, .any⟩
def REC_SEG_COUNT : Fld := ⟨0x280008, 16, 13, .rw, 8, 0, 1, .clamp 1 4096⟩
def REC_SEG_SIZE : Fld := ⟨0x280008, 0, 13, .rw, 1024, 0, 1, .atLeast 1⟩
def REC_EMASK_GROUPS : Fld := ⟨0x280018, 0, 8, .rw, 0, 0, 1, .any⟩
def REC_ROW_MAXF : Fld := ⟨0x280040, 16, 8, .ro, 0, 0, 1, .any⟩
def REC_ROW_ROW_BYTES : Fld := ⟨0x280040, 0, 16, .ro, 4, 0, 1, .any⟩
def REC_CAP_CAP : Fld := ⟨0x280044, 0, 24, .ro, 0, 0, 1, .any⟩
def REC_SEGSTAT_FREE : Fld := ⟨0x280048, 16, 13, .ro, 0, 0, 1, .any⟩
def REC_SEGSTAT_NEXT : Fld := ⟨0x280048, 0, 12, .ro, 0, 0, 1, .any⟩
def REC_RECNO_NEXT : Fld := ⟨0x28004C, 0, 16, .ro, 0, 0, 1, .any⟩
def REC_SEGSEL_SEG : Fld := ⟨0x280050, 0, 12, .rw, 0, 0, 1, .any⟩
def REC_SEGINFO_RECNO : Fld := ⟨0x280054, 16, 16, .ro, 0, 0, 1, .any⟩
def REC_SEGINFO_STATE : Fld := ⟨0x280054, 14, 2, .ro, 0, 0, 1, .any⟩
def REC_MISS_IDX_HEAD : Fld := ⟨0x280090, 24, 8, .ro, 0, 0, 1, .any⟩
def REC_MISS_IDX_COUNT : Fld := ⟨0x280090, 8, 8, .ro, 0, 0, 1, .any⟩
def REC_MISS_IDX_IDX : Fld := ⟨0x280090, 0, 6, .rw, 0, 0, 1, .any⟩
def REC_MISS3_CYCLE : Fld := ⟨0x2800A0, 16, 16, .ro, 0, 0, 1, .any⟩
def REC_MISS3_UNITS : Fld := ⟨0x2800A0, 0, 8, .ro, 0, 0, 1, .any⟩
def REC_PRE_ROWS : Fld := ⟨0x28000C, 0, 24, .rw, 0, 0, 1, .any⟩
def REC_POST_ROWS : Fld := ⟨0x280010, 0, 24, .rw, 1, 0, 1, .atLeast 1⟩
def REC_FMASK_MASK : Fld := ⟨0x280014, 0, 32, .rw, 0, 0, 1, .any⟩
def REC_SMASKn_MASK : Fld := ⟨0x280020, 0, 32, .rw, 0, 4, 8, .any⟩
def REC_MEASn_EN : Fld := ⟨0x280060, 31, 1, .rw, 0, 4, 8, .any⟩
def REC_MEASn_KIND : Fld := ⟨0x280060, 24, 2, .rw, 0, 4, 8, .any⟩
def REC_MEASn_INDEX : Fld := ⟨0x280060, 0, 8, .rw, 0, 4, 8, .any⟩
def REC_COMBt_USE : Fld := ⟨0x280080, 8, 8, .rw, 0, 4, 4, .any⟩
def REC_COMBt_INV : Fld := ⟨0x280080, 0, 8, .rw, 0, 4, 4, .any⟩
def REC_MISSn_TS : Fld := ⟨0x280094, 0, 32, .ro, 0, 4, 3, .any⟩
def REC_FCHf_CONC : Fld := ⟨0x280100, 16, 6, .rw, 0, 4, 32, .any⟩
def REC_FCHf_DECIM : Fld := ⟨0x280100, 0, 3, .rw, 0, 4, 32, .any⟩
def REC_TRGu_CTL_EN : Fld := ⟨0x280200, 31, 1, .rw, 0, 32, 8, .any⟩
def REC_TRGu_CTL_KIND : Fld := ⟨0x280200, 24, 4, .rw, 0, 32, 8, .any⟩
def REC_TRGu_CTL_SRC : Fld := ⟨0x280200, 22, 2, .rw, 0, 32, 8, .any⟩
def REC_TRGu_CTL_SENSE : Fld := ⟨0x280200, 20, 2, .rw, 0, 32, 8, .any⟩
def REC_TRGu_CTL_OUTSIDE : Fld := ⟨0x280200, 19, 1, .rw, 0, 32, 8, .any⟩
def REC_TRGu_CTL_INDEX : Fld := ⟨0x280200, 0, 8, .rw, 0, 32, 8, .any⟩
def REC_TRGu_A_LEVEL : Fld := ⟨0x280204, 0, 32, .rw, 0, 32, 8, .any⟩
def REC_TRGu_B_LEVEL : Fld := ⟨0x280208, 0, 32, .rw, 0, 32, 8, .any⟩
def REC_TRGu_HYST_HYST : Fld := ⟨0x28020C, 0, 32, .rw, 0, 32, 8, .any⟩
def REC_TRGu_WMIN_SAMPLES : Fld := ⟨0x280210, 0, 24, .rw, 0, 32, 8, .any⟩
def REC_TRGu_WMAX_SAMPLES : Fld := ⟨0x280214, 0, 24, .rw, 0, 32, 8, .any⟩
def REC_SCHs_KIND : Fld := ⟨0x280400, 30, 2, .rw, 0, 4, 256, .any⟩
def REC_SCHs_SLOT : Fld := ⟨0x280400, 16, 14, .rw, 0, 4, 256, .any⟩
def REC_SCHs_WORD : Fld := ⟨0x280400, 2, 3, .rw, 0, 4, 256, .any⟩
def REC_SCHs_FIELD : Fld := ⟨0x280400, 0, 2, .rw, 0, 4, 256, .any⟩

/-! 16_personnel_safety.md, Table 16.10 -/
def SAF_STATUS_CHAN_FAULT : Fld := ⟨0x290000, 15, 1, .ro, 0, 0, 1, .any⟩
def SAF_STATUS_ORD_MISMATCH : Fld := ⟨0x290000, 14, 1, .w1c, 0, 0, 1, .any⟩
def SAF_STATUS_ORD_RX : Fld := ⟨0x290000, 13, 1, .w1c, 0, 0, 1, .any⟩
def SAF_STATUS_HASP_FAIL : Fld := ⟨0x290000, 12, 1, .w1c, 0, 0, 1, .any⟩
def SAF_STATUS_RESET_REFUSED : Fld := ⟨0x290000, 11, 1, .w1c, 0, 0, 1, .any⟩
def SAF_STATUS_RESET_HELD : Fld := ⟨0x290000, 10, 1, .w1c, 0, 0, 1, .any⟩
def SAF_STATUS_DISCREP : Fld := ⟨0x290000, 9, 1, .w1c, 0, 0, 1, .any⟩
def SAF_STATUS_DEMAND : Fld := ⟨0x290000, 3, 1, .ro, 1, 0, 1, .any⟩
def SAF_STATUS_CFG_ERR : Fld := ⟨0x290000, 2, 1, .ro, 0, 0, 1, .any⟩
def SAF_STATUS_RUNNING : Fld := ⟨0x290000, 1, 1, .ro, 0, 0, 1, .any⟩
def SAF_STATUS_LOCKED : Fld := ⟨0x290000, 0, 1, .ro, 0, 0, 1, .any⟩
def SAF_CFG_LOCK : Fld := ⟨0x290004, 0, 1, .w1s, 0, 0, 1, .any⟩
def SAF_CFG_CRC_CRC : Fld := ⟨0x290008, 0, 32, .lck, 0, 0, 1, .any⟩
def SAF_CFG_CRC_NOW_CRC : Fld := ⟨0x29000C, 0, 32, .ro, 0, 0, 1, .any⟩
def SAF_IN_A_LEVEL : Fld := ⟨0x290010, 0, 32, .ro, 0, 0, 1, .any⟩
def SAF_IN_B_LEVEL : Fld := ⟨0x290014, 0, 32, .ro, 0, 0, 1, .any⟩
def SAF_IN_RUN_MAP : Fld := ⟨0x290018, 0, 32, .ro, 0, 0, 1, .any⟩
def SAF_IN_DISC_MAP : Fld := ⟨0x29001C, 0, 32, .ro, 0, 0, 1, .any⟩
def SAF_GRP_STATE_STATE : Fld := ⟨0x290020, 0, 32, .ro, 0, 0, 1, .any⟩
def SAF_OUT_FAULT : Fld := ⟨0x290024, 16, 8, .w1c, 0, 0, 1, .any⟩
def SAF_OUT_READBACK : Fld := ⟨0x290024, 8, 8, .ro, 0, 0, 1, .any⟩
def SAF_OUT_ON : Fld := ⟨0x290024, 0, 8, .ro, 0, 0, 1, .any⟩
def SAF_CNT_RESETS : Fld := ⟨0x290028, 16, 16, .ro, 0, 0, 1, .any⟩
def SAF_CNT_REFUSED : Fld := ⟨0x290028, 8, 8, .ro, 0, 0, 1, .any⟩
def SAF_CNT_DISCREP : Fld := ⟨0x290028, 0, 8, .ro, 0, 0, 1, .any⟩
def SAF_ORD_TX_IDENT : Fld := ⟨0x290030, 0, 32, .lck, 0, 0, 1, .any⟩
def SAF_ORD_TXMAC_LO_MAC : Fld := ⟨0x290034, 0, 32, .lck, 0, 0, 1, .any⟩
def SAF_ORD_TXMAC_HI_MAC : Fld := ⟨0x290038, 0, 16, .lck, 0, 0, 1, .any⟩
def SAF_INn_CFG_TD : Fld := ⟨0x290080, 16, 13, .lck, 5000, 4, 32, .clamp 5 5000⟩
def SAF_INn_CFG_TYPE : Fld := ⟨0x290080, 0, 2, .lck, 0, 4, 32, .any⟩
def SAF_OUTn_CFG_MODE : Fld := ⟨0x290100, 30, 2, .lck, 0, 4, 8, .any⟩
def SAF_OUTn_CFG_TEST_EN : Fld := ⟨0x290100, 29, 1, .lck, 1, 4, 8, .any⟩
def SAF_OUTn_CFG_PERMIT : Fld := ⟨0x290100, 24, 5, .lck, 0, 4, 8, .any⟩
def SAF_OUTn_CFG_RELEASE_S : Fld := ⟨0x290100, 16, 8, .lck, 255, 4, 8, .atLeast 1⟩
def SAF_OUTn_CFG_GROUPS : Fld := ⟨0x290100, 0, 16, .lck, 0, 4, 8, .any⟩
def SAF_GRPg_CFG_EN : Fld := ⟨0x290200, 31, 1, .lck, 0, 16, 16, .any⟩
def SAF_GRPg_CFG_KIND : Fld := ⟨0x290200, 26, 2, .lck, 0, 16, 16, .any⟩
def SAF_GRPg_CFG_BLOCK_EN : Fld := ⟨0x290200, 25, 1, .lck, 1, 16, 16, .any⟩
def SAF_GRPg_CFG_SEND_EN : Fld := ⟨0x290200, 24, 1, .lck, 0, 16, 16, .any⟩
def SAF_GRPg_CFG_AUTO : Fld := ⟨0x290200, 23, 1, .lck, 0, 16, 16, .any⟩
def SAF_GRPg_CFG_RESET : Fld := ⟨0x290200, 16, 5, .lck, 0, 16, 16, .any⟩
def SAF_GRPg_INMASK_PAIRS : Fld := ⟨0x290204, 0, 32, .lck, 0, 16, 16, .any⟩
def SAF_GRPg_XMASK_ORDERS : Fld := ⟨0x290208, 16, 8, .lck, 0, 16, 16, .any⟩
def SAF_GRPg_XMASK_HASP : Fld := ⟨0x290208, 0, 16, .lck, 0, 16, 16, .any⟩
def SAF_HASPc_CFG_EN : Fld := ⟨0x290400, 31, 1, .lck, 0, 32, 16, .any⟩
def SAF_HASPc_CFG_DIR : Fld := ⟨0x290400, 30, 1, .lck, 0, 32, 16, .any⟩
def SAF_HASPc_CFG_TIME : Fld := ⟨0x290400, 16, 10, .lck, 100, 32, 16, .clamp 1 1000⟩
def SAF_HASPc_CFG_INTERLOCK_SRC : Fld := ⟨0x290400, 0, 16, .lck, 0, 32, 16, .any⟩
def SAF_HASPc_IDENT_IDENT : Fld := ⟨0x290404, 0, 32, .lck, 0, 32, 16, .any⟩
def SAF_HASPc_MAC_LO_MAC : Fld := ⟨0x290408, 0, 32, .lck, 0, 32, 16, .any⟩
def SAF_HASPc_MAC_HI_MAC : Fld := ⟨0x29040C, 0, 16, .lck, 0, 32, 16, .any⟩
def SAF_HASPc_DATA_INTERLOCK : Fld := ⟨0x290410, 0, 16, .ro, 0, 32, 16, .any⟩
def SAF_HASPc_STAT_OK : Fld := ⟨0x290414, 31, 1, .ro, 0, 32, 16, .any⟩
def SAF_HASPc_STAT_SEQ : Fld := ⟨0x290414, 0, 16, .ro, 0, 32, 16, .any⟩
def SAF_HASPc_ERR_CRC : Fld := ⟨0x290418, 24, 8, .ro, 0, 32, 16, .any⟩
def SAF_HASPc_ERR_IDENT : Fld := ⟨0x290418, 16, 8, .ro, 0, 32, 16, .any⟩
def SAF_HASPc_ERR_REPEAT : Fld := ⟨0x290418, 8, 8, .ro, 0, 32, 16, .any⟩
def SAF_HASPc_ERR_GAP : Fld := ⟨0x290418, 0, 8, .ro, 0, 32, 16, .any⟩
def SAF_ORDr_CFG_EN : Fld := ⟨0x290600, 31, 1, .lck, 0, 16, 8, .any⟩
def SAF_ORDr_CFG_TWO_OF_TWO : Fld := ⟨0x290600, 30, 1, .lck, 0, 16, 8, .any⟩
def SAF_ORDr_IDENT_IDENT : Fld := ⟨0x290604, 0, 32, .lck, 0, 16, 8, .any⟩
def SAF_ORDr_STAT_EXECUTED : Fld := ⟨0x290608, 24, 8, .ro, 0, 16, 8, .any⟩
def SAF_ORDr_STAT_SINGLE : Fld := ⟨0x290608, 16, 8, .ro, 0, 16, 8, .any⟩
def SAF_ORDr_STAT_MISMATCH : Fld := ⟨0x290608, 8, 8, .ro, 0, 16, 8, .any⟩
def SAF_ORDr_STAT_ERRORS : Fld := ⟨0x290608, 0, 8, .ro, 0, 16, 8, .any⟩

/-! 17_updates.md, Table 17.11 -/
def UPD_STATUS_FALLBACK_WAIT : Fld := ⟨0x2A0000, 3, 1, .ro, 0, 0, 1, .any⟩
def UPD_STATUS_FELL_BACK : Fld := ⟨0x2A0000, 2, 1, .w1c, 0, 0, 1, .any⟩
def UPD_STATUS_PIECE_REJ : Fld := ⟨0x2A0000, 1, 1, .w1c, 0, 0, 1, .any⟩
def UPD_STATUS_AUX_LOW : Fld := ⟨0x2A0000, 0, 1, .ro, 0, 0, 1, .any⟩
def UPD_CFG_CELL_FRAMES : Fld := ⟨0x2A0004, 0, 8, .rw, 8, 0, 1, .clamp 1 16⟩
def UPD_HASP_ENROLLED : Fld := ⟨0x2A0008, 1, 1, .ro, 0, 0, 1, .any⟩
def UPD_HASP_SET : Fld := ⟨0x2A0008, 0, 1, .ro, 0, 0, 1, .any⟩
def UPD_HASP_NONCE_LO_NONCE : Fld := ⟨0x2A000C, 0, 32, .ro, 0, 0, 1, .any⟩
def UPD_HASP_NONCE_HI_NONCE : Fld := ⟨0x2A0010, 0, 32, .ro, 0, 0, 1, .any⟩
def UPD_BOOT_BOOTS : Fld := ⟨0x2A0014, 24, 8, .ro, 0, 0, 1, .any⟩
def UPD_BOOT_FELL_BACK : Fld := ⟨0x2A0014, 9, 1, .ro, 0, 0, 1, .any⟩
def UPD_BOOT_TRIAL : Fld := ⟨0x2A0014, 8, 1, .ro, 0, 0, 1, .any⟩
def UPD_BOOT_WARD : Fld := ⟨0x2A0014, 0, 1, .ro, 0, 0, 1, .any⟩
def UPD_BOOT_AGE_AGE : Fld := ⟨0x2A0018, 0, 32, .ro, 0, 0, 1, .any⟩
def UPD_KPTR_BOOTS : Fld := ⟨0x2A001C, 24, 8, .ro, 0, 0, 1, .any⟩
def UPD_KPTR_FELL_BACK : Fld := ⟨0x2A001C, 9, 1, .ro, 0, 0, 1, .any⟩
def UPD_KPTR_TRIAL : Fld := ⟨0x2A001C, 8, 1, .ro, 0, 0, 1, .any⟩
def UPD_KPTR_WARD : Fld := ⟨0x2A001C, 0, 1, .ro, 0, 0, 1, .any⟩
def UPD_KPTR_AGE_AGE : Fld := ⟨0x2A0020, 0, 32, .ro, 0, 0, 1, .any⟩
def UPD_WAVE_BUSY : Fld := ⟨0x2A0080, 31, 1, .ro, 0, 0, 1, .any⟩
def UPD_WAVE_ARM : Fld := ⟨0x2A0080, 28, 3, .ro, 0, 0, 1, .any⟩
def UPD_WAVE_DONE : Fld := ⟨0x2A0080, 16, 12, .ro, 0, 0, 1, .any⟩
def UPD_WAVE_IN_WAVE : Fld := ⟨0x2A0080, 8, 8, .ro, 0, 0, 1, .any⟩
def UPD_WAVE_FAILED : Fld := ⟨0x2A0080, 0, 8, .ro, 0, 0, 1, .any⟩
def UPD_DIST_BUSY : Fld := ⟨0x2A0084, 31, 1, .ro, 0, 0, 1, .any⟩
def UPD_DIST_KIND : Fld := ⟨0x2A0084, 30, 1, .ro, 0, 0, 1, .any⟩
def UPD_DIST_TARGETS : Fld := ⟨0x2A0084, 15, 15, .ro, 0, 0, 1, .any⟩
def UPD_DIST_HOLDING : Fld := ⟨0x2A0084, 0, 15, .ro, 0, 0, 1, .any⟩
def UPD_HASP_LIFT_LO_HANDLE : Fld := ⟨0x2A0088, 0, 32, .ro, 0, 0, 1, .any⟩
def UPD_HASP_LIFT_HI_HANDLE : Fld := ⟨0x2A008C, 0, 32, .ro, 0, 0, 1, .any⟩
def UPD_Sk_STATE_STORED : Fld := ⟨0x2A0030, 20, 12, .ro, 0, 16, 4, .any⟩
def UPD_Sk_STATE_PIECES : Fld := ⟨0x2A0030, 8, 12, .ro, 0, 16, 4, .any⟩
def UPD_Sk_STATE_STATE : Fld := ⟨0x2A0030, 0, 3, .ro, 0, 16, 4, .any⟩
def UPD_Sk_VER_VALUE : Fld := ⟨0x2A0034, 0, 32, .ro, 0, 16, 4, .any⟩
def UPD_Sk_SEC_VALUE : Fld := ⟨0x2A0038, 0, 32, .ro, 0, 16, 4, .any⟩
def UPD_Sk_FLOOR_FLOOR : Fld := ⟨0x2A003C, 0, 32, .ro, 0, 16, 4, .any⟩

/-! 18_cores_and_scheduler.md, Table 18.7 -/
def SCH_STATUS_SRAM_CORR : Fld := ⟨0x2B0000, 16, 16, .ro, 0, 0, 1, .any⟩
def SCH_STATUS_PAIR_LOST : Fld := ⟨0x2B0000, 1, 1, .w1c, 0, 0, 1, .any⟩
def SCH_STATUS_OP_ERR : Fld := ⟨0x2B0000, 0, 1, .w1c, 0, 0, 1, .any⟩
def SCH_CFG_EVENTS : Fld := ⟨0x2B0004, 16, 16, .rw, 254, 0, 1, .any⟩
def SCH_CFG_MODE : Fld := ⟨0x2B0004, 1, 1, .rw, 0, 0, 1, .any⟩
def SCH_CFG_TRACE_EN : Fld := ⟨0x2B0004, 0, 1, .rw, 1, 0, 1, .any⟩
def SCH_PAIRS_PENDING : Fld := ⟨0x2B0008, 8, 4, .ro, 0, 0, 1, .any⟩
def SCH_PAIRS_IDLE : Fld := ⟨0x2B0008, 4, 4, .ro, 15, 0, 1, .any⟩
def SCH_PAIRS_ALIVE : Fld := ⟨0x2B0008, 0, 4, .ro, 15, 0, 1, .any⟩
def SCH_READY_MAP_MAP : Fld := ⟨0x2B0020, 0, 32, .ro, 0, 0, 1, .any⟩
def SCH_CNT_DECISIONS : Fld := ⟨0x2B0024, 16, 16, .ro, 0, 0, 1, .any⟩
def SCH_CNT_STALE : Fld := ⟨0x2B0024, 0, 16, .ro, 0, 0, 1, .any⟩
def SCH_THR_SEL_THREAD : Fld := ⟨0x2B0030, 0, 8, .rw, 0, 0, 1, .any⟩
def SCH_THR_INFO_STATE : Fld := ⟨0x2B0034, 30, 2, .ro, 0, 0, 1, .any⟩
def SCH_THR_INFO_PEND : Fld := ⟨0x2B0034, 29, 1, .ro, 0, 0, 1, .any⟩
def SCH_THR_INFO_PAIR : Fld := ⟨0x2B0034, 27, 2, .ro, 0, 0, 1, .any⟩
def SCH_THR_INFO_PRIO : Fld := ⟨0x2B0034, 8, 5, .ro, 0, 0, 1, .any⟩
def SCH_THR_INFO_AFF : Fld := ⟨0x2B0034, 0, 4, .ro, 0, 0, 1, .any⟩
def SCH_TRACE_IDX_LOST : Fld := ⟨0x2B0040, 16, 16, .ro, 0, 0, 1, .any⟩
def SCH_TRACE_IDX_HEAD : Fld := ⟨0x2B0040, 0, 11, .ro, 0, 0, 1, .any⟩
def SCH_TRACE_ADDR_ADDR : Fld := ⟨0x2B0044, 2, 14, .rw, 0, 0, 1, .any⟩
def SCH_TRACE_DATA_DATA : Fld := ⟨0x2B0048, 0, 32, .ro, 0, 0, 1, .any⟩
def SCH_RUNp_VALID : Fld := ⟨0x2B0010, 31, 1, .ro, 0, 4, 4, .any⟩
def SCH_RUNp_PRIO : Fld := ⟨0x2B0010, 8, 5, .ro, 0, 4, 4, .any⟩
def SCH_RUNp_THREAD : Fld := ⟨0x2B0010, 0, 8, .ro, 0, 4, 4, .any⟩

/-! 19_power_reset_startup.md, Table 19.7 -/
def PWR_STATUS_WARM_REFUSED : Fld := ⟨0x2C0000, 15, 1, .w1c, 0, 0, 1, .any⟩
def PWR_STATUS_AUX_LOW : Fld := ⟨0x2C0000, 14, 1, .ro, 0, 0, 1, .any⟩
def PWR_STATUS_CAUSE : Fld := ⟨0x2C0000, 8, 3, .ro, 0, 0, 1, .any⟩
def PWR_STATUS_STAGE : Fld := ⟨0x2C0000, 0, 3, .ro, 1, 0, 1, .any⟩
def PWR_CTL_KEY : Fld := ⟨0x2C0004, 16, 16, .wo, 0, 0, 1, .any⟩
def PWR_CTL_ACTION : Fld := ⟨0x2C0004, 0, 2, .wo, 0, 0, 1, .any⟩
def PWR_RAILS_IN_WINDOW : Fld := ⟨0x2C0008, 0, 7, .ro, 127, 0, 1, .any⟩
def PWR_RAIL_ERR_OUT : Fld := ⟨0x2C000C, 0, 7, .w1c, 0, 0, 1, .any⟩
def PWR_VHOLD_THRESH : Fld := ⟨0x2C0010, 16, 12, .rw, 1200, 0, 1, .atMost 1800⟩
def PWR_VHOLD_MV : Fld := ⟨0x2C0010, 0, 12, .ro, 0, 0, 1, .any⟩
def PWR_CNT_WARM : Fld := ⟨0x2C0014, 16, 16, .ro, 0, 0, 1, .any⟩
def PWR_CNT_PIN : Fld := ⟨0x2C0014, 0, 16, .ro, 0, 0, 1, .any⟩
def PWR_UPTIME_SECONDS : Fld := ⟨0x2C0018, 0, 32, .ro, 0, 0, 1, .any⟩

/-! 04_tumblers_and_arm_modulation.md, Table 4.1 -/
def CT_VCAP : Fld := ⟨0x400000, 16, 16, .ro, 0, 32, 12288, .any⟩
def CT_VPRED_CELL : Fld := ⟨0x400000, 0, 16, .ro, 0, 32, 12288, .any⟩
def CT_STALE : Fld := ⟨0x400004, 31, 1, .ro, 0, 32, 12288, .any⟩
def CT_CELL_STATE : Fld := ⟨0x400004, 24, 4, .ro, 0, 32, 12288, .any⟩
def CT_OV_HARD : Fld := ⟨0x400004, 23, 1, .ro, 0, 32, 12288, .any⟩
def CT_OV_WARN : Fld := ⟨0x400004, 22, 1, .ro, 0, 32, 12288, .any⟩
def CT_UV : Fld := ⟨0x400004, 21, 1, .ro, 0, 32, 12288, .any⟩
def CT_OVT : Fld := ⟨0x400004, 20, 1, .ro, 0, 32, 12288, .any⟩
def CT_DESAT : Fld := ⟨0x400004, 16, 4, .ro, 0, 32, 12288, .any⟩
def CT_TEMP : Fld := ⟨0x400004, 8, 8, .ro, 0, 32, 12288, .any⟩
def CT_UPL_SEQ : Fld := ⟨0x400004, 0, 8, .ro, 0, 32, 12288, .any⟩
def CT_AUX : Fld := ⟨0x400008, 0, 32, .ro, 0, 32, 12288, .any⟩
def CT_SAMPLE_CYC : Fld := ⟨0x40000C, 16, 16, .ro, 0, 32, 12288, .any⟩
def CT_STAT_AUX : Fld := ⟨0x40000C, 0, 16, .ro, 0, 32, 12288, .any⟩
def CT_SLOT_STATE : Fld := ⟨0x400010, 28, 4, .ro, 0, 32, 12288, .any⟩
def CT_TYPE : Fld := ⟨0x400010, 26, 2, .ro, 0, 32, 12288, .any⟩
def CT_EXCL : Fld := ⟨0x400010, 25, 1, .rw, 0, 32, 12288, .any⟩
def CT_MISMATCH : Fld := ⟨0x400010, 24, 1, .w1c, 0, 32, 12288, .any⟩
def CT_LATCH_OFS : Fld := ⟨0x400010, 0, 8, .rw, 0, 32, 12288, .any⟩
def CT_C_EST : Fld := ⟨0x400014, 16, 16, .rw, 0, 32, 12288, .any⟩
def CT_LEARN_N : Fld := ⟨0x400014, 0, 16, .rw, 0, 32, 12288, .any⟩
def CT_CMD_LAST : Fld := ⟨0x400018, 29, 3, .ro, 0, 32, 12288, .any⟩
def CT_CMD_PREV : Fld := ⟨0x400018, 26, 3, .ro, 0, 32, 12288, .any⟩
def CT_F_LAST : Fld := ⟨0x400018, 12, 12, .ro, 0, 32, 12288, .any⟩
def CT_F_PREV : Fld := ⟨0x400018, 0, 12, .ro, 0, 32, 12288, .any⟩
def CT_TRANS : Fld := ⟨0x40001C, 24, 8, .ro, 0, 32, 12288, .any⟩
def CT_CREDIT : Fld := ⟨0x40001C, 0, 24, .ro, 0, 32, 12288, .any⟩

def vcpFields0 : List Fld := [ID_PART_DEVICE, ID_PART_STEPPING, ID_VENDOR_VENDOR, ID_CAP_VARIANT, ID_CAP_ARM_CELLS, ID_CAP_REC_SIZE, ID_CAP_SAF, ID_CAP_REC, ID_FUSE_TEST_FUSE, ID_FUSE_FUSE_OK, ID_SERIAL_LO_SN, ID_SERIAL_HI_SN, ID_FW_VER_VERSION, ID_ROM_VER_VERSION, TIM_CTL_OP, TIM_STATUS_FOLLOWING, TIM_STATUS_UNSET, TIM_STATUS_TRIG_LATE, TIM_STATUS_BAD_TS, TIM_STATUS_RATE_CLAMPED, TIM_STATUS_OFS_REFUSED, TIM_CLK_REVERT, TIM_CLK_SEL_MODE, TIM_CLK_PREF, TIM_CLK_STATUS_HOLD_MS, TIM_CLK_STATUS_MIR_ALIGN, TIM_CLK_STATUS_HOLD_EXPIRED, TIM_CLK_STATUS_HOLD_SEEN, TIM_CLK_STATUS_SWITCHED, TIM_CLK_STATUS_STATE, TIM_CLK_STATUS_QUAL_B, TIM_CLK_STATUS_QUAL_A, TIM_GRID_SLIPS, TIM_GRID_ERROR, TIM_Pn_CFG_TRANSPORT, TIM_Pn_CFG_ONE_STEP, TIM_Pn_CFG_SPEED, TIM_Pn_CFG_EN, TIM_Pn_ASYM_EGRESS, TIM_Pn_ASYM_INGRESS, TIM_Pn_RXTAG_VALID, TIM_Pn_RXTAG_MSGTYPE, TIM_Pn_RXTAG_SEQID, TIM_Pn_TXTAG_VALID, TIM_Pn_TXTAG_MSGTYPE, TIM_Pn_TXTAG_SEQID, TIM_Pn_STAT_TX_LOST, TIM_Pn_STAT_RX_LOST, TIM_COUNT_LO_VALUE, TIM_COUNT_HI_VALUE, TIM_NOW0_VALUE, TIM_NOW1_VALUE, TIM_NOW2_VALUE, TIM_RATE_VALUE, TIM_ADJ_LO_VALUE, TIM_ADJ_HI_VALUE, TIM_LOAD0_VALUE, TIM_LOAD1_VALUE, TIM_LOAD2_VALUE, TIM_OFS0_VALUE]

def vcpFields1 : List Fld := [TIM_OFS1_VALUE, TIM_OFS2_VALUE, TIM_RATE_LIM_VALUE, TIM_Pn_RXTS0_VALUE, TIM_Pn_RXTS1_VALUE, TIM_Pn_RXTS2_VALUE, TIM_Pn_TXTS0_VALUE, TIM_Pn_TXTS1_VALUE, TIM_Pn_TXTS2_VALUE, CYC_STATUS_STBY_WRITE, CYC_STATUS_BUDGET, CYC_STATUS_COMMIT_REFUSED, CYC_STATUS_CONV_STATE, CYC_PERIOD_PERIOD, CYC_SAMPLE_OFS_VALUE, CYC_UPL_DL_VALUE, CYC_PUB_DL_VALUE, CYC_SEL_ALLOW_VALUE, CYC_COMMIT_GROUPS, CYC_DISCARD_GROUPS, CYC_COMMIT_PEND_GROUPS, CYC_GROUP_OPEN_GROUPS, CYC_COMMIT_ERR_VALID, CYC_COMMIT_ERR_REASON, CYC_COMMIT_ERR_GROUP, CYC_OVR_TOTAL, CYC_OVR_WINDOW, CYC_OVR_CONSEC, CYC_OVR_LAST_SKIPS, CYC_OVR_LAST_CAUSE, CYC_OVR_LAST_CYCLE, CYC_STALE_LO_MAP, CYC_STALE_HI_MAP, CYC_COUNT_LO_VALUE, CYC_COUNT_HI_VALUE, CYC_SLACK_UP_MIN, CYC_SLACK_DN_MIN, TUM_STATUS_OFS_LOCKED, TUM_STATUS_SS_REFUSED, TUM_STATUS_XCHK, TUM_STATUS_FRAC_DROP, TUM_STATUS_NEG_CLAMP, TUM_STATUS_POS_CLAMP, TUM_STATUS_SHORTFALL, TUM_STATUS_WARN, TUM_STATUS_DIR, TUM_STATUS_OUT_MODE, TUM_POLICY_MAX_SWAP, TUM_POLICY_F_DEAD, TUM_POLICY_THERM_EN, TUM_POLICY_FRAC_ROTATE, TUM_HYST_HYST, TUM_BUDGET_DEPTH, TUM_BUDGET_RATE, TUM_THERM_T0, TUM_THERM_GAIN, TUM_ISIGN_I_DB, TUM_XCHK_PERSIST, TUM_XCHK_BAND, TUM_CMIN_C_MIN]

def vcpFields2 : List Fld := [TUM_SPARE_N_REQ, TUM_SPARE_WARN, TUM_SPARE_HEALTHY, TUM_STANDSTILL_ISO, TUM_STANDSTILL_MODE, TUM_IN_N_N, TUM_IN_F_F, TUM_IN_IARM_IARM, TUM_OUT_POL, TUM_OUT_M, TUM_OUT_F, TUM_FRAC_VALID, TUM_FRAC_POSITION, TUM_FRAC_CYCLE, TUM_SELTIME_MAX, TUM_SELTIME_LAST, TUM_CNT_SWAPS, TUM_CNT_XCHK, TUM_CNT_CLAMPS, TUM_CNT_DROPS, TUM_XCHK_SLOT_VALID, TUM_XCHK_SLOT_POSITION, FAB_STATUS_UECC_SEEN, FAB_STATUS_SELFCHK, FAB_STATUS_HOST_WR_REFUSED, FAB_STATUS_RESERVE, FAB_STATUS_CLEARING, FAB_STATUS_RUN, FAB_CFG_SCRUB_S, FAB_CFG_STEST_EN, FAB_ROUTE_SQRT_NEG, FAB_ROUTE_DIV_ZERO, FAB_ROUTE_ACC_OVF, FAB_ROUTE_SAT, FAB_LOAD_TILE, FAB_LOAD_MAX, FAB_SCRUB_PASSES, FAB_SCRUB_CORR, FAB_ECC_TILE, FAB_ECC_MEM, FAB_ECC_COUNT, FAB_STEST_TILE, FAB_STEST_FAILED, FAB_STEST_RUNS, FAB_FLAGMAPn_MAP, FAB_USEDMAPn_MAP, FAB_MWu_CTL_KIND, FAB_MWu_CTL_LEAK, FAB_MWu_CTL_TRIP_P, FAB_MWu_CTL_ALARM_P, FAB_MWu_CTL_TRIPPED, FAB_MWu_CTL_ALARMED, FAB_MWu_ALARM_BAND, FAB_MWu_TRIP_BAND, FAB_MWu_RES_R, TILE_STATUS_FAILED, TILE_STATUS_USED, TILE_STATUS_STEST, TILE_STATUS_RESERVE, TILE_STATUS_ABORT]

def vcpFields3 : List Fld := [TILE_STATUS_SELFCHK, TILE_STATUS_UECC, TILE_STATUS_SQRT_NEG, TILE_STATUS_DIV_ZERO, TILE_STATUS_ACC_OVF, TILE_STATUS_SAT, TILE_FLAG_STEP_CYCLE, TILE_FLAG_STEP_VALID, TILE_FLAG_STEP_STEP, TILE_LIST_WCET, TILE_LIST_STEPS, TILE_TIME_MAX, TILE_TIME_LAST, TILE_ECC_UNCORR, TILE_ECC_CORR, TILE_SP_ADDR_ADDR, TILE_SP_DATA_DATA, TILE_CO_ADDR_ADDR, TILE_CO_DATA_VALUE, TILE_CO_SHIFT_SHIFT, TILE_IC_DISCARD, TILE_IC_OCC, TILE_ACC_LO_ACC, TILE_ACC_HI_ACC, TILE_Sn_VALUE, TILE_INn_VALUE, TILE_MBn_VALUE, KEY_STATUS_SHADOW_LOST, KEY_STATUS_PARTNER_MISMATCH, KEY_STATUS_CO_WR_REFUSED, KEY_STATUS_TRIAL, KEY_STATUS_HITLESS, KEY_STATUS_ACT_WARD, KEY_STATUS_SHD_STATE, KEY_STATUS_SWAP_PEND, KEY_STATUS_KEYED, KEY_ERR_VALID, KEY_ERR_CHECK, KEY_ERR_SECTION, KEY_FLOOR_FLOOR, KEY_WARD_PTR, KEY_WARD_B_BUSY, KEY_WARD_B_VALID, KEY_WARD_A_BUSY, KEY_WARD_A_VALID, KEY_SWAP_CYCLE, KEY_SWAP_KIND, KEY_SWAP_VALID, KEY_MAP_TAG_TAG, KEY_HASH_SEL_SEL, KEY_ERR_OFS_OFFSET, KEY_FLOOR_LEFT_LEFT, KEY_ACT_VER_VALUE, KEY_ACT_SEC_VALUE, KEY_SHD_VER_VALUE, KEY_SHD_SEC_VALUE, KEY_WARDA_VER_VALUE, KEY_WARDA_SEC_VALUE, KEY_WARDB_VER_VALUE, KEY_WARDB_SEC_VALUE]

def vcpFields4 : List Fld := [KEY_HASHn_BYTES, PROF_STATUS_REASON, PROF_STATUS_MODE, PROF_CFG_BLEND_S, PROF_CFG_LOCK, PROF_CFG_TEST_ALLOW, PROF_BLEND_LEFT_MS, PROF_CH_VALUE_VALUE, PROF_CH_TARGET_VALUE, PROF_CH_RATE_RATE, PROF_CH_ACCEL_ACCEL, PROF_CH_RATE_LIM_RATE, PROF_CH_ACCEL_LIM_ACCEL, PROF_CH_JERK_LIM_JERK, PROF_CH_STATE_QUEUE, PROF_CH_STATE_FROZEN, PROF_CH_STATE_ACCEL_OVERRIDE, PROF_CH_STATE_LIMITED, PROF_CH_STATE_MOTION, PROF_CH_HANDLE_LO_HANDLE, PROF_CH_HANDLE_HI_HANDLE, LNKn_PEER_SN_LO_SN, LNKn_PEER_SN_HI_SN, MIR_STATUS_UP, MIR_STATUS_SKEW, DISC_EVT_CONC, DISC_EVT_UNMAP, DISC_EVT_BOLTED, DISC_EVT_QUAR, DISC_EVT_LOST, DISC_EVT_JOINED, DISC_CFG_LIVE_READMIT, DISC_HARD_HARD, DISC_FW_VERSION, DISC_SLOT_SEL_SLOT, DISC_SLOT_INFO_STATE, DISC_SLOT_INFO_VARIANT, DISC_SLOT_INFO_QREASON, DISC_SLOT_INFO_FW_PENDING, DISC_SLOT_FW_VERSION, DISC_UNMAP_VALID, DISC_UNMAP_CONC, DISC_UNMAP_PORT, DISC_CONC_FOUND_LO_MAP, DISC_CONC_FOUND_HI_MAP, DISC_CONC_UNDECL_LO_MAP, DISC_CONC_UNDECL_HI_MAP, DISC_CONC_SHORT_LO_MAP, DISC_CONC_SHORT_HI_MAP, DISC_ARMa_CNT_ACTIVE, DISC_ARMa_CNT_LOST, DISC_ARMa_CNT_BOLTED, DISC_SLOT_SN_LO_SN, DISC_SLOT_SN_HI_SN, DISC_UNMAP_SN_LO_SN, DISC_UNMAP_SN_HI_SN, HND_STATUS_JRNL_FAULT, HND_STATUS_FETCH_FAULT, HND_STATUS_ACK_BAD, HND_STATUS_CFG_REFUSED]

def vcpFields5 : List Fld := [HND_STATUS_CQ_FULL, HND_STATUS_ROLE, HND_CFG_EN, HND_SQ_BASE_LO_ADDR, HND_SQ_BASE_HI_ADDR, HND_SQ_SIZE_SIZE, HND_SQ_TAIL_TAIL, HND_SQ_HEAD_HEAD, HND_CQ_BASE_LO_ADDR, HND_CQ_BASE_HI_ADDR, HND_CQ_SIZE_SIZE, HND_CQ_ACK_CSEQ, HND_CQ_NEXT_LO_VALUE, HND_CQ_NEXT_HI_VALUE, HND_SEQ_LO_VALUE, HND_SEQ_HI_VALUE, HND_JRNL_LIVE, HND_IRQ_CFG_COUNT, HND_IRQ_CFG_TIME_US, HND_CNT_RETRY, HND_CNT_MALFORMED, HNG_STATUS_SPLIT_SEEN, HNG_STATUS_MISMATCH, HNG_STATUS_REPORT_LATE, HNG_STATUS_HINGED, HNG_STATUS_PAIR_FAULT, HNG_STATUS_SPLIT, HNG_STATUS_PARTNER_STANDING, HNG_STATUS_PARTNER_UP, HNG_STATUS_STANDING_BY, HNG_STATUS_LEAF, HNG_STATUS_ROLE, HNG_CFG_ALIGN_HOLD_MS, HNG_CFG_CMP_PERSIST, HNG_SOLO_MS, HNG_CAUSE_CYCLE, HNG_CAUSE_VALID, HNG_CAUSE_CAUSE, HNG_HEALTH_SUMMARY, HNG_HEALTH_AGE_MS, HNG_CMP_COMPARED, HNG_CMP_BAD_MISMATCHED, HNG_CMP_BAD_UNCOMPARED, HNG_CMP_LAST_CYCLE, HNG_CMP_LAST_SLOT, HNG_SPLIT_NOW, HNG_SPLIT_LONGEST, HNG_SPLIT_SPLITS, HNG_CNT_HINGE_OVERS, HNG_CNT_SWAPS, HNG_GRANT0_LO_MAP, HNG_GRANT0_HI_MAP, HNG_GRANT1_LO_MAP, HNG_GRANT1_HI_MAP, FLT_STATUS_DEADBOLT, FLT_STATUS_TRIP_OPEN, FLT_STATUS_ALARM_OPEN, FLT_STATUS_RING_OVF, FLT_STATUS_BROKEN, FLT_STATUS_TEST]

def vcpFields6 : List Fld := [FLT_STATUS_MODE, FLT_LINES_BROKEN, FLT_LINES_LEVEL, FLT_RING_OPEN, FLT_RING_HELD, FLT_REC_SEL_HEAD, FLT_REC_SEL_INDEX, FLT_CLEAR_ALL, FLT_CLEAR_INDEX, FLT_CNT_LOST, FLT_CNT_MERGED, FLT_DBOLT_CODE, FLT_DBOLT_VALID, FLT_INJ_CODE_CLASS, FLT_INJ_CODE_CODE, FLT_INJ_SRC_SOURCE, FLT_INJ_CAUSE_CAUSE, FLT_RECn_WORD, REC_STATUS_UECC, REC_STATUS_CFG_LOCKED, REC_STATUS_MISSED, REC_STATUS_OVERFLOW, REC_STATUS_MODE, REC_STATUS_STATE, REC_CFG_AUTO_MS, REC_SEG_COUNT, REC_SEG_SIZE, REC_EMASK_GROUPS, REC_ROW_MAXF, REC_ROW_ROW_BYTES, REC_CAP_CAP, REC_SEGSTAT_FREE, REC_SEGSTAT_NEXT, REC_RECNO_NEXT, REC_SEGSEL_SEG, REC_SEGINFO_RECNO, REC_SEGINFO_STATE, REC_MISS_IDX_HEAD, REC_MISS_IDX_COUNT, REC_MISS_IDX_IDX, REC_MISS3_CYCLE, REC_MISS3_UNITS, REC_PRE_ROWS, REC_POST_ROWS, REC_FMASK_MASK, REC_SMASKn_MASK, REC_MEASn_EN, REC_MEASn_KIND, REC_MEASn_INDEX, REC_COMBt_USE, REC_COMBt_INV, REC_MISSn_TS, REC_FCHf_CONC, REC_FCHf_DECIM, REC_TRGu_CTL_EN, REC_TRGu_CTL_KIND, REC_TRGu_CTL_SRC, REC_TRGu_CTL_SENSE, REC_TRGu_CTL_OUTSIDE, REC_TRGu_CTL_INDEX]

def vcpFields7 : List Fld := [REC_TRGu_A_LEVEL, REC_TRGu_B_LEVEL, REC_TRGu_HYST_HYST, REC_TRGu_WMIN_SAMPLES, REC_TRGu_WMAX_SAMPLES, REC_SCHs_KIND, REC_SCHs_SLOT, REC_SCHs_WORD, REC_SCHs_FIELD, SAF_STATUS_CHAN_FAULT, SAF_STATUS_ORD_MISMATCH, SAF_STATUS_ORD_RX, SAF_STATUS_HASP_FAIL, SAF_STATUS_RESET_REFUSED, SAF_STATUS_RESET_HELD, SAF_STATUS_DISCREP, SAF_STATUS_DEMAND, SAF_STATUS_CFG_ERR, SAF_STATUS_RUNNING, SAF_STATUS_LOCKED, SAF_CFG_LOCK, SAF_CFG_CRC_CRC, SAF_CFG_CRC_NOW_CRC, SAF_IN_A_LEVEL, SAF_IN_B_LEVEL, SAF_IN_RUN_MAP, SAF_IN_DISC_MAP, SAF_GRP_STATE_STATE, SAF_OUT_FAULT, SAF_OUT_READBACK, SAF_OUT_ON, SAF_CNT_RESETS, SAF_CNT_REFUSED, SAF_CNT_DISCREP, SAF_ORD_TX_IDENT, SAF_ORD_TXMAC_LO_MAC, SAF_ORD_TXMAC_HI_MAC, SAF_INn_CFG_TD, SAF_INn_CFG_TYPE, SAF_OUTn_CFG_MODE, SAF_OUTn_CFG_TEST_EN, SAF_OUTn_CFG_PERMIT, SAF_OUTn_CFG_RELEASE_S, SAF_OUTn_CFG_GROUPS, SAF_GRPg_CFG_EN, SAF_GRPg_CFG_KIND, SAF_GRPg_CFG_BLOCK_EN, SAF_GRPg_CFG_SEND_EN, SAF_GRPg_CFG_AUTO, SAF_GRPg_CFG_RESET, SAF_GRPg_INMASK_PAIRS, SAF_GRPg_XMASK_ORDERS, SAF_GRPg_XMASK_HASP, SAF_HASPc_CFG_EN, SAF_HASPc_CFG_DIR, SAF_HASPc_CFG_TIME, SAF_HASPc_CFG_INTERLOCK_SRC, SAF_HASPc_IDENT_IDENT, SAF_HASPc_MAC_LO_MAC, SAF_HASPc_MAC_HI_MAC]

def vcpFields8 : List Fld := [SAF_HASPc_DATA_INTERLOCK, SAF_HASPc_STAT_OK, SAF_HASPc_STAT_SEQ, SAF_HASPc_ERR_CRC, SAF_HASPc_ERR_IDENT, SAF_HASPc_ERR_REPEAT, SAF_HASPc_ERR_GAP, SAF_ORDr_CFG_EN, SAF_ORDr_CFG_TWO_OF_TWO, SAF_ORDr_IDENT_IDENT, SAF_ORDr_STAT_EXECUTED, SAF_ORDr_STAT_SINGLE, SAF_ORDr_STAT_MISMATCH, SAF_ORDr_STAT_ERRORS, UPD_STATUS_FALLBACK_WAIT, UPD_STATUS_FELL_BACK, UPD_STATUS_PIECE_REJ, UPD_STATUS_AUX_LOW, UPD_CFG_CELL_FRAMES, UPD_HASP_ENROLLED, UPD_HASP_SET, UPD_HASP_NONCE_LO_NONCE, UPD_HASP_NONCE_HI_NONCE, UPD_BOOT_BOOTS, UPD_BOOT_FELL_BACK, UPD_BOOT_TRIAL, UPD_BOOT_WARD, UPD_BOOT_AGE_AGE, UPD_KPTR_BOOTS, UPD_KPTR_FELL_BACK, UPD_KPTR_TRIAL, UPD_KPTR_WARD, UPD_KPTR_AGE_AGE, UPD_WAVE_BUSY, UPD_WAVE_ARM, UPD_WAVE_DONE, UPD_WAVE_IN_WAVE, UPD_WAVE_FAILED, UPD_DIST_BUSY, UPD_DIST_KIND, UPD_DIST_TARGETS, UPD_DIST_HOLDING, UPD_HASP_LIFT_LO_HANDLE, UPD_HASP_LIFT_HI_HANDLE, UPD_Sk_STATE_STORED, UPD_Sk_STATE_PIECES, UPD_Sk_STATE_STATE, UPD_Sk_VER_VALUE, UPD_Sk_SEC_VALUE, UPD_Sk_FLOOR_FLOOR, SCH_STATUS_SRAM_CORR, SCH_STATUS_PAIR_LOST, SCH_STATUS_OP_ERR, SCH_CFG_EVENTS, SCH_CFG_MODE, SCH_CFG_TRACE_EN, SCH_PAIRS_PENDING, SCH_PAIRS_IDLE, SCH_PAIRS_ALIVE, SCH_READY_MAP_MAP]

def vcpFields9 : List Fld := [SCH_CNT_DECISIONS, SCH_CNT_STALE, SCH_THR_SEL_THREAD, SCH_THR_INFO_STATE, SCH_THR_INFO_PEND, SCH_THR_INFO_PAIR, SCH_THR_INFO_PRIO, SCH_THR_INFO_AFF, SCH_TRACE_IDX_LOST, SCH_TRACE_IDX_HEAD, SCH_TRACE_ADDR_ADDR, SCH_TRACE_DATA_DATA, SCH_RUNp_VALID, SCH_RUNp_PRIO, SCH_RUNp_THREAD, PWR_STATUS_WARM_REFUSED, PWR_STATUS_AUX_LOW, PWR_STATUS_CAUSE, PWR_STATUS_STAGE, PWR_CTL_KEY, PWR_CTL_ACTION, PWR_RAILS_IN_WINDOW, PWR_RAIL_ERR_OUT, PWR_VHOLD_THRESH, PWR_VHOLD_MV, PWR_CNT_WARM, PWR_CNT_PIN, PWR_UPTIME_SECONDS, CT_VCAP, CT_VPRED_CELL, CT_STALE, CT_CELL_STATE, CT_OV_HARD, CT_OV_WARN, CT_UV, CT_OVT, CT_DESAT, CT_TEMP, CT_UPL_SEQ, CT_AUX, CT_SAMPLE_CYC, CT_STAT_AUX, CT_SLOT_STATE, CT_TYPE, CT_EXCL, CT_MISMATCH, CT_LATCH_OFS, CT_C_EST, CT_LEARN_N, CT_CMD_LAST, CT_CMD_PREV, CT_F_LAST, CT_F_PREV, CT_TRANS, CT_CREDIT]

/-- Every field of the part's registers. -/
def vcpFields : List Fld := vcpFields0 ++ vcpFields1 ++ vcpFields2 ++ vcpFields3 ++ vcpFields4 ++ vcpFields5 ++ vcpFields6 ++ vcpFields7 ++ vcpFields8 ++ vcpFields9

/-! 00_scope.md, Table 0.4 -/
def AID_CAP_VARIANT : Fld := ⟨0x8, 24, 8, .ro, 0, 0, 1, .any⟩
def AID_CAP_PORTS : Fld := ⟨0x8, 12, 4, .ro, 0, 0, 1, .any⟩
def AID_CAP_DECIM : Fld := ⟨0x8, 0, 4, .ro, 0, 0, 1, .any⟩

/-! 17_updates.md, Table 17.13 -/
def AID_FW_STATUS_BOOTS : Fld := ⟨0x10, 24, 8, .ro, 0, 0, 1, .any⟩
def AID_FW_STATUS_SESSION : Fld := ⟨0x10, 13, 3, .ro, 0, 0, 1, .any⟩
def AID_FW_STATUS_FELL_BACK : Fld := ⟨0x10, 2, 1, .w1c, 0, 0, 1, .any⟩
def AID_FW_STATUS_TRIAL : Fld := ⟨0x10, 1, 1, .ro, 0, 0, 1, .any⟩
def AID_FW_STATUS_RUN_BANK : Fld := ⟨0x10, 0, 1, .ro, 0, 0, 1, .any⟩
def AID_FW_RUN_VERSION : Fld := ⟨0x14, 0, 32, .ro, 0, 0, 1, .any⟩
def AID_FW_IDLE_VERSION : Fld := ⟨0x18, 0, 32, .ro, 0, 0, 1, .any⟩
def AID_FW_FLOOR_FLOOR : Fld := ⟨0x1C, 0, 32, .ro, 0, 0, 1, .any⟩

/-! 10_flenor_links.md, Table 10.13 -/
def AUPL_CFG_PUB_DL : Fld := ⟨0x480, 0, 14, .rw, 1080, 0, 1, .any⟩
def AUPL_SLOT_OPEN : Fld := ⟨0x484, 0, 16, .ro, 0, 0, 1, .any⟩
def AUPL_TAG0_TAG : Fld := ⟨0x488, 0, 32, .ro, 0, 0, 1, .any⟩
def AUPL_TAG1_TAG : Fld := ⟨0x48C, 0, 32, .ro, 0, 0, 1, .any⟩

/-! 02_clocks_and_time.md, Table 2.15 -/
def ATIM_STATUS_HOLD_SEEN : Fld := ⟨0x500, 9, 1, .w1c, 0, 0, 1, .any⟩
def ATIM_STATUS_REF_SWITCHED : Fld := ⟨0x500, 8, 1, .w1c, 0, 0, 1, .any⟩
def ATIM_STATUS_REF : Fld := ⟨0x500, 1, 2, .ro, 0, 0, 1, .any⟩
def ATIM_STATUS_LOCK : Fld := ⟨0x500, 0, 1, .ro, 0, 0, 1, .any⟩
def ATIM_DLY0_D : Fld := ⟨0x504, 0, 24, .ro, 0, 0, 1, .any⟩
def ATIM_DLY1_D : Fld := ⟨0x508, 0, 24, .ro, 0, 0, 1, .any⟩
def ATIM_CFG_DLY_STEP : Fld := ⟨0x50C, 0, 8, .rw, 32, 0, 1, .any⟩

/-! 13_the_hinge.md, Table 13.14 -/
def AGRT_STATUS_REPLAYS : Fld := ⟨0x600, 12, 4, .ro, 0, 0, 1, .any⟩
def AGRT_STATUS_MISS : Fld := ⟨0x600, 8, 2, .ro, 0, 0, 1, .any⟩
def AGRT_STATUS_PEND_VALID : Fld := ⟨0x600, 7, 1, .ro, 0, 0, 1, .any⟩
def AGRT_STATUS_BLOCKING : Fld := ⟨0x600, 6, 1, .ro, 0, 0, 1, .any⟩
def AGRT_STATUS_MOVED : Fld := ⟨0x600, 5, 1, .w1c, 0, 0, 1, .any⟩
def AGRT_STATUS_AVAIL1 : Fld := ⟨0x600, 4, 1, .ro, 0, 0, 1, .any⟩
def AGRT_STATUS_AVAIL0 : Fld := ⟨0x600, 3, 1, .ro, 0, 0, 1, .any⟩
def AGRT_STATUS_GRANT : Fld := ⟨0x600, 0, 2, .ro, 2, 0, 1, .any⟩
def AGRT_PEND_EFFECTIVE : Fld := ⟨0x604, 0, 16, .ro, 0, 0, 1, .any⟩
def AGRT_LAST_CYCLE : Fld := ⟨0x608, 16, 16, .ro, 0, 0, 1, .any⟩
def AGRT_LAST_CAUSE : Fld := ⟨0x608, 0, 2, .ro, 0, 0, 1, .any⟩
def AGRT_CNT_MOVES : Fld := ⟨0x60C, 16, 16, .ro, 0, 0, 1, .any⟩
def AGRT_CNT_RELEASES : Fld := ⟨0x60C, 8, 8, .ro, 0, 0, 1, .any⟩
def AGRT_CNT_EXHAUSTED : Fld := ⟨0x60C, 0, 8, .ro, 0, 0, 1, .any⟩

/-! 14_faults.md, Table 14.11 -/
def AFLT_STATUS_DEADBOLT : Fld := ⟨0x700, 15, 1, .ro, 0, 0, 1, .any⟩
def AFLT_STATUS_TRIP_OPEN : Fld := ⟨0x700, 14, 1, .ro, 0, 0, 1, .any⟩
def AFLT_STATUS_ALARM_OPEN : Fld := ⟨0x700, 13, 1, .ro, 0, 0, 1, .any⟩
def AFLT_STATUS_LOST : Fld := ⟨0x700, 12, 1, .w1c, 0, 0, 1, .any⟩
def AFLT_STATUS_BROKEN : Fld := ⟨0x700, 11, 1, .w1c, 0, 0, 1, .any⟩
def AFLT_STATUS_TEST : Fld := ⟨0x700, 10, 1, .ro, 0, 0, 1, .any⟩
def AFLT_STATUS_MODE : Fld := ⟨0x700, 0, 1, .ro, 0, 0, 1, .any⟩
def AFLT_LINES_BROKEN : Fld := ⟨0x704, 16, 3, .ro, 0, 0, 1, .any⟩
def AFLT_LINES_LEVEL : Fld := ⟨0x704, 0, 3, .ro, 0, 0, 1, .any⟩
def AFLT_REC_SEL_HEAD : Fld := ⟨0x708, 16, 4, .ro, 0, 0, 1, .any⟩
def AFLT_REC_SEL_INDEX : Fld := ⟨0x708, 0, 4, .rw, 0, 0, 1, .any⟩
def AFLT_CLEAR_ALL : Fld := ⟨0x70C, 4, 1, .wo, 0, 0, 1, .any⟩
def AFLT_CLEAR_INDEX : Fld := ⟨0x70C, 0, 4, .wo, 0, 0, 1, .any⟩
def AFLT_RECn_WORD : Fld := ⟨0x720, 0, 32, .ro, 0, 4, 8, .any⟩
def AFLT_INJ_CODE_CODE : Fld := ⟨0x740, 0, 16, .rw, 0, 0, 1, .any⟩
def AFLT_INJ_CODE_CLASS : Fld := ⟨0x740, 16, 2, .rw, 0, 0, 1, .any⟩
def AFLT_INJ_CAUSE_CAUSE : Fld := ⟨0x744, 0, 32, .wo, 0, 0, 1, .any⟩

/-! 15_disturbance_recorder.md, Table 15.2 -/
def ADSD_CTLd_RATE : Fld := ⟨0x800, 4, 3, .rw, 0, 4, 8, .atMost 5⟩
def ADSD_CTLd_EN : Fld := ⟨0x800, 0, 1, .rw, 0, 4, 8, .any⟩
def ADSD_STATUS_OVR : Fld := ⟨0x820, 0, 8, .w1c, 0, 0, 1, .any⟩

/-! 10_flenor_links.md, Table 10.13 -/
def APRTp_ENTRY0_ELIG : Fld := ⟨0x4028, 31, 1, .rw, 0, 64, 256, .any⟩
def APRTp_ENTRY0_TYPE : Fld := ⟨0x4028, 29, 2, .rw, 0, 64, 256, .any⟩
def APRTp_ENTRY0_POSITION : Fld := ⟨0x4028, 16, 11, .rw, 0, 64, 256, .any⟩
def APRTp_ENTRY0_LATCH_OFS : Fld := ⟨0x4028, 0, 8, .rw, 0, 64, 256, .any⟩
def APRTp_ENTRY1_ELIG : Fld := ⟨0x402C, 31, 1, .rw, 0, 64, 256, .any⟩
def APRTp_ENTRY1_TYPE : Fld := ⟨0x402C, 29, 2, .rw, 0, 64, 256, .any⟩
def APRTp_ENTRY1_POSITION : Fld := ⟨0x402C, 16, 11, .rw, 0, 64, 256, .any⟩
def APRTp_ENTRY1_LATCH_OFS : Fld := ⟨0x402C, 0, 8, .rw, 0, 64, 256, .any⟩

def concFields0 : List Fld := [AID_CAP_VARIANT, AID_CAP_PORTS, AID_CAP_DECIM, AID_FW_STATUS_BOOTS, AID_FW_STATUS_SESSION, AID_FW_STATUS_FELL_BACK, AID_FW_STATUS_TRIAL, AID_FW_STATUS_RUN_BANK, AID_FW_RUN_VERSION, AID_FW_IDLE_VERSION, AID_FW_FLOOR_FLOOR, AUPL_CFG_PUB_DL, AUPL_SLOT_OPEN, AUPL_TAG0_TAG, AUPL_TAG1_TAG, ATIM_STATUS_HOLD_SEEN, ATIM_STATUS_REF_SWITCHED, ATIM_STATUS_REF, ATIM_STATUS_LOCK, ATIM_DLY0_D, ATIM_DLY1_D, ATIM_CFG_DLY_STEP, AGRT_STATUS_REPLAYS, AGRT_STATUS_MISS, AGRT_STATUS_PEND_VALID, AGRT_STATUS_BLOCKING, AGRT_STATUS_MOVED, AGRT_STATUS_AVAIL1, AGRT_STATUS_AVAIL0, AGRT_STATUS_GRANT, AGRT_PEND_EFFECTIVE, AGRT_LAST_CYCLE, AGRT_LAST_CAUSE, AGRT_CNT_MOVES, AGRT_CNT_RELEASES, AGRT_CNT_EXHAUSTED, AFLT_STATUS_DEADBOLT, AFLT_STATUS_TRIP_OPEN, AFLT_STATUS_ALARM_OPEN, AFLT_STATUS_LOST, AFLT_STATUS_BROKEN, AFLT_STATUS_TEST, AFLT_STATUS_MODE, AFLT_LINES_BROKEN, AFLT_LINES_LEVEL, AFLT_REC_SEL_HEAD, AFLT_REC_SEL_INDEX, AFLT_CLEAR_ALL, AFLT_CLEAR_INDEX, AFLT_RECn_WORD, AFLT_INJ_CODE_CODE, AFLT_INJ_CODE_CLASS, AFLT_INJ_CAUSE_CAUSE, ADSD_CTLd_RATE, ADSD_CTLd_EN, ADSD_STATUS_OVR, APRTp_ENTRY0_ELIG, APRTp_ENTRY0_TYPE, APRTp_ENTRY0_POSITION, APRTp_ENTRY0_LATCH_OFS]

def concFields1 : List Fld := [APRTp_ENTRY1_ELIG, APRTp_ENTRY1_TYPE, APRTp_ENTRY1_POSITION, APRTp_ENTRY1_LATCH_OFS]

/-- Every field of the part's registers. -/
def concFields : List Fld := concFields0 ++ concFields1

/-! 00_scope.md, Table 0.5 -/
def CID_CAP_VARIANT : Fld := ⟨0x8, 24, 8, .ro, 0, 0, 1, .any⟩
def CID_CAP_GATES : Fld := ⟨0x8, 4, 4, .ro, 0, 0, 1, .any⟩
def CID_CAP_DSM : Fld := ⟨0x8, 0, 1, .ro, 0, 0, 1, .any⟩

/-! 08_cell_switching.md, Table 8.8 -/
def CPWM_CTL_LOCAL_B : Fld := ⟨0x100, 10, 2, .rw, 0, 0, 1, .any⟩
def CPWM_CTL_CENTER : Fld := ⟨0x100, 9, 1, .rw, 0, 0, 1, .any⟩
def CPWM_CTL_FB_BYP : Fld := ⟨0x100, 8, 1, .rw, 0, 0, 1, .any⟩
def CPWM_CTL_SHORT : Fld := ⟨0x100, 4, 1, .rw, 0, 0, 1, .any⟩
def CPWM_CTL_MODE : Fld := ⟨0x100, 0, 2, .rw, 0, 0, 1, .ignoreAbove 1⟩
def CPWM_STATUS_TYPE : Fld := ⟨0x104, 14, 2, .ro, 0, 0, 1, .any⟩
def CPWM_STATUS_CMP_RANGE : Fld := ⟨0x104, 9, 1, .w1c, 0, 0, 1, .any⟩
def CPWM_STATUS_MINP_CLAMPED : Fld := ⟨0x104, 8, 1, .w1c, 0, 0, 1, .any⟩
def CPWM_STATUS_LOCAL_REFUSED : Fld := ⟨0x104, 7, 1, .w1c, 0, 0, 1, .any⟩
def CPWM_STATUS_DUTY_CLAMP : Fld := ⟨0x104, 6, 1, .w1c, 0, 0, 1, .any⟩
def CPWM_STATUS_PAIR_SPLIT : Fld := ⟨0x104, 5, 1, .w1c, 0, 0, 1, .any⟩
def CPWM_STATUS_GUARD_ACT : Fld := ⟨0x104, 4, 1, .w1c, 0, 0, 1, .any⟩
def CPWM_STATUS_LATE_CMD : Fld := ⟨0x104, 3, 1, .w1c, 0, 0, 1, .any⟩
def CPWM_STATUS_MODE_NOW : Fld := ⟨0x104, 0, 2, .ro, 0, 0, 1, .any⟩
def CPWM_MINP_MINP : Fld := ⟨0x108, 0, 15, .rw, 320, 0, 1, .atMost 32000⟩
def CPWM_GUARD_GUARD : Fld := ⟨0x10C, 0, 10, .rw, 160, 0, 1, .any⟩
def CPWM_PERIOD_PERIOD : Fld := ⟨0x120, 0, 24, .rw, 3200, 0, 1, .atLeast 64⟩
def CPWM_DUTY_DUTY : Fld := ⟨0x124, 0, 24, .rw, 0, 0, 1, .any⟩
def CPWM_PERIOD_ACT_VALUE : Fld := ⟨0x128, 0, 24, .ro, 3200, 0, 1, .any⟩
def CPWM_DUTY_ACT_VALUE : Fld := ⟨0x12C, 0, 24, .ro, 0, 0, 1, .any⟩
def CPWM_SHORT_CNT_STRETCHED : Fld := ⟨0x140, 16, 16, .ro, 0, 0, 1, .any⟩
def CPWM_SHORT_CNT_DROPPED : Fld := ⟨0x140, 0, 16, .ro, 0, 0, 1, .any⟩
def CPWM_CMD_CNT_LATE : Fld := ⟨0x144, 16, 16, .ro, 0, 0, 1, .any⟩
def CPWM_CMD_CNT_DUP : Fld := ⟨0x144, 0, 16, .ro, 0, 0, 1, .any⟩
def CPWM_GATES_SOFT_OFF : Fld := ⟨0x148, 7, 1, .ro, 0, 0, 1, .any⟩
def CPWM_GATES_STATE : Fld := ⟨0x148, 4, 3, .ro, 0, 0, 1, .any⟩
def CPWM_GATES_G : Fld := ⟨0x148, 0, 4, .ro, 0, 0, 1, .any⟩
def CPWM_LAST_CYCLE : Fld := ⟨0x14C, 16, 16, .ro, 0, 0, 1, .any⟩
def CPWM_LAST_WORD : Fld := ⟨0x14C, 0, 16, .ro, 0, 0, 1, .any⟩
def CTRP_CFG_AUTO : Fld := ⟨0x200, 31, 1, .rw, 0, 0, 1, .any⟩
def CTRP_CFG_REARM_MS : Fld := ⟨0x200, 16, 10, .rw, 50, 0, 1, .clamp 1 1000⟩
def CTRP_CFG_POL : Fld := ⟨0x200, 8, 4, .rw, 0, 0, 1, .any⟩
def CTRP_CFG_EN : Fld := ⟨0x200, 0, 4, .rw, 15, 0, 1, .any⟩
def CTRP_SOFT_HOLD : Fld := ⟨0x214, 16, 16, .rw, 100, 0, 1, .atLeast 1⟩
def CTRP_SOFT_LEAD : Fld := ⟨0x214, 0, 8, .rw, 8, 0, 1, .any⟩
def CTRP_STATUS_LEVEL : Fld := ⟨0x218, 24, 4, .ro, 0, 0, 1, .any⟩
def CTRP_STATUS_WINDOW : Fld := ⟨0x218, 16, 8, .ro, 0, 0, 1, .any⟩
def CTRP_STATUS_CLEAR_PEND : Fld := ⟨0x218, 4, 1, .ro, 0, 0, 1, .any⟩
def CTRP_STATUS_SEEN : Fld := ⟨0x218, 0, 4, .ro, 0, 0, 1, .any⟩
def CTRP_CLEAR_CLEAR : Fld := ⟨0x21C, 0, 1, .wo, 0, 0, 1, .any⟩
def CTRP_CNT_TRIPS : Fld := ⟨0x220, 16, 16, .ro, 0, 0, 1, .any⟩
def CTRP_CNT_MERGED : Fld := ⟨0x220, 0, 16, .ro, 0, 0, 1, .any⟩
def CBYP_CFG_CONFIRM_MS : Fld := ⟨0x280, 16, 16, .lck, 60, 0, 1, .clamp 40 1000⟩
def CBYP_CFG_LOCK : Fld := ⟨0x280, 0, 1, .w1s, 0, 0, 1, .any⟩
def CBYP_OV_HARD : Fld := ⟨0x284, 16, 16, .lck, 65535, 0, 1, .any⟩
def CBYP_OV_WARN : Fld := ⟨0x284, 0, 16, .rw, 65535, 0, 1, .any⟩
def CBYP_STATUS_RELEASE_REFUSED : Fld := ⟨0x288, 9, 1, .w1c, 0, 0, 1, .any⟩
def CBYP_STATUS_KEY_ERR : Fld := ⟨0x288, 8, 1, .w1c, 0, 0, 1, .any⟩
def CBYP_STATUS_AUX : Fld := ⟨0x288, 7, 1, .ro, 0, 0, 1, .any⟩
def CBYP_STATUS_BOLT_UNCONF : Fld := ⟨0x288, 6, 1, .ro, 0, 0, 1, .any⟩
def CBYP_STATUS_CAUSE : Fld := ⟨0x288, 2, 2, .ro, 0, 0, 1, .any⟩
def CBYP_STATUS_BOLTED : Fld := ⟨0x288, 1, 1, .ro, 0, 0, 1, .any⟩
def CBYP_STATUS_FIRED : Fld := ⟨0x288, 0, 1, .ro, 0, 0, 1, .any⟩
def CBYP_CMD_KEY : Fld := ⟨0x28C, 16, 16, .wo, 0, 0, 1, .any⟩
def CBYP_CMD_ACTION : Fld := ⟨0x28C, 0, 2, .wo, 0, 0, 1, .any⟩
def CBYP_CNT_PULSES : Fld := ⟨0x290, 0, 16, .ro, 0, 0, 1, .any⟩

/-! 09_cell_measurement_and_sleep.md, Table 9.10 -/
def CADC_CTL_SEL : Fld := ⟨0x300, 8, 4, .rw, 0, 0, 1, .any⟩
def CADC_CTL_ALIGN : Fld := ⟨0x300, 4, 1, .rw, 0, 0, 1, .any⟩
def CADC_CTL_CONT : Fld := ⟨0x300, 1, 1, .rw, 0, 0, 1, .any⟩
def CADC_CTL_EN : Fld := ⟨0x300, 0, 1, .rw, 0, 0, 1, .any⟩
def CADC_START_START : Fld := ⟨0x304, 0, 1, .wo, 0, 0, 1, .any⟩
def CADC_STATUS_CAL_FAIL : Fld := ⟨0x308, 11, 1, .w1c, 0, 0, 1, .any⟩
def CADC_STATUS_CAL_OK : Fld := ⟨0x308, 10, 1, .ro, 0, 0, 1, .any⟩
def CADC_STATUS_CAL_BUSY : Fld := ⟨0x308, 9, 1, .ro, 0, 0, 1, .any⟩
def CADC_STATUS_CLIP : Fld := ⟨0x308, 7, 1, .w1c, 0, 0, 1, .any⟩
def CADC_STATUS_CFG_ERR : Fld := ⟨0x308, 6, 1, .w1c, 0, 0, 1, .any⟩
def CADC_STATUS_TRIG_OVR : Fld := ⟨0x308, 5, 1, .w1c, 0, 0, 1, .any⟩
def CADC_STATUS_LATE : Fld := ⟨0x308, 4, 1, .w1c, 0, 0, 1, .any⟩
def CADC_STATUS_OVT : Fld := ⟨0x308, 1, 1, .ro, 0, 0, 1, .any⟩
def CADC_STATUS_UV : Fld := ⟨0x308, 0, 1, .ro, 0, 0, 1, .any⟩
def CADC_DATA_CNT : Fld := ⟨0x30C, 24, 8, .ro, 0, 0, 1, .any⟩
def CADC_DATA_CH : Fld := ⟨0x30C, 20, 4, .ro, 0, 0, 1, .any⟩
def CADC_DATA_RESULT : Fld := ⟨0x30C, 0, 16, .ro, 0, 0, 1, .any⟩
def CADC_PRIV_MASK : Fld := ⟨0x310, 0, 14, .rw, 0, 0, 1, .any⟩
def CADC_TRIG_SYNC_EN : Fld := ⟨0x314, 8, 1, .rw, 0, 0, 1, .any⟩
def CADC_TRIG_SYNC_FIRST : Fld := ⟨0x314, 4, 4, .rw, 0, 0, 1, .any⟩
def CADC_TRIG_SYNC_LAST : Fld := ⟨0x314, 0, 4, .rw, 0, 0, 1, .any⟩
def CADC_CAP_SCALE : Fld := ⟨0x328, 16, 16, .rw, 16384, 0, 1, .any⟩
def CADC_CAP_CH : Fld := ⟨0x328, 0, 4, .rw, 2, 0, 1, .ignoreAbove 7⟩
def CADC_UV_HYST : Fld := ⟨0x32C, 16, 16, .rw, 0, 0, 1, .any⟩
def CADC_UV_THRESH : Fld := ⟨0x32C, 0, 16, .rw, 0, 0, 1, .any⟩
def CADC_TEMP_HYST : Fld := ⟨0x330, 8, 8, .rw, 10, 0, 1, .any⟩
def CADC_TEMP_OVT : Fld := ⟨0x330, 0, 8, .rw, 115, 0, 1, .any⟩
def CADC_PRED_C_CELL : Fld := ⟨0x334, 16, 16, .rw, 0, 0, 1, .any⟩
def CADC_UPL_B_SRC : Fld := ⟨0x338, 8, 5, .rw, 31, 0, 1, .any⟩
def CADC_UPL_A_SRC : Fld := ⟨0x338, 0, 5, .rw, 31, 0, 1, .any⟩
def CADC_CAL_GAP : Fld := ⟨0x33C, 8, 8, .rw, 8, 0, 1, .atLeast 1⟩
def CADC_CAL_SLICES : Fld := ⟨0x33C, 4, 4, .ro, 0, 0, 1, .any⟩
def CADC_CAL_REQ : Fld := ⟨0x33C, 0, 1, .w1s, 0, 0, 1, .any⟩
def CADC_CNT_ABORTS : Fld := ⟨0x380, 16, 16, .ro, 0, 0, 1, .any⟩
def CADC_CNT_LOST : Fld := ⟨0x380, 0, 16, .ro, 0, 0, 1, .any⟩
def CDSM_CTL_SCALE : Fld := ⟨0x3A0, 16, 16, .rw, 0, 0, 1, .any⟩
def CDSM_CTL_EN : Fld := ⟨0x3A0, 0, 1, .rw, 0, 0, 1, .any⟩
def CDSM_STATUS_OVR : Fld := ⟨0x3A4, 2, 1, .w1c, 0, 0, 1, .any⟩
def CDSM_STATUS_SETTLED : Fld := ⟨0x3A4, 1, 1, .ro, 0, 0, 1, .any⟩
def CDSM_DATA_CNT : Fld := ⟨0x3A8, 24, 8, .ro, 0, 0, 1, .any⟩
def CDSM_DATA_DATA : Fld := ⟨0x3A8, 0, 24, .ro, 0, 0, 1, .any⟩
def CDSM_VCAP_VCAP : Fld := ⟨0x3AC, 0, 16, .ro, 0, 0, 1, .any⟩
def CDSM_TS_CYCLE : Fld := ⟨0x3B0, 16, 16, .ro, 0, 0, 1, .any⟩
def CDSM_TS_TICK : Fld := ⟨0x3B0, 0, 16, .ro, 0, 0, 1, .any⟩
def CRET_STATUS_WAKES : Fld := ⟨0x3C0, 16, 16, .ro, 0, 0, 1, .any⟩
def CRET_STATUS_UNCORR : Fld := ⟨0x3C0, 5, 1, .w1c, 0, 0, 1, .any⟩
def CRET_STATUS_RET_LOW : Fld := ⟨0x3C0, 4, 1, .w1c, 0, 0, 1, .any⟩
def CRET_STATUS_CHARGING : Fld := ⟨0x3C0, 3, 1, .ro, 0, 0, 1, .any⟩
def CRET_STATUS_FROM_OFF : Fld := ⟨0x3C0, 1, 1, .ro, 0, 0, 1, .any⟩
def CRET_STATUS_VALID : Fld := ⟨0x3C0, 0, 1, .ro, 0, 0, 1, .any⟩
def CRET_VRET_MV : Fld := ⟨0x3C4, 0, 12, .ro, 0, 0, 1, .any⟩
def CRET_SCRUB_PASSES : Fld := ⟨0x3C8, 16, 16, .ro, 0, 0, 1, .any⟩
def CRET_SCRUB_CORR : Fld := ⟨0x3C8, 8, 8, .ro, 0, 0, 1, .any⟩
def CRET_SCRUB_UNCORR : Fld := ⟨0x3C8, 0, 8, .ro, 0, 0, 1, .any⟩
def CRET_SLEEP_WAKE_V : Fld := ⟨0x3CC, 8, 8, .rw, 110, 0, 1, .any⟩
def CRET_SLEEP_SLEEP_V : Fld := ⟨0x3CC, 0, 8, .rw, 100, 0, 1, .atLeast 95⟩
def CRET_LOG_IDX_HEAD : Fld := ⟨0x3D0, 24, 8, .ro, 0, 0, 1, .any⟩
def CRET_LOG_IDX_IDX : Fld := ⟨0x3D0, 0, 8, .rw, 0, 0, 1, .any⟩
def CRET_WIN_ADDR_ADDR : Fld := ⟨0x3D4, 2, 13, .rw, 0, 0, 1, .any⟩
def CRET_WIN_DATA_DATA : Fld := ⟨0x3D8, 0, 32, .rw, 0, 0, 1, .any⟩

/-! 03_control_cycle.md, Table 3.3 -/
def CLNK_SILENCE_SILENT_NOW : Fld := ⟨0x428, 16, 8, .ro, 0, 0, 1, .any⟩
def CLNK_SILENCE_SIL_BLOCKED : Fld := ⟨0x428, 8, 1, .w1c, 0, 0, 1, .any⟩
def CLNK_SILENCE_SILENCE : Fld := ⟨0x428, 0, 7, .rw, 8, 0, 1, .clamp 3 64⟩

/-! 14_faults.md, Table 14.12 -/
def CFLT_STATUS_DEADBOLT : Fld := ⟨0x480, 15, 1, .ro, 0, 0, 1, .any⟩
def CFLT_STATUS_TRIP_OPEN : Fld := ⟨0x480, 14, 1, .ro, 0, 0, 1, .any⟩
def CFLT_STATUS_ALARM_OPEN : Fld := ⟨0x480, 13, 1, .ro, 0, 0, 1, .any⟩
def CFLT_STATUS_TEST : Fld := ⟨0x480, 10, 1, .ro, 0, 0, 1, .any⟩
def CFLT_CLEAR_ALL : Fld := ⟨0x484, 8, 1, .wo, 0, 0, 1, .any⟩
def CFLT_CLEAR_SEQ : Fld := ⟨0x484, 0, 8, .wo, 0, 0, 1, .any⟩
def CFLT_CNT_IDX_IDX : Fld := ⟨0x488, 0, 6, .rw, 0, 0, 1, .any⟩
def CFLT_CNT_COUNT : Fld := ⟨0x48C, 0, 32, .ro, 0, 0, 1, .any⟩
def CFLT_INJ_CODE_CODE : Fld := ⟨0x490, 0, 16, .rw, 0, 0, 1, .any⟩
def CFLT_INJ_CODE_CLASS : Fld := ⟨0x490, 16, 2, .rw, 0, 0, 1, .any⟩
def CFLT_INJ_CAUSE_CAUSE : Fld := ⟨0x494, 0, 16, .wo, 0, 0, 1, .any⟩

/-! 08_cell_switching.md, Table 8.8 -/
def CPWM_DLYn_RISE : Fld := ⟨0x110, 16, 14, .rw, 320, 4, 4, .atMost 12800⟩
def CPWM_DLYn_FALL : Fld := ⟨0x110, 0, 14, .rw, 0, 4, 4, .atMost 12800⟩
def CPWM_CMPn_EN : Fld := ⟨0x130, 31, 1, .rw, 0, 4, 4, .any⟩
def CPWM_CMPn_POINT : Fld := ⟨0x130, 0, 24, .rw, 0, 4, 4, .any⟩
def CTRP_FILTn_FILT : Fld := ⟨0x204, 0, 8, .rw, 40, 4, 4, .any⟩

/-! 09_cell_measurement_and_sleep.md, Table 9.10 -/
def CADC_TRIG_CMPn_EN : Fld := ⟨0x318, 8, 1, .rw, 0, 4, 4, .any⟩
def CADC_TRIG_CMPn_FIRST : Fld := ⟨0x318, 4, 4, .rw, 0, 4, 4, .any⟩
def CADC_TRIG_CMPn_LAST : Fld := ⟨0x318, 0, 4, .rw, 0, 4, 4, .any⟩
def CADC_SEQn_RESULT : Fld := ⟨0x340, 16, 16, .ro, 0, 4, 16, .any⟩
def CADC_SEQn_SAMPLE : Fld := ⟨0x340, 8, 8, .rw, 10, 4, 16, .clamp 5 160⟩
def CADC_SEQn_GAIN : Fld := ⟨0x340, 4, 2, .rw, 0, 4, 16, .any⟩
def CADC_SEQn_CH : Fld := ⟨0x340, 0, 4, .rw, 0, 4, 16, .any⟩
def CRET_LOGn_WORD : Fld := ⟨0x3E0, 0, 32, .ro, 0, 4, 8, .any⟩

/-! 17_updates.md, Table 17.12 -/
def CUPD_STATUS_BOOTS : Fld := ⟨0x500, 24, 8, .ro, 0, 0, 1, .any⟩
def CUPD_STATUS_SESSION : Fld := ⟨0x500, 13, 3, .ro, 0, 0, 1, .any⟩
def CUPD_STATUS_ACT_REFUSED : Fld := ⟨0x500, 4, 1, .w1c, 0, 0, 1, .any⟩
def CUPD_STATUS_AUX_LOW : Fld := ⟨0x500, 3, 1, .ro, 0, 0, 1, .any⟩
def CUPD_STATUS_FELL_BACK : Fld := ⟨0x500, 2, 1, .w1c, 0, 0, 1, .any⟩
def CUPD_STATUS_TRIAL : Fld := ⟨0x500, 1, 1, .ro, 0, 0, 1, .any⟩
def CUPD_STATUS_RUN_BANK : Fld := ⟨0x500, 0, 1, .ro, 0, 0, 1, .any⟩
def CUPD_VER_RUN_VERSION : Fld := ⟨0x504, 0, 32, .ro, 0, 0, 1, .any⟩
def CUPD_VER_IDLE_VERSION : Fld := ⟨0x508, 0, 32, .ro, 0, 0, 1, .any⟩
def CUPD_SESSION_TAG : Fld := ⟨0x50C, 0, 32, .ro, 0, 0, 1, .any⟩
def CUPD_PIECES_STORED : Fld := ⟨0x510, 16, 16, .ro, 0, 0, 1, .any⟩
def CUPD_PIECES_PIECES : Fld := ⟨0x510, 0, 16, .ro, 0, 0, 1, .any⟩
def CUPD_TRIAL_AGE_AGE : Fld := ⟨0x514, 0, 32, .ro, 0, 0, 1, .any⟩
def CUPD_CFG_AUX_MIN : Fld := ⟨0x518, 0, 8, .rw, 115, 0, 1, .any⟩
def CUPD_FLOOR_FLOOR : Fld := ⟨0x51C, 0, 32, .ro, 0, 0, 1, .any⟩

def cellFields0 : List Fld := [CID_CAP_VARIANT, CID_CAP_GATES, CID_CAP_DSM, CPWM_CTL_LOCAL_B, CPWM_CTL_CENTER, CPWM_CTL_FB_BYP, CPWM_CTL_SHORT, CPWM_CTL_MODE, CPWM_STATUS_TYPE, CPWM_STATUS_CMP_RANGE, CPWM_STATUS_MINP_CLAMPED, CPWM_STATUS_LOCAL_REFUSED, CPWM_STATUS_DUTY_CLAMP, CPWM_STATUS_PAIR_SPLIT, CPWM_STATUS_GUARD_ACT, CPWM_STATUS_LATE_CMD, CPWM_STATUS_MODE_NOW, CPWM_MINP_MINP, CPWM_GUARD_GUARD, CPWM_PERIOD_PERIOD, CPWM_DUTY_DUTY, CPWM_PERIOD_ACT_VALUE, CPWM_DUTY_ACT_VALUE, CPWM_SHORT_CNT_STRETCHED, CPWM_SHORT_CNT_DROPPED, CPWM_CMD_CNT_LATE, CPWM_CMD_CNT_DUP, CPWM_GATES_SOFT_OFF, CPWM_GATES_STATE, CPWM_GATES_G, CPWM_LAST_CYCLE, CPWM_LAST_WORD, CTRP_CFG_AUTO, CTRP_CFG_REARM_MS, CTRP_CFG_POL, CTRP_CFG_EN, CTRP_SOFT_HOLD, CTRP_SOFT_LEAD, CTRP_STATUS_LEVEL, CTRP_STATUS_WINDOW, CTRP_STATUS_CLEAR_PEND, CTRP_STATUS_SEEN, CTRP_CLEAR_CLEAR, CTRP_CNT_TRIPS, CTRP_CNT_MERGED, CBYP_CFG_CONFIRM_MS, CBYP_CFG_LOCK, CBYP_OV_HARD, CBYP_OV_WARN, CBYP_STATUS_RELEASE_REFUSED, CBYP_STATUS_KEY_ERR, CBYP_STATUS_AUX, CBYP_STATUS_BOLT_UNCONF, CBYP_STATUS_CAUSE, CBYP_STATUS_BOLTED, CBYP_STATUS_FIRED, CBYP_CMD_KEY, CBYP_CMD_ACTION, CBYP_CNT_PULSES, CADC_CTL_SEL]

def cellFields1 : List Fld := [CADC_CTL_ALIGN, CADC_CTL_CONT, CADC_CTL_EN, CADC_START_START, CADC_STATUS_CAL_FAIL, CADC_STATUS_CAL_OK, CADC_STATUS_CAL_BUSY, CADC_STATUS_CLIP, CADC_STATUS_CFG_ERR, CADC_STATUS_TRIG_OVR, CADC_STATUS_LATE, CADC_STATUS_OVT, CADC_STATUS_UV, CADC_DATA_CNT, CADC_DATA_CH, CADC_DATA_RESULT, CADC_PRIV_MASK, CADC_TRIG_SYNC_EN, CADC_TRIG_SYNC_FIRST, CADC_TRIG_SYNC_LAST, CADC_CAP_SCALE, CADC_CAP_CH, CADC_UV_HYST, CADC_UV_THRESH, CADC_TEMP_HYST, CADC_TEMP_OVT, CADC_PRED_C_CELL, CADC_UPL_B_SRC, CADC_UPL_A_SRC, CADC_CAL_GAP, CADC_CAL_SLICES, CADC_CAL_REQ, CADC_CNT_ABORTS, CADC_CNT_LOST, CDSM_CTL_SCALE, CDSM_CTL_EN, CDSM_STATUS_OVR, CDSM_STATUS_SETTLED, CDSM_DATA_CNT, CDSM_DATA_DATA, CDSM_VCAP_VCAP, CDSM_TS_CYCLE, CDSM_TS_TICK, CRET_STATUS_WAKES, CRET_STATUS_UNCORR, CRET_STATUS_RET_LOW, CRET_STATUS_CHARGING, CRET_STATUS_FROM_OFF, CRET_STATUS_VALID, CRET_VRET_MV, CRET_SCRUB_PASSES, CRET_SCRUB_CORR, CRET_SCRUB_UNCORR, CRET_SLEEP_WAKE_V, CRET_SLEEP_SLEEP_V, CRET_LOG_IDX_HEAD, CRET_LOG_IDX_IDX, CRET_WIN_ADDR_ADDR, CRET_WIN_DATA_DATA, CLNK_SILENCE_SILENT_NOW]

def cellFields2 : List Fld := [CLNK_SILENCE_SIL_BLOCKED, CLNK_SILENCE_SILENCE, CFLT_STATUS_DEADBOLT, CFLT_STATUS_TRIP_OPEN, CFLT_STATUS_ALARM_OPEN, CFLT_STATUS_TEST, CFLT_CLEAR_ALL, CFLT_CLEAR_SEQ, CFLT_CNT_IDX_IDX, CFLT_CNT_COUNT, CFLT_INJ_CODE_CODE, CFLT_INJ_CODE_CLASS, CFLT_INJ_CAUSE_CAUSE, CPWM_DLYn_RISE, CPWM_DLYn_FALL, CPWM_CMPn_EN, CPWM_CMPn_POINT, CTRP_FILTn_FILT, CADC_TRIG_CMPn_EN, CADC_TRIG_CMPn_FIRST, CADC_TRIG_CMPn_LAST, CADC_SEQn_RESULT, CADC_SEQn_SAMPLE, CADC_SEQn_GAIN, CADC_SEQn_CH, CRET_LOGn_WORD, CUPD_STATUS_BOOTS, CUPD_STATUS_SESSION, CUPD_STATUS_ACT_REFUSED, CUPD_STATUS_AUX_LOW, CUPD_STATUS_FELL_BACK, CUPD_STATUS_TRIAL, CUPD_STATUS_RUN_BANK, CUPD_VER_RUN_VERSION, CUPD_VER_IDLE_VERSION, CUPD_SESSION_TAG, CUPD_PIECES_STORED, CUPD_PIECES_PIECES, CUPD_TRIAL_AGE_AGE, CUPD_CFG_AUX_MIN, CUPD_FLOOR_FLOOR]

/-- Every field of the part's registers. -/
def cellFields : List Fld := cellFields0 ++ cellFields1 ++ cellFields2

/-! 18_cores_and_scheduler.md, Table 18.6 -/
def CORE_ID_PAIR : Fld := ⟨0x0, 0, 2, .ro, 0, 0, 1, .any⟩
def CORE_NEXT_VALID : Fld := ⟨0x4, 31, 1, .ro, 0, 0, 1, .any⟩
def CORE_NEXT_THREAD : Fld := ⟨0x4, 0, 8, .ro, 0, 0, 1, .any⟩
def CORE_OP_OP : Fld := ⟨0x8, 28, 4, .wo, 0, 0, 1, .any⟩
def CORE_OP_THREAD : Fld := ⟨0x8, 16, 8, .wo, 0, 0, 1, .any⟩
def CORE_OP_ARG : Fld := ⟨0x8, 0, 12, .wo, 0, 0, 1, .any⟩
def CORE_MTIME_LO_COUNT : Fld := ⟨0x10, 0, 32, .ro, 0, 0, 1, .any⟩
def CORE_MTIME_HI_COUNT : Fld := ⟨0x14, 0, 32, .ro, 0, 0, 1, .any⟩
def CORE_MTIMECMP_LO_CMP : Fld := ⟨0x18, 0, 32, .rw, 4294967295, 0, 1, .any⟩
def CORE_MTIMECMP_HI_CMP : Fld := ⟨0x1C, 0, 32, .rw, 4294967295, 0, 1, .any⟩
def CORE_MSIX_VECTOR : Fld := ⟨0x20, 0, 6, .wo, 0, 0, 1, .any⟩
def CORE_RELEASE_PAIRS : Fld := ⟨0x24, 1, 3, .w1s, 0, 0, 1, .any⟩

def coreFields0 : List Fld := [CORE_ID_PAIR, CORE_NEXT_VALID, CORE_NEXT_THREAD, CORE_OP_OP, CORE_OP_THREAD, CORE_OP_ARG, CORE_MTIME_LO_COUNT, CORE_MTIME_HI_COUNT, CORE_MTIMECMP_LO_CMP, CORE_MTIMECMP_HI_CMP, CORE_MSIX_VECTOR, CORE_RELEASE_PAIRS]

/-- Every field of the part's registers. -/
def coreFields : List Fld := coreFields0

/-! 10_flenor_links.md, Table 10.12 -/
def XX_CTL_PRBS_CHK : Fld := ⟨0x0, 12, 4, .rw, 0, 0, 1, .any⟩
def XX_CTL_PRBS_GEN : Fld := ⟨0x0, 8, 4, .rw, 0, 0, 1, .any⟩
def XX_CTL_LOOP : Fld := ⟨0x0, 6, 2, .rw, 0, 0, 1, .any⟩
def XX_CTL_PRECODE : Fld := ⟨0x0, 5, 1, .rw, 1, 0, 1, .any⟩
def XX_CTL_RETRAIN : Fld := ⟨0x0, 3, 1, .w1s, 0, 0, 1, .any⟩
def XX_CTL_EN : Fld := ⟨0x0, 0, 1, .rw, 1, 0, 1, .any⟩
def XX_STATE_TIMEOUTS : Fld := ⟨0x4, 24, 8, .ro, 0, 0, 1, .any⟩
def XX_STATE_LAST_FAIL : Fld := ⟨0x4, 20, 4, .ro, 0, 0, 1, .any⟩
def XX_STATE_REFUSED : Fld := ⟨0x4, 11, 1, .w1c, 0, 0, 1, .any⟩
def XX_STATE_LANE_REV : Fld := ⟨0x4, 10, 1, .ro, 0, 0, 1, .any⟩
def XX_STATE_POL_INV : Fld := ⟨0x4, 9, 1, .ro, 0, 0, 1, .any⟩
def XX_STATE_DOWN_SEEN : Fld := ⟨0x4, 8, 1, .w1c, 0, 0, 1, .any⟩
def XX_STATE_STATE : Fld := ⟨0x4, 0, 4, .ro, 0, 0, 1, .any⟩
def XX_ASYM_EGRESS : Fld := ⟨0x8, 16, 16, .rw, 0, 0, 1, .any⟩
def XX_ASYM_INGRESS : Fld := ⟨0x8, 0, 16, .rw, 0, 0, 1, .any⟩
def XX_DELAY_D : Fld := ⟨0xC, 0, 24, .ro, 0, 0, 1, .any⟩
def XX_RTT_RTT : Fld := ⟨0x10, 0, 24, .ro, 0, 0, 1, .any⟩
def XX_ERR_CORR : Fld := ⟨0x14, 16, 16, .ro, 0, 0, 1, .any⟩
def XX_ERR_BAD : Fld := ⟨0x14, 0, 16, .ro, 0, 0, 1, .any⟩
def XX_DROP_RETX : Fld := ⟨0x18, 16, 16, .ro, 0, 0, 1, .any⟩
def XX_DROP_CTRL_BAD : Fld := ⟨0x18, 8, 8, .ro, 0, 0, 1, .any⟩
def XX_DROP_GIVEUP : Fld := ⟨0x18, 0, 8, .ro, 0, 0, 1, .any⟩
def XX_PRBS_LOCK : Fld := ⟨0x1C, 31, 1, .ro, 0, 0, 1, .any⟩
def XX_PRBS_ERRORS : Fld := ⟨0x1C, 0, 31, .ro, 0, 0, 1, .any⟩
def XX_INJ_MODE : Fld := ⟨0x20, 28, 4, .rw, 0, 0, 1, .any⟩
def XX_INJ_BURST : Fld := ⟨0x20, 16, 8, .rw, 1, 0, 1, .atLeast 1⟩
def XX_INJ_RATE : Fld := ⟨0x20, 0, 6, .rw, 20, 0, 1, .clamp 4 40⟩
def XX_CDC_OVF : Fld := ⟨0x24, 24, 8, .ro, 0, 0, 1, .any⟩
def XX_CDC_TIMEOUT : Fld := ⟨0x24, 16, 8, .ro, 0, 0, 1, .any⟩
def XX_CDC_RESYNC : Fld := ⟨0x24, 8, 8, .ro, 0, 0, 1, .any⟩
def XX_CDC_DISCARD : Fld := ⟨0x24, 0, 8, .ro, 0, 0, 1, .any⟩

def laneFields0 : List Fld := [XX_CTL_PRBS_CHK, XX_CTL_PRBS_GEN, XX_CTL_LOOP, XX_CTL_PRECODE, XX_CTL_RETRAIN, XX_CTL_EN, XX_STATE_TIMEOUTS, XX_STATE_LAST_FAIL, XX_STATE_REFUSED, XX_STATE_LANE_REV, XX_STATE_POL_INV, XX_STATE_DOWN_SEEN, XX_STATE_STATE, XX_ASYM_EGRESS, XX_ASYM_INGRESS, XX_DELAY_D, XX_RTT_RTT, XX_ERR_CORR, XX_ERR_BAD, XX_DROP_RETX, XX_DROP_CTRL_BAD, XX_DROP_GIVEUP, XX_PRBS_LOCK, XX_PRBS_ERRORS, XX_INJ_MODE, XX_INJ_BURST, XX_INJ_RATE, XX_CDC_OVF, XX_CDC_TIMEOUT, XX_CDC_RESYNC, XX_CDC_DISCARD]

/-- Every field of the part's registers. -/
def laneFields : List Fld := laneFields0

/-- The 64-bit pairs of the part: lower offset, upper offset, stride and count (00_scope.md R15). -/
def vcpPairs : List (Nat × Nat × Nat × Nat) := [(0x10, 0x14, 0, 1), (0x10010, 0x10014, 0, 1), (0x10028, 0x1002C, 0, 1), (0x20048, 0x2004C, 0, 1), (0x20030, 0x20034, 0, 1), (0x100030, 0x100034, 4096, 256), (0x210120, 0x210124, 64, 4), (0x220040, 0x220044, 1024, 48), (0x240010, 0x240014, 0, 1), (0x240018, 0x24001C, 0, 1), (0x240020, 0x240024, 0, 1), (0x240068, 0x24006C, 0, 1), (0x240084, 0x240088, 0, 1), (0x250008, 0x25000C, 0, 1), (0x250020, 0x250024, 0, 1), (0x250030, 0x250034, 0, 1), (0x250038, 0x25003C, 0, 1), (0x260030, 0x260034, 0, 1), (0x260038, 0x26003C, 0, 1), (0x290034, 0x290038, 0, 1), (0x290408, 0x29040C, 32, 16), (0x2A000C, 0x2A0010, 0, 1), (0x2A0088, 0x2A008C, 0, 1)]

/-- The 64-bit pairs of the part: lower offset, upper offset, stride and count (00_scope.md R15). -/
def concPairs : List (Nat × Nat × Nat × Nat) := []

/-- The 64-bit pairs of the part: lower offset, upper offset, stride and count (00_scope.md R15). -/
def cellPairs : List (Nat × Nat × Nat × Nat) := []

/-- The 64-bit pairs of the part: lower offset, upper offset, stride and count (00_scope.md R15). -/
def corePairs : List (Nat × Nat × Nat × Nat) := [(0x10, 0x14, 0, 1), (0x18, 0x1C, 0, 1)]

end Sys2Proof.Machine.Reg
end

