-- ==== Sys2Proof/Machine/Ops.lean ====
section
/-! DEFINITION. The named operations every meaning is built from: sparse maps, register fields, the parts of the state, station
time, the CRC and the output log. -/

namespace Sys2Proof.Machine
open Reg

/-! ## Sparse maps -/

/-- What a key reads as; `d` is what an unlisted key reads as (log entry 3, DESIGN CHOICE). -/
def SMap.get {α : Type} (d : α) (m : SMap α) (k : Nat) : α :=
  match m with
  | [] => d
  | (a, v) :: r => if a = k then v else SMap.get d r k

/-- The map without a key. -/
def SMap.erase {α : Type} (m : SMap α) (k : Nat) : SMap α :=
  match m with
  | [] => []
  | (a, v) :: r => if a = k then SMap.erase r k else (a, v) :: SMap.erase r k

/-- The map with a key bound, at its place in the order. -/
def SMap.ins {α : Type} (m : SMap α) (k : Nat) (v : α) : SMap α :=
  match m with
  | [] => [(k, v)]
  | (a, w) :: r => if k < a then (k, v) :: (a, w) :: r else if k = a then (k, v) :: r else (a, w) :: SMap.ins r k v

/-- Write a key; writing what an unlisted key reads as removes the entry. -/
def SMap.put {α : Type} [DecidableEq α] (d : α) (m : SMap α) (k : Nat) (v : α) : SMap α :=
  if v = d then SMap.erase m k else SMap.ins m k v

/-- The map with every listed value changed; a value that becomes what an unlisted key reads as leaves the list. -/
def SMap.mapv {α : Type} [DecidableEq α] (d : α) (f : α → α) : SMap α → SMap α
  | [] => []
  | (a, v) :: r => if f v = d then SMap.mapv d f r else (a, f v) :: SMap.mapv d f r

/-- The keys rise strictly, from above `lo` on. -/
def SMap.sorted {α : Type} (lo : Option Nat) : SMap α → Bool
  | [] => true
  | (a, _) :: r => (match lo with | none => true | some b => decide (b < a)) && SMap.sorted (some a) r

/-- The canonical form: keys strictly rising and no entry equal to the default. -/
def SMap.wf {α : Type} [DecidableEq α] (d : α) (m : SMap α) : Bool :=
  SMap.sorted none m && m.all (fun p => decide (p.2 ≠ d))

/-! ## Numbers -/

/-- Bits [hi:lo] of a number. -/
def bits (v hi lo : Nat) : Nat := v / 2 ^ lo % 2 ^ (hi + 1 - lo)

/-- Bit `i` of a number. -/
def bitOf (v i : Nat) : Bool := v / 2 ^ i % 2 = 1

/-- 1 for true, 0 for false. -/
def b2n (b : Bool) : Nat := if b then 1 else 0

/-- The signed value of a `w`-bit pattern. -/
def sext (w v : Nat) : Int := if v % 2 ^ w < 2 ^ (w - 1) then (v % 2 ^ w : Nat) else ((v % 2 ^ w : Nat) : Int) - (2 ^ w : Nat)

/-- The `w`-bit pattern of an integer. -/
def pat (w : Nat) (i : Int) : Nat := (i % (2 ^ w : Nat)).toNat

/-- A number with bit `i` set, or cleared. -/
def setBit (v i : Nat) (b : Bool) : Nat := if bitOf v i = b then v else if b then v + 2 ^ i else v - 2 ^ i

/-- One more, staying at the largest value of `w` bits. -/
def satInc (w v : Nat) : Nat := min (v + 1) (2 ^ w - 1)

/-- The number of bits set among the lowest `n`. -/
def popcount (v : Nat) : Nat → Nat
  | 0 => 0
  | n + 1 => popcount v n + b2n (bitOf v n)

/-- The number of a byte string, first byte lowest. -/
def leNum : List Byte → Nat
  | [] => 0
  | b :: r => b.toNat + 256 * leNum r

/-- `n` bytes of a number, lowest first. -/
def leBytes : Nat → Nat → List Byte
  | 0, _ => []
  | n + 1, v => BitVec.ofNat 8 v :: leBytes n (v / 256)

/-- `n` words of a number, lowest first. -/
def leWords : Nat → Nat → List Nat
  | 0, _ => []
  | n + 1, v => v % 2 ^ 32 :: leWords n (v / 2 ^ 32)

/-- One bit of CRC-32C (polynomial 0x1EDC6F41, reflected; log entry 8, PRESUMED). -/
def crcBit (c : Nat) : Nat := if c % 2 = 1 then Nat.xor (c / 2) 0x82F63B78 else c / 2

/-- CRC-32C of a byte string (log entry 8, PRESUMED). -/
def crc32c (bs : List Byte) : Nat :=
  Nat.xor (bs.foldl (fun c b => let x := Nat.xor c b.toNat; crcBit (crcBit (crcBit (crcBit (crcBit (crcBit (crcBit (crcBit x))))))))
    0xFFFFFFFF) 0xFFFFFFFF

/-- A mark names a cycle at or after `k`. -/
def reached (m : Option Nat) (k : Nat) : Bool := match m with | some j => k ≤ j | none => false

/-! ## Register fields -/

/-- The key of copy `i` of a field in a bank. -/
def Fld.key (f : Fld) (i : Nat) : Nat := (f.off + i * f.stride) * 32 + f.lo

/-- The field of a register set that starts at `base`. -/
def Fld.at (f : Fld) (base : Nat) : Fld := { f with off := base + f.off }

/-- What a field stores when `v` is written to it over `old` (the register tables' own words). -/
def Fix.apply (fx : Fix) (old v : Nat) : Nat :=
  match fx with
  | .any => v
  | .clamp lo hi => if v < lo then lo else if hi < v then hi else v
  | .atLeast lo => if v < lo then lo else v
  | .atMost hi => if hi < v then hi else v
  | .ignoreAbove hi => if hi < v then old else v
  | .leak => if v = 0 then 0 else if v < 8 then 8 else if 24 < v then 24 else v

/-- The value of a field in a bank. -/
def bankRd (b : SMap Nat) (f : Fld) (i : Nat) : Nat := SMap.get f.rst b (f.key i)

/-- A bank with a field set, cut to its width. -/
def bankWr (b : SMap Nat) (f : Fld) (v i : Nat) : SMap Nat := SMap.put f.rst b (f.key i) (v % 2 ^ f.w)

def Leaf.rd (d : Leaf) (f : Fld) (i : Nat := 0) : Nat := bankRd d.bank f i
def Leaf.wr (d : Leaf) (f : Fld) (v : Nat) (i : Nat := 0) : Leaf := { d with bank := bankWr d.bank f v i }
def Concentrator.rd (d : Concentrator) (f : Fld) (i : Nat := 0) : Nat := bankRd d.bank f i
def Concentrator.wr (d : Concentrator) (f : Fld) (v : Nat) (i : Nat := 0) : Concentrator := { d with bank := bankWr d.bank f v i }
def Cell.rd (d : Cell) (f : Fld) (i : Nat := 0) : Nat := bankRd d.bank f i
def Cell.wr (d : Cell) (f : Fld) (v : Nat) (i : Nat := 0) : Cell := { d with bank := bankWr d.bank f v i }

/-- The shadow of an RWC field (00_scope.md Table 0.7): no block acts on it before its group is committed (R18). -/
def Leaf.rdShadow (d : Leaf) (f : Fld) (i : Nat := 0) : Nat := bankRd d.shadow f i
def Leaf.wrShadow (d : Leaf) (f : Fld) (v : Nat) (i : Nat := 0) : Leaf := { d with shadow := bankWr d.shadow f v i }

/-- The word at an offset, put together from the fields a table gives it (00_scope.md R12: what is not listed reads as 0). -/
def wordAt (fs : List Fld) (rd : Fld → Nat) (off : Nat) : Nat := (fs.filter (·.off = off)).foldl (fun v f => v + rd f * 2 ^ f.lo) 0

/-- A field as a flag. -/
def Leaf.is (d : Leaf) (f : Fld) (i : Nat := 0) : Bool := d.rd f i ≠ 0
def Concentrator.is (d : Concentrator) (f : Fld) (i : Nat := 0) : Bool := d.rd f i ≠ 0
def Cell.is (d : Cell) (f : Fld) (i : Nat := 0) : Bool := d.rd f i ≠ 0

/-- A counter field one up, saturating. -/
def Leaf.sat (d : Leaf) (f : Fld) (i : Nat := 0) : Leaf := d.wr f (satInc f.w (d.rd f i)) i
def Concentrator.sat (d : Concentrator) (f : Fld) (i : Nat := 0) : Concentrator := d.wr f (satInc f.w (d.rd f i)) i
def Cell.sat (d : Cell) (f : Fld) (i : Nat := 0) : Cell := d.wr f (satInc f.w (d.rd f i)) i

/-- A counter field one up, modulo its width. -/
def Leaf.inc (d : Leaf) (f : Fld) (i : Nat := 0) : Leaf := d.wr f (d.rd f i + 1) i
def Concentrator.inc (d : Concentrator) (f : Fld) (i : Nat := 0) : Concentrator := d.wr f (d.rd f i + 1) i
def Cell.inc (d : Cell) (f : Fld) (i : Nat := 0) : Cell := d.wr f (d.rd f i + 1) i

/-- The 64-bit value of a pair of fields (00_scope.md R15). -/
def Leaf.rd64 (d : Leaf) (lo hi : Fld) (i : Nat := 0) : Nat := d.rd lo i + 2 ^ 32 * d.rd hi i
def Leaf.wr64 (d : Leaf) (lo hi : Fld) (v : Nat) (i : Nat := 0) : Leaf := (d.wr lo (v % 2 ^ 32) i).wr hi (v / 2 ^ 32) i

/-- The copy of a field that the word at an offset holds. -/
def Fld.copyAt (f : Fld) (off : Nat) : Option Nat :=
  if off = f.off then some 0
  else if f.stride ≠ 0 && f.off < off && (off - f.off) % f.stride = 0 && (off - f.off) / f.stride < f.count then
    some ((off - f.off) / f.stride)
  else none

/-- A bank with the word `val` stored at an offset into the fields of `fs` that hold part of it, each as its table says (00_scope.md
Table 0.7). -/
def bankStore (fs : List Fld) (off val : Nat) (b : SMap Nat) : SMap Nat :=
  fs.foldl (fun b f => match f.copyAt off with
    | some i => bankWr b f (f.fix.apply (bankRd b f i) (bits val (f.lo + f.w - 1) f.lo)) i
    | none => b) b

/-! ## Lanes (10_flenor_links.md) -/

/-- The offset of a lane's register set in its part (10_flenor_links.md Table 10.11). -/
def laneBase : LaneEnd → Nat
  | .uplinkLeaf _ n => 0x220000 + 1024 * n.val
  | .mirror _ i => 0x230100 + 64 * i.val
  | .uplinkConc _ u => 0x400 + 64 * u.num
  | .port _ p => 0x4000 + 64 * p.val
  | .cell _ => 0x400

/-- The key of a lane in its part's map of senders; the mirror link has one sender, 48. -/
def laneKey : LaneEnd → Nat
  | .uplinkLeaf _ n => n.val
  | .mirror _ _ => 48
  | .uplinkConc _ u => 256 + u.num
  | .port _ p => p.val
  | .cell _ => 0

/-- A cell lane (10_flenor_links.md Table 10.1). -/
def cellLane : LaneEnd → Bool
  | .port _ _ => true
  | .cell _ => true
  | _ => false

/-- A frame of this type is retransmittable on this lane (R366). -/
def retransmittable (e : LaneEnd) (type : Nat) : Bool := if cellLane e then 5 ≤ type && type ≤ 9 else 8 ≤ type && type ≤ 13

/-- A mirror frame of TYPE MIRROR; RELEASE is a header of its own (Table 10.2). -/
def mirrorTagged : MirrorMsg → Bool
  | .release _ _ _ => false
  | _ => true

/-- A retransmittable frame enters its sender (R366): the sender afterwards, and whether the frame goes out now (log entry 5, DESIGN CHOICE). -/
def LaneQ.push (q : LaneQ) (up : Bool) (o : Out) : LaneQ × Bool :=
  if up && q.unacked.length < 16 then ({ q with unacked := q.unacked ++ [o] }, true) else ({ q with waiting := q.waiting ++ [o] }, false)

/-! ## The output log (log entry 5, DESIGN CHOICE) -/

/-- Append to the output log. -/
def Leaf.log (d : Leaf) (o : Out) : Leaf := { d with out := d.out ++ [o] }
def Concentrator.log (d : Concentrator) (o : Out) : Concentrator := { d with out := d.out ++ [o] }
def Cell.log (d : Cell) (o : Out) : Cell := { d with out := d.out ++ [o] }

/-- A lane of a part is UP (state 7). -/
def Leaf.laneUp (d : Leaf) (e : LaneEnd) : Bool := d.rd (XX_STATE_STATE.at (laneBase e)) = 7
def Concentrator.laneUp (d : Concentrator) (e : LaneEnd) : Bool := d.rd (XX_STATE_STATE.at (laneBase e)) = 7
def Cell.laneUp (d : Cell) : Bool := d.rd (XX_STATE_STATE.at 0x400) = 7

/-- Log entry 5, DESIGN CHOICE. -/
def Leaf.pushLane (d : Leaf) (k : Nat) (up : Bool) (o : Out) : Leaf :=
  let r := (SMap.get {} d.lanes k).push up o
  let d := { d with lanes := SMap.put {} d.lanes k r.1 }
  if r.2 then d.log o else d
def Concentrator.pushLane (d : Concentrator) (k : Nat) (up : Bool) (o : Out) : Concentrator :=
  let r := (SMap.get {} d.lanes k).push up o
  let d := { d with lanes := SMap.put {} d.lanes k r.1 }
  if r.2 then d.log o else d
def Cell.pushLane (d : Cell) (k : Nat) (up : Bool) (o : Out) : Cell :=
  let r := (SMap.get {} d.lanes k).push up o
  let d := { d with lanes := SMap.put {} d.lanes k r.1 }
  if r.2 then d.log o else d

/-- A part sends or drives something. A frame on a lane that is not UP waits when it is retransmittable (R366, R367) and is not sent
otherwise (log entry 5, DESIGN CHOICE). -/
def Leaf.emit (d : Leaf) (o : Out) : Leaf :=
  match o with
  | .frame e type _ =>
    if retransmittable e type then d.pushLane (laneKey e) (d.laneUp e) o else if d.laneUp e then d.log o else d
  | .mirror m => if mirrorTagged m then d.pushLane 48 (d.is HNG_STATUS_PARTNER_UP) o else d.log o
  | _ => d.log o
/-- Log entry 5, DESIGN CHOICE. -/
def Concentrator.emit (d : Concentrator) (o : Out) : Concentrator :=
  match o with
  | .frame e type _ =>
    if retransmittable e type then d.pushLane (laneKey e) (d.laneUp e) o else if d.laneUp e then d.log o else d
  | _ => d.log o
/-- Log entry 5, DESIGN CHOICE. -/
def Cell.emit (d : Cell) (o : Out) : Cell :=
  match o with
  | .frame e type _ =>
    if retransmittable e type then d.pushLane (laneKey e) d.laneUp o else if d.laneUp then d.log o else d
  | _ => d.log o

/-- An MSI-X vector fires (12_host_interface_and_handles.md Table 12.2) (log entry 21, DEDUCED). -/
def Leaf.msix (d : Leaf) (v : Nat) : Leaf := d.emit (.msix v)

/-- A frame on the mirror link, sent while the link is UP. -/
def Leaf.mirror (d : Leaf) (m : MirrorMsg) : Leaf := if d.is HNG_STATUS_PARTNER_UP then d.emit (.mirror m) else d

/-- The leaf of a part. -/
def Leaf.leafId (d : Leaf) : LeafId := if d.ident.leaf = 0 then .leaf0 else .leaf1

/-- A REMOTE_REQ frame (10_flenor_links.md Table 10.2; log entry 28, DEDUCED): handle, 1 for a write, offset, value, mask, and the port plus 1 of
the addressed cell, 0 for the concentrator itself. Handle 0 is a write of the leaf's own. -/
def Leaf.remoteFrame (d : Leaf) (n : Conc) (h : Nat) (write : Bool) (off val mask cell : Nat) : Leaf :=
  d.emit (.frame (.uplinkLeaf d.leafId n) 9 [h, b2n write, off, val, mask, cell])

/-- The leaf writes the bits of a mask of a concentrator register (log entry 28, DEDUCED). -/
def Leaf.concWrite (d : Leaf) (n off val mask : Nat) : Leaf :=
  if h : n < 48 then d.remoteFrame ⟨n, h⟩ 0 true off val mask 0 else d

/-- The leaf writes the bits of a mask of a port's entry on both map pages (log entry 28, DEDUCED). -/
def Leaf.entryWrite (d : Leaf) (n p val mask : Nat) : Leaf :=
  (d.concWrite n (0x4028 + 64 * p) val mask).concWrite n (0x402C + 64 * p) val mask

/-- The next free value of a part (log entry 4, DESIGN CHOICE). -/
def Leaf.free (d : Leaf) : Nat := Config.freeValue d.freeIdx
/-- Log entry 4, DESIGN CHOICE. -/
def Leaf.useFree (d : Leaf) : Leaf := { d with freeIdx := d.freeIdx + 1 }

/-! ## The parts of the state -/

def State.leaf (s : State) : LeafId → Leaf
  | .leaf0 => s.leaf0
  | .leaf1 => s.leaf1

def State.setLeaf (s : State) (l : LeafId) (d : Leaf) : State :=
  match l with
  | .leaf0 => { s with leaf0 := d }
  | .leaf1 => { s with leaf1 := d }

def State.conc (s : State) (n : Conc) : Concentrator := SMap.get {} s.concs n.val
def State.setConc (s : State) (n : Conc) (d : Concentrator) : State := { s with concs := SMap.put {} s.concs n.val d }
def State.cell (s : State) (c : CellId) : Cell := SMap.get {} s.cells c.key
def State.setCell (s : State) (c : CellId) (d : Cell) : State := { s with cells := SMap.put {} s.cells c.key d }

/-- The outcome of a command that acts on one leaf. -/
def onLeaf (l : LeafId) (s : State) (f : Leaf → Leaf) : Host.Outcome State Fault Refusal := .next (s.setLeaf l (f (s.leaf l)))
/-- The outcome of a command that acts on one concentrator. -/
def onConc (n : Conc) (s : State) (f : Concentrator → Concentrator) : Host.Outcome State Fault Refusal :=
  .next (s.setConc n (f (s.conc n)))
/-- The outcome of a command that acts on one cell. -/
def onCell (c : CellId) (s : State) (f : Cell → Cell) : Host.Outcome State Fault Refusal := .next (s.setCell c (f (s.cell c)))

/-- The outcome of a command that acts on the part it names (log entry 5, DESIGN CHOICE). -/
def onPart (p : Part) (s : State) (f : Leaf → Leaf) (g : Concentrator → Concentrator) (h : Cell → Cell) :
    Host.Outcome State Fault Refusal :=
  match p with
  | .leaf l => onLeaf l s f
  | .conc n => onConc n s g
  | .cell c => onCell c s h
  | .core l _ => onLeaf l s f

/-! ## Station time -/

/-- A linear time as TS96 (02_clocks_and_time.md R63, Table 2.4). -/
def toTs96 (l : Int) : Nat :=
  let v := pat 96 l
  let ns := v / 65536
  ns / 1000000000 * 2 ^ 48 + ns % 1000000000 * 65536 + v % 65536

/-- A TS96 value is valid when NS is at most 999,999,999 (R64). -/
def ts96Valid (v : Nat) : Bool := bits v 47 16 ≤ 999999999

/-- The linear time of a valid TS96. -/
def ofTs96 (v : Nat) : Int := ((bits v 95 48 * 1000000000 + bits v 47 16) * 65536 + bits v 15 0 : Nat)

/-- The applied rate, signed (R63). -/
def Leaf.rate (d : Leaf) : Int := sext 32 (d.rd TIM_RATE_VALUE)

/-- The part of station time that the counter gives at a rate: `C * 81920 + floor(C * 81920 * RATE / 2^40)` (R63). -/
def linearAt (c : Nat) (rate : Int) : Int := (c * 81920 : Nat) + Int.fdiv ((c * 81920 : Nat) * rate) (2 ^ 40 : Nat)

/-- Station time, linear, in units of 2^-16 ns (R63). -/
def Leaf.now (d : Leaf) : Int := linearAt d.tim.c d.rate + d.tim.ofs

/-- The cycle length T_c in units of 2^-16 ns; CYC_PERIOD is in 100 ns (03_control_cycle.md). -/
def Leaf.tc (d : Leaf) : Int := (d.rd CYC_PERIOD_PERIOD * 100 * 65536 : Nat)

/-- The number of cycles in a time of `ms` milliseconds. -/
def Leaf.cyclesIn (d : Leaf) (ms : Nat) : Nat := ms * 10000 / max 1 (d.rd CYC_PERIOD_PERIOD)

/-- The converter is moving: CHARGING or DEBLOCKED (00_scope.md Table 0.6). -/
def Leaf.moving (d : Leaf) : Bool := d.conv.st = .charging || d.conv.st = .deblocked

/-- The leaf holds the active role. -/
def Leaf.active (d : Leaf) : Bool := d.hng.role = .active

/-! ## Start-up (19_power_reset_startup.md Table 19.4) -/

/-- The leaf answers register accesses and takes part in the converter: its boot ROM has jumped (R583). -/
def Leaf.running (d : Leaf) : Bool := 4 ≤ d.pwr.step

/-- Register writes act: the leaf runs and its deadbolt latch is not set (14_faults.md R464). -/
def Leaf.writable (d : Leaf) : Bool := d.running && !d.is FLT_STATUS_DEADBOLT

/-- Step 2 ends when a reference input is qualified (R577, R581). -/
def Leaf.afterReference (d : Leaf) : Leaf := if d.pwr.step = 2 then { d with pwr := { d.pwr with step := 3 } } else d

/-! ## The active image -/

/-- Bytes 0 to 3 of the active image hash, byte 0 highest; 0 while UNKEYED (13_the_hinge.md Table 13.3). -/
def Leaf.imageTag (d : Leaf) : Nat := match d.key.active with | some i => i.hash / 2 ^ 352 | none => 0

/-- The map tag: the last four bytes of MAP_HASH (06_keying_image.md). -/
def Image.mapTag (i : Image) : Nat := i.mapHash % 2 ^ 32

/-- The arm a concentrator belongs to (01_architecture.md R23). -/
def Image.armOf (i : Image) (n : Nat) : Option Nat :=
  ((List.range i.arms.length).find? fun a => match i.arms[a]? with | some r => r.concs.contains n | none => false)

/-- The slot a concentrator and port are mapped to (R10, R26). -/
def Image.slotAt (i : Image) (n p : Nat) : Option Nat :=
  match i.ports.find? (fun e => e.conc = n && e.port = p), i.armOf n with
  | some e, some a => some (a * 2048 + e.pos)
  | _, _ => none

/-- The port-map entry of a slot. -/
def Image.entryOf (i : Image) (slot : Nat) : Option PortEnt :=
  i.ports.find? fun e => e.pos = slot % 2048 && i.armOf e.conc = some (slot / 2048)

/-- The concentrators the active image declares (R380). -/
def Leaf.declared (d : Leaf) : List Nat := match d.key.active with | some i => i.arms.flatMap (·.concs) | none => []

def Leaf.slotAt (d : Leaf) (n p : Nat) : Option Nat := d.key.active.bind fun i => i.slotAt n p

end Sys2Proof.Machine
end

