-- ==== Sys2Proof/Machine/FaultOps.lean ====
section
/-! DEFINITION. Raising a fault (14_faults.md R449 to R467) on a leaf and on a concentrator, the converter's reaction to a class,
and giving up control on a self-diagnosis cause (13_the_hinge.md R432 to R434). -/

namespace Sys2Proof.Machine
open Reg

/-! ## Fault stores -/

/-- A record takes an error of the same part, block and instance whose class is not higher (14_faults.md R454) (log entry 41, DEDUCED). -/
def recTakes (r e : FaultRec) : Bool :=
  r.isOpen && r.part = e.part && r.unit = e.unit && r.code / 256 = e.code / 256 && r.inst = e.inst && e.cls.code ≤ r.cls.code

/-- A record after an error merged into it (R454). -/
def recMerge (r e : FaultRec) : FaultRec :=
  { r with count := satInc 16 r.count, cause := Nat.lor r.cause e.cause, merged := setBit r.merged (e.code % 16) true }

/-- The store with the error merged into the oldest record that takes it; none where no record does (R454). -/
def FltEnt.mergeFirst (e : FaultRec) : List FltEnt → Option (List FltEnt)
  | [] => none
  | x :: r => if recTakes x.r e then some ({ x with r := recMerge x.r e } :: r) else (FltEnt.mergeFirst e r).map (x :: ·)

/-- A record of the cycle of an error, with its BLOCK and INSTANCE, whose own error the new one outranks: of two errors of one cycle that
have no record to merge into, the one of the higher class, then of the lower CODE, raises the record (R456). Two equal CYCLE fields
within 20 µs, the longest cycle, are one cycle (log entry 41, DEDUCED). -/
def recYields (r e : FaultRec) : Bool :=
  r.isOpen && r.part = e.part && r.unit = e.unit && r.code / 256 = e.code / 256 && r.inst = e.inst && r.cycle = e.cycle &&
  decide ((ofTs96 e.time - ofTs96 r.time).natAbs ≤ 20000 * 65536) &&
  (decide (r.cls.code < e.cls.code) || (r.cls.code = e.cls.code && decide (e.code < r.code)))

/-- The record as the outranking error raises it, with the earlier error merged into it (R456) (log entry 41, DEDUCED). -/
def recOutrank (r e : FaultRec) : FaultRec :=
  { e with seq := r.seq, merged := setBit r.merged (r.code % 16) true, cause := Nat.lor r.cause e.cause, count := satInc 16 r.count }

/-- The store with the first record that yields to an error taken over by it; none where no record yields. -/
def FltEnt.outrankFirst (e : FaultRec) : List FltEnt → Option (List FltEnt)
  | [] => none
  | x :: r => if recYields x.r e then some ({ x with r := recOutrank x.r e } :: r) else (FltEnt.outrankFirst e r).map (x :: ·)

/-- The index of the entry a new record overwrites when the store is full (R457); none when the record is lost. -/
def FltStore.victim (st : FltStore) (cls : FaultClass) : Option Nat :=
  match st.recs.find? (fun x => !x.r.isOpen) with
  | some x => some x.idx
  | none =>
    if cls.code ≤ 1 then none
    else match st.recs.find? (fun x => x.r.cls.code ≤ 1) with
      | some x => some x.idx
      | none => (st.recs.find? (fun x => x.r.cls.code = 2)).map (·.idx)

/-- The store with a record at an index, as the newest. -/
def FltStore.putAt (st : FltStore) (i : Nat) (r : FaultRec) : FltStore :=
  { st with recs := st.recs.filter (fun x => x.idx ≠ i) ++ [⟨i, r⟩], head := i }

/-- What became of an error: merged, stored as a new record, raised in place of an error of the same cycle, or lost (log entry 41, DEDUCED). -/
inductive Placed where
  | merged | stored | outranked | lost
  deriving DecidableEq, Repr

/-- Store a new record (R450, R457) in a store of `cap` entries. A closed record that is lost drives no line (R452) (log entry 41, DEDUCED). -/
def FltStore.place (cap : Nat) (st : FltStore) (r : FaultRec) : FltStore × Placed :=
  if st.recs.length < cap then (st.putAt st.recs.length r, .stored)
  else match st.victim r.cls with
    | some i => (st.putAt i r, .stored)
    | none => ({ st with lostAlarm := st.lostAlarm || (r.isOpen && decide (1 ≤ r.cls.code)),
                         lostTrip := st.lostTrip || (r.isOpen && decide (2 ≤ r.cls.code)) }, .lost)

/-- An error enters a store: in place of an error of its cycle that it outranks, merged, or a record of its own with the next SEQ of
`seqBits` bits (R450, R454, R456). -/
def FltStore.add (cap seqBits : Nat) (st : FltStore) (e : FaultRec) : FltStore × Placed :=
  match FltEnt.outrankFirst e st.recs, FltEnt.mergeFirst e st.recs with
  | some rs, _ => ({ st with recs := rs }, .outranked)
  | none, some rs => ({ st with recs := rs }, .merged)
  | none, none => FltStore.place cap { st with seq := (st.seq + 1) % 2 ^ seqBits } { e with seq := st.seq }

/-- The store with the records that satisfy `p` closed. -/
def FltStore.close (st : FltStore) (p : FltEnt → Bool) : FltStore :=
  { st with recs := st.recs.map fun x => if p x then { x with r := { x.r with isOpen := false } } else x }

def FltStore.openOf (st : FltStore) (k : Nat) : Bool := st.recs.any fun x => x.r.isOpen && x.r.cls.code = k
def FltStore.openCount (st : FltStore) : Nat := (st.recs.filter fun x => x.r.isOpen).length

/-! ## The leaf -/

/-- This leaf publishes block sets: ACTIVE in a state whose row of 01_architecture.md Table 1.4 says Block. -/
def Leaf.blockSets (d : Leaf) : Bool :=
  d.active && !(d.conv.st = .deblocked || d.conv.st = .blockedReady)

/-- The fault-line levels and the summary fields follow the records and the converter state (14_faults.md Tables 14.5a, 14.10,
R459, R460). -/
def Leaf.fltRefresh (d : Leaf) : Leaf :=
  let alarm := d.flt.recs.any (fun x => x.r.isOpen && 1 ≤ x.r.cls.code) || d.flt.lostAlarm
  let ins := d.rd FLT_LINES_LEVEL / 16 * 16
  let outs := if d.is FLT_STATUS_MODE then
      b2n (d.conv.st = .tripped || d.conv.st = .deadbolted) + 2 * b2n alarm + 4 * b2n d.blockSets
    else 0
  ((((((d.wr FLT_STATUS_TRIP_OPEN (b2n (d.flt.openOf 2))).wr FLT_STATUS_ALARM_OPEN (b2n (d.flt.openOf 1))).wr FLT_RING_OPEN
    d.flt.openCount).wr FLT_RING_HELD d.flt.recs.length).wr FLT_REC_SEL_HEAD d.flt.head)).wr FLT_LINES_LEVEL (ins + outs)

/-- The deadbolt latch of a leaf (14_faults.md R463, R464). -/
def Leaf.latchDeadbolt (d : Leaf) (code : Nat) : Leaf :=
  let d := if d.is FLT_DBOLT_VALID then d else (d.wr FLT_DBOLT_CODE code).wr FLT_DBOLT_VALID 1
  ({ d.wr FLT_STATUS_DEADBOLT 1 with conv := { d.conv with boltPend := true } }).emit (.pin "DEADBOLT_N" 0)

/-- The counters and the vector that follow what became of an error (14_faults.md R454 to R457). -/
def Leaf.fltCount (cls : FaultClass) (p : Placed) (d : Leaf) : Leaf :=
  match p with
  | .merged => d.sat FLT_CNT_MERGED
  | .stored => if 1 ≤ cls.code then d.msix 2 else d
  | .outranked => (if 1 ≤ cls.code then d.msix 2 else d).sat FLT_CNT_MERGED
  | .lost => ((if 1 ≤ cls.code then d.msix 2 else d).sat FLT_CNT_LOST).wr FLT_STATUS_RING_OVF 1

/-- The reaction of the class of an error: a TRIP of the active leaf waits for the boundary, a DEADBOLT sets the latch (log entry 21, DEDUCED; log entry 96, DEDUCED). -/
def Leaf.fltReact (e : FaultRec) (d : Leaf) : Leaf :=
  match e.cls with
  | .trip => if d.active && !e.superseded then { d with conv := { d.conv with tripPend := true } } else d
  | .deadbolt => d.latchDeadbolt e.code
  | _ => d

/-- An error of a leaf raises its record, or merges, and takes the reaction of its class (14_faults.md R449 to R457). A record marked
superseded has its reaction replaced by a release (13_the_hinge.md R433). -/
def Leaf.raiseRec (d : Leaf) (e : FaultRec) : Leaf :=
  let a := FltStore.add 1024 10 d.flt e
  ((({ d with flt := a.1 }).fltCount e.cls a.2).fltReact e).fltRefresh

/-- The record of an error detected now on a leaf (14_faults.md Tables 14.2 and 14.3). -/
def Leaf.errorRec (d : Leaf) (code : Nat) (cls : FaultClass) (inst cause detail : Nat) (sup : Bool) : FaultRec where
  time := toTs96 d.now
  code := code
  cls := cls
  unset := d.is TIM_STATUS_UNSET
  injected := false
  isOpen := true
  superseded := sup
  seq := 0
  part := 0
  unit := d.ident.leaf
  inst := inst
  merged := 0
  cause := cause
  count := 1
  cycle := d.tim.cyc % 65536
  detail := detail

/-- Raise a fault of a leaf. -/
def Leaf.raise (d : Leaf) (code : Nat) (cls : FaultClass) (inst : Nat := 0) (cause : Nat := 0) (detail : Nat := 0) : Leaf :=
  d.raiseRec (d.errorRec code cls inst cause detail false)

/-! ## Giving up control (13_the_hinge.md) -/

/-- A RELEASE or STANDBY header word 0 field layout shared by Tables 13.3 and 13.6: TYPE, CONV_STATE, LEAF. -/
def Leaf.frameHead (d : Leaf) (type : Nat) : Nat := type * 2 ^ 124 + d.conv.st.code * 2 ^ 120 + d.ident.leaf * 2 ^ 119

/-- The RELEASE frame (13_the_hinge.md Table 13.6). -/
def Leaf.releaseHdr (d : Leaf) (planned : Bool) (cause effective : Nat) : Nat :=
  d.frameHead 6 + b2n planned * 2 ^ 118 + cause * 2 ^ 112 + effective % 65536 * 2 ^ 96 + d.imageTag * 2 ^ 64

/-- An uplink lane of the leaf is UP (10_flenor_links.md Table 10.8; UP is state 7). -/
def Leaf.uplinkUp (d : Leaf) (n : Nat) : Bool := d.rd (XX_STATE_STATE.at (0x220000 + 1024 * n)) = 7

/-- A frame on every UP uplink whose concentrator satisfies `p`. -/
def Leaf.sendUplinks (d : Leaf) (p : Nat → Bool) (type : Nat) (payload : Conc → List Nat) : Leaf :=
  (List.finRange 48).foldl (fun d n => if d.uplinkUp n.val && p n.val then d.emit (.frame (.uplinkLeaf d.leafId n) type (payload n)) else d) d

/-- The active leaf gives up control (13_the_hinge.md R433): RELEASED, RELEASE FAULT on every UP uplink and on the mirror link,
the cause recorded, the hinge-over ALARM raised, vector 3. -/
def Leaf.giveUp (d : Leaf) (cause : Nat) : Leaf :=
  let d := { d with hng := { d.hng with role := .released, cause := cause, roleCycle := some d.tim.cyc } }
  let d := d.wr HNG_STATUS_ROLE Role.released.code |>.wr HNG_CAUSE_CYCLE d.tim.cyc |>.wr HNG_CAUSE_VALID 1
    |>.wr HNG_CAUSE_CAUSE cause |>.wr HND_STATUS_ROLE 0 |>.wr TIM_CLK_STATUS_MIR_ALIGN 0
  let d := d.sendUplinks (fun _ => true) 6 (fun _ => [d.releaseHdr false cause 0])
  let d := d.mirror (.release false cause 0)
  (d.raise 0x2603 .alarm 0 0 cause).msix 3

/-- A self-diagnosis cause of 13_the_hinge.md Table 13.5: with the partner standing by, and no deadbolt of this leaf, the active leaf
gives up control and the class is not applied (R433); otherwise the fault takes its class (R434). -/
def Leaf.selfDiag (d : Leaf) (hcause code : Nat) (cls : FaultClass) (inst cause : Nat) : Leaf :=
  if d.active && d.is HNG_STATUS_PARTNER_STANDING && !d.is FLT_STATUS_DEADBOLT then
    (d.raiseRec (d.errorRec code cls inst cause 0 true)).giveUp hcause
  else d.raise code cls inst cause

/-! ## The concentrator -/

/-- The words of a record on the links, word 7 first (14_faults.md R451). -/
def recWords (r : FaultRec) : List Nat :=
  let w3 := r.code * 65536 + r.cls.code * 16384 + b2n r.unset * 8192 + b2n r.injected * 4096 + b2n r.isOpen * 2048
    + b2n r.superseded * 1024 + r.seq % 1024
  let src := r.part * 2 ^ 30 + r.unit * 65536 + r.code / 256 * 256 + r.inst % 256
  [r.detail, r.count * 65536 + r.cycle, r.merged * 65536 + r.cause, src, w3, r.time / 2 ^ 64, r.time / 2 ^ 32 % 2 ^ 32, r.time % 2 ^ 32]

/-- FAULT frames of a record to both leaves (14_faults.md R451). -/
def Concentrator.sendFault (d : Concentrator) (n : Conc) (r : FaultRec) : Concentrator :=
  (d.emit (.frame (.uplinkConc n .leaf0) 8 (recWords r))).emit (.frame (.uplinkConc n .leaf1) 8 (recWords r))

/-- The summary fields and the TRIP_OUT line of a concentrator follow its records (Tables 14.5a and 14.11). -/
def Concentrator.fltRefresh (d : Concentrator) : Concentrator :=
  let trip := d.flt.recs.any (fun x => x.r.isOpen && 2 ≤ x.r.cls.code) || d.flt.lostTrip
  let ins := d.rd AFLT_LINES_LEVEL / 2 * 2
  (((d.wr AFLT_STATUS_TRIP_OPEN (b2n (d.flt.openOf 2))).wr AFLT_STATUS_ALARM_OPEN (b2n (d.flt.openOf 1))).wr AFLT_REC_SEL_HEAD
    d.flt.head).wr AFLT_LINES_LEVEL (ins + b2n (d.is AFLT_STATUS_MODE && trip))

/-- The record that an error went into goes to both leaves; a lost one is marked (R449, R451, R457). -/
def Concentrator.fltSent (n : Conc) (e : FaultRec) (p : Placed) (d : Concentrator) : Concentrator :=
  match p with
  | .lost => d.wr AFLT_STATUS_LOST 1
  | .outranked => match d.flt.recs.find? (fun x : FltEnt => x.r.isOpen && x.r.part = e.part && x.r.code = e.code && x.r.inst = e.inst && x.r.time = e.time) with
    | some x => d.sendFault n x.r
    | none => d
  | .merged => match d.flt.recs.find? (fun x : FltEnt => recTakes x.r e) with
    | some x => d.sendFault n x.r
    | none => d
  | .stored => match d.flt.recs.getLast? with
    | some x => d.sendFault n x.r
    | none => d

/-- An error of a concentrator (R449, R454, R457): recorded, sent to both leaves, the latch set for a DEADBOLT (R463). -/
def Concentrator.raiseRec (d : Concentrator) (n : Conc) (e : FaultRec) : Concentrator :=
  let a := FltStore.add 16 4 d.flt e
  let d := ({ d with flt := a.1 }).fltSent n e a.2
  (if e.cls = .deadbolt then d.wr AFLT_STATUS_DEADBOLT 1 else d).fltRefresh

/-- The record of an error detected now on concentrator `n`. -/
def Concentrator.errorRec (d : Concentrator) (n : Conc) (code : Nat) (cls : FaultClass) (inst cause detail : Nat) : FaultRec where
  time := toTs96 d.time
  code := code
  cls := cls
  unset := d.timeUnset
  injected := false
  isOpen := true
  superseded := false
  seq := 0
  part := 1
  unit := n.val
  inst := inst
  merged := 0
  cause := cause
  count := 1
  cycle := d.cyc % 65536
  detail := detail

/-- Raise a fault of a concentrator. -/
def Concentrator.raise (d : Concentrator) (n : Conc) (code : Nat) (cls : FaultClass) (inst : Nat := 0) (cause : Nat := 0)
    (detail : Nat := 0) : Concentrator :=
  d.raiseRec n (d.errorRec n code cls inst cause detail)

end Sys2Proof.Machine
end

