-- ==== Sys2Proof/Machine/CellOps.lean ====
section
/-! DEFINITION. Shared operations of a cell controller: its fault records (14_faults.md, 09_cell_measurement_and_sleep.md R341),
the ideal states and edges of its gates (08_cell_switching.md R272 to R283), trips, the bolt sequence and the changes of its
operating state (Table 8.5). -/

namespace Sys2Proof.Machine
open Reg

/-! ## What the cell takes from the grid -/

/-- What a part learns of the grid that no frame carries: the cycle length and the sample offset, in PWM ticks of 0.625 ns (log entry
22, DEDUCED). -/
structure Grid where
  tc : Nat
  sofs : Nat
  deriving DecidableEq, Repr

/-- The grid of the active leaf; of leaf 0 while no leaf is ACTIVE (log entry 22, DEDUCED). -/
def State.grid (s : State) : Grid :=
  let d := if s.leaf1.active && !s.leaf0.active then s.leaf1 else s.leaf0
  { tc := d.rd CYC_PERIOD_PERIOD * 160, sofs := d.rd CYC_SAMPLE_OFS_VALUE * 2 }

/-- The cell runs (09_cell_measurement_and_sleep.md Table 9.8). -/
def Cell.runs (d : Cell) (f : Cell → Cell) : Cell := if d.pow = .run then f d else d

/-- The cell is not off: a running bolt sequence continues in sleep and in pin reset, while the supply lasts
(08_cell_switching.md R292, 19_power_reset_startup.md R585). -/
def Cell.powered (d : Cell) (f : Cell → Cell) : Cell := if d.pow = .off then d else f d

/-- The cell is in local PWM mode. -/
def Cell.localMode (d : Cell) : Bool := d.is CPWM_STATUS_MODE_NOW

/-- The next free value of a part (log entry 4, DESIGN CHOICE). -/
def Cell.free (d : Cell) : Nat := Config.freeValue d.freeIdx
/-- Log entry 4, DESIGN CHOICE. -/
def Cell.useFree (d : Cell) : Cell := { d with freeIdx := d.freeIdx + 1 }
def Concentrator.free (d : Concentrator) : Nat := Config.freeValue d.freeIdx
/-- Log entry 4, DESIGN CHOICE. -/
def Concentrator.useFree (d : Concentrator) : Concentrator := { d with freeIdx := d.freeIdx + 1 }

/-! ## Fault records (14_faults.md R450, R454, R467; 09_cell_measurement_and_sleep.md R341) -/

/-- The retention fault counter of a code (Table 14.8). -/
def cellCounter (code : Nat) : Option Nat :=
  match code with
  | 0x8001 => some 0
  | 0x8002 => some 1
  | 0x8101 => some 2
  | 0x8102 => some 3
  | 0x8103 => some 4
  | 0x8201 => some 5
  | 0x8301 => some 6
  | 0x8302 => some 7
  | 0x8303 => some 8
  | 0x8401 => some 9
  | 0x8402 => some 10
  | 0x8501 => some 11
  | 0x8601 => some 12
  | 0x8602 => some 13
  | 0x8701 => some 14
  | 0x8702 => some 15
  | 0x8703 => some 16
  | _ => none

/-- The cell-lane FAULT body (Table 14.4), bit 0 of the body being bit 16 of the frame. -/
def faultBody (r : FaultRec) : Nat :=
  r.time * 2 ^ 123 + r.code * 2 ^ 107 + r.cls.code * 2 ^ 105 + b2n r.unset * 2 ^ 104 + r.seq % 256 * 2 ^ 96 +
    r.merged * 2 ^ 80 + r.cause * 2 ^ 64 + r.count * 2 ^ 48 + r.cycle * 2 ^ 32 + r.detail

/-- The open records, oldest first: the entries are ordered by their distance from HEAD. -/
def CellRet.ordered (r : CellRet) (head : Nat) : List (Nat × LogEnt) :=
  let es := r.log.filterMap fun p => p.2.map fun e => (p.1, e)
  es.filter (fun p => head ≤ p.1) ++ es.filter (fun p => p.1 < head)

/-- The summary bits of CFLT_STATUS follow the open records (Table 14.12). -/
def Cell.fltRefresh (d : Cell) : Cell :=
  let has (k : Nat) := d.ret.log.any fun p => match p.2 with | some e => e.r.isOpen && e.r.cls.code = k | none => false
  (d.wr CFLT_STATUS_TRIP_OPEN (b2n (has 2))).wr CFLT_STATUS_ALARM_OPEN (b2n (has 1))

/-- The station time of an event: CYC_TS of the grid plus the time since the cycle start; 0 when it is not known (Table 9.7). A tick is
40,960 units of 2^-16 ns. -/
def Cell.stamp (d : Cell) : Nat :=
  if d.timeUnset then 0 else toTs96 (d.time + ((d.sw.now - d.sw.start : Nat) : Int) * 40960)

/-- The record of an error detected now. The cell does not know its slot: a leaf fills in UNIT (R451). -/
def Cell.errorRec (d : Cell) (code : Nat) (cls : FaultClass) (cause detail : Nat) : FaultRec where
  time := d.stamp
  code := code
  cls := cls
  unset := d.timeUnset
  injected := false
  isOpen := true
  superseded := false
  seq := 0
  part := 2
  unit := 0
  inst := 0
  merged := 0
  cause := cause
  count := 1
  cycle := d.cyc % 65536
  detail := detail

/-- The record written as the entry at HEAD and sent upstream (R341, Table 14.1). The microseconds of LOCAL within the millisecond are a
free value (log entry 4, DESIGN CHOICE). -/
def Cell.logRec (c : CellId) (r : FaultRec) (d : Cell) : Cell :=
  let r := { r with seq := d.ret.logSeq }
  let i := d.rd CRET_LOG_IDX_HEAD
  let e : LogEnt := { r := r, local_ := (d.trip.ms * 1000 + d.free % 1000) % 2 ^ 32 }
  let d := { d with ret := { d.ret with log := SMap.put none d.ret.log i (some e), logSeq := (d.ret.logSeq + 1) % 256 } }
  ((d.useFree.wr CRET_LOG_IDX_HEAD (i + 1)).fltRefresh).emit (.frame (.cell c) 5 [faultBody r])

/-- An error enters the event log: merged into the oldest open record that takes it, raised in place of an error of its
cycle that it outranks, or an entry of its own (R454, R456, R341); its
counter goes up (R467). -/
def Cell.raiseRec (c : CellId) (e : FaultRec) (d : Cell) : Cell :=
  let d := match cellCounter e.code with
    | some k => { d with ret := { d.ret with counters := SMap.put 0 d.ret.counters k (satInc 32 (SMap.get 0 d.ret.counters k)) } }
    | none => d
  match (d.ret.ordered (d.rd CRET_LOG_IDX_HEAD)).find? fun p => recYields p.2.r e || recTakes p.2.r e with
  | some p =>
    let r := if recYields p.2.r e then recOutrank p.2.r e else recMerge p.2.r e
    ({ d with ret := { d.ret with log := SMap.put none d.ret.log p.1 (some { p.2 with r := r }) } }.fltRefresh).emit
      (.frame (.cell c) 5 [faultBody r])
  | none => d.logRec c e

/-! ## Gates (R272, R277, R278, R283) -/

/-- The levels of G4 to G1 that a command holds (Table 8.1). -/
def gateLevels (full upper : Bool) (cmd : Nat) : Nat :=
  match cmd with
  | 1 => if full then (if upper then 5 else 10) else 2
  | 2 => if full then 9 else 1
  | 3 => 6
  | _ => 0

/-- The ideal state of a command: CMD times 16 plus the gate levels. -/
def Cell.idealOf (d : Cell) (cmd : Nat) : Nat :=
  cmd * 16 + gateLevels (d.rd CPWM_STATUS_TYPE = 2) (d.is CPWM_CTL_FB_BYP) cmd

/-- The other gate of a pair (gates 0 and 1, 2 and 3). -/
def gatePartner (g : Nat) : Nat := if g % 2 = 0 then g + 1 else g - 1

/-- Insert an edge in the order of its tick. -/
def insEdge (e : Edge) : List Edge → List Edge
  | [] => [e]
  | x :: r => if e.tick < x.tick then e :: x :: r else x :: insEdge e r

/-- The falling edge of a gate at a tick; rising edges still to come at or after it are not made. -/
def CellSw.fall (s : CellSw) (g t : Nat) : CellSw :=
  { s with edges := insEdge ⟨t, g, false⟩ (s.edges.filter fun e => !(e.gate = g && e.level && t ≤ e.tick)) }

/-- The tick of the last falling edge of a gate, made or to come. -/
def CellSw.lastFall (s : CellSw) (g : Nat) : Nat :=
  s.edges.foldl (fun a e => if e.gate = g && !e.level then max a e.tick else a) (SMap.get 0 s.lowAt g)

/-- The gate alarm of R278, once until GUARD_ACT has been cleared. -/
def Cell.guardAct (c : CellId) (d : Cell) : Cell :=
  if d.is CPWM_STATUS_GUARD_ACT then d
  else (d.wr CPWM_STATUS_GUARD_ACT 1).raiseRec c (d.errorRec 0x8101 .alarm 0 0)

/-- The rising edge of a gate, postponed until its partner has been low for CPWM_GUARD ticks (R278). -/
def Cell.rise (c : CellId) (g t : Nat) (d : Cell) : Cell :=
  let last := d.sw.lastFall (gatePartner g)
  let t' := if last = 0 then t else max t (last + d.rd CPWM_GUARD_GUARD)
  let d := if t < t' then d.guardAct c else d
  { d with sw := { d.sw with edges := insEdge ⟨t', g, true⟩ d.sw.edges } }

/-- The edges of an ideal transition at `t` from one state to another (R277). -/
def Cell.transition (c : CellId) (t old new : Nat) (d : Cell) : Cell :=
  let d := (List.range 4).foldl (fun d g =>
    if bitOf old g && !bitOf new g then { d with sw := d.sw.fall g (t + d.rd CPWM_DLYn_FALL g) } else d) d
  let d := (List.range 4).foldl (fun d g =>
    if !bitOf old g && bitOf new g then d.rise c g (t + d.rd CPWM_DLYn_RISE g) else d) d
  ({ d with sw := { d.sw with ideal := new, before := old, since := t } }).wr CPWM_GATES_STATE (new / 16)

/-- The level of a gate changes. -/
def Cell.setGate (t g : Nat) (lv : Bool) (d : Cell) : Cell :=
  if bitOf (d.rd CPWM_GATES_G) g = lv then d
  else
    let d := (d.wr CPWM_GATES_G (setBit (d.rd CPWM_GATES_G) g lv)).emit (.gate t g lv)
    if lv then d else { d with sw := { d.sw with lowAt := SMap.put 0 d.sw.lowAt g t } }

/-- The edges that have come by tick `t` are made. While SOFT_OFF is high no gate rises (R283): its rising edges wait. -/
def Cell.edgesTo (t : Nat) (d : Cell) : Cell :=
  let hold (e : Edge) := t < e.tick || (e.level && d.is CPWM_GATES_SOFT_OFF)
  let due := d.sw.edges.filter fun e => !hold e
  let d := { d with sw := { d.sw with edges := d.sw.edges.filter hold } }
  due.foldl (fun d e => d.setGate e.tick e.gate e.level) d

/-- The ideal transitions and edges up to tick `t` take place. -/
def Cell.runTo (c : CellId) (t : Nat) (d : Cell) : Cell :=
  let due := d.sw.plan.filter fun p => !p.tentative && p.tick ≤ t
  let d := { d with sw := { d.sw with plan := d.sw.plan.filter (fun p => p.tentative || t < p.tick), now := max d.sw.now t } }
  let d := due.foldl (fun d p => d.transition c p.tick d.sw.ideal p.st) d
  d.edgesTo d.sw.now

/-- Every gate off with the normal falling delays: the silence block, under-voltage, a BLOCK by the end of local mode (R283) (log entry 24, DEDUCED). -/
def Cell.turnOff (d : Cell) : Cell :=
  let d := { d with sw := { d.sw with plan := [], edges := d.sw.edges.filter (fun e => !e.level) } }
  let on := d.rd CPWM_GATES_G
  let falls (g : Nat) := bitOf on g && !d.sw.edges.any (fun e => e.gate = g)
  let d := (List.range 4).foldl (fun d g =>
    if falls g then { d with sw := d.sw.fall g (d.sw.now + d.rd CPWM_DLYn_FALL g) } else d) d
  ({ d with sw := { d.sw with before := d.sw.ideal, ideal := 0, since := d.sw.now } }).wr CPWM_GATES_STATE 0

/-- Soft turn-off begins (R283): SOFT_OFF rises, and the gates go low when LEAD has passed. -/
def Cell.softOff (d : Cell) : Cell :=
  let d := { d with sw := { d.sw with plan := [], edges := [], before := d.sw.ideal, ideal := 0, since := d.sw.now, lead := true } }
  ((d.wr CPWM_GATES_STATE 0).wr CPWM_GATES_SOFT_OFF 1).emit (.pin "SOFT_OFF" 1)

/-- Every gate low at once (R283). -/
def Cell.allLow (d : Cell) : Cell :=
  let d := (List.range 4).foldl (fun d g => d.setGate d.sw.now g false) d
  { d with sw := { d.sw with lead := false, edges := [] } }

/-! ## Operating states (Table 8.5) -/

/-- Local mode ends, by any event (R300). -/
def Cell.endLocal (d : Cell) : Cell :=
  ({ d with sw := { d.sw with locNext := none } }.wr CPWM_STATUS_MODE_NOW 0).wr CPWM_CTL_MODE 0

/-- The cell's operating state is `x`. -/
def Cell.enter (x : CellSt) (d : Cell) : Cell :=
  { (d.wr CBYP_STATUS_FIRED (b2n (x = .bypassFired))) with sw := { d.sw with st := x } }

/-- CELL_STATE as reported: STARTING while in local mode (R295). -/
def Cell.reported (d : Cell) : Nat := if d.localMode then 0 else d.sw.st.code

/-- A register write acts: the cell runs, and its deadbolt latch is not set (14_faults.md R464). -/
def Cell.takes (d : Cell) (f : Cell → Cell) : Cell := if d.pow = .run && !d.is CFLT_STATUS_DEADBOLT then f d else d

/-- The fire pulses of BYPASS_FIRED end; those of a bolt sequence go on (R292, R294). -/
def Cell.stopFire (d : Cell) : Cell := if d.sw.st = .bolted then d else { d with trip := { d.trip with firing := false } }

/-- One 20 µs pulse on BYP_FIRE. -/
def Cell.firePulse (d : Cell) : Cell := (d.sat CBYP_CNT_PULSES).emit (.pin "BYP_FIRE" 1)

/-- The coil is energised for 30 ms. -/
def Cell.coilOn (d : Cell) : Cell :=
  { d with trip := { d.trip with coil := true, coils := d.trip.coils + 1 } }.emit (.pin "BYP_CLOSE" 1)

/-- The bolt sequence (R291). -/
def Cell.bolt (c : CellId) (cause : Nat) (d : Cell) : Cell :=
  if d.sw.st = .bolted then d
  else
    let d := { d with ret := { d.ret with bolt0 := true, bolt1 := true, bolt2 := true } }
    let d := (((d.enter .bolted).endLocal.wr CBYP_STATUS_BOLTED 1).wr CBYP_STATUS_CAUSE cause).softOff
    let d := { d with trip := { d.trip with firing := true, coils := 0 } }
    let d := d.firePulse.coilOn
    d.raiseRec c (d.errorRec 0x8301 .alarm cause 0)

/-- The trips of the last 1,000 ms, the present one included (R288) (log entry 23, DEDUCED). -/
def Cell.countTrip (d : Cell) : Cell :=
  let w := d.trip.window.filter (fun t => d.trip.ms < t + 1000) ++ [d.trip.ms]
  { d with trip := { d.trip with window := w } }.wr CTRP_STATUS_WINDOW (min w.length 255)

/-- The cell enters TRIP_BLOCKED with soft turn-off (R285) (log entry 23, DEDUCED). -/
def Cell.tripBlock (d : Cell) : Cell :=
  let d := ((d.enter .tripBlocked).endLocal.softOff).sat CTRP_CNT_TRIPS
  { (d.wr CTRP_STATUS_CLEAR_PEND 0) with trip := { d.trip with quiet := d.trip.ms } }

/-- A DEADBOLT-class fault of a cell (14_faults.md R463, R464; Table 8.5): the latch is set, and any state but BOLTED is left for
TRIP_BLOCKED. The entry is counted in WINDOW and does not start the bolt sequence (log entry 23, DEDUCED). -/
def Cell.deadbolt (c : CellId) (code : Nat) (d : Cell) : Cell :=
  let d := (d.wr CFLT_STATUS_DEADBOLT 1).raiseRec c (d.errorRec code .deadbolt 0 0)
  if d.sw.st = .bolted then d
  else if d.sw.st = .tripBlocked then d.softOff
  else d.stopFire.countTrip.tripBlock

/-- A fault of a cell without a reaction of its own. -/
def Cell.raise (c : CellId) (code : Nat) (cls : FaultClass) (cause : Nat := 0) (detail : Nat := 0) (d : Cell) : Cell :=
  if cls = .deadbolt then d.deadbolt c code else d.raiseRec c (d.errorRec code cls cause detail)

/-- The records of class TRIP close when the cell re-arms (Table 14.1, R287); `wake`: every record ends with the core domain. -/
def Cell.closeRecs (p : FaultRec → Bool) (d : Cell) : Cell :=
  let log := d.ret.log.map fun x => (x.1, x.2.map fun e => if p e.r then { e with r := { e.r with isOpen := false } } else e)
  { d with ret := { d.ret with log := log } }.fltRefresh

/-- Enabled trip inputs that are active. -/
def Cell.tripActive (d : Cell) : Bool := Nat.land (d.rd CTRP_STATUS_LEVEL) (d.rd CTRP_CFG_EN) ≠ 0

/-- The start-up conditions of R346 and Table 8.5. -/
def Cell.startReady (d : Cell) : Bool :=
  d.sw.laneMarked && d.is CADC_STATUS_CAL_OK && d.rd CPWM_STATUS_TYPE ≠ 0 && d.is CBYP_CFG_LOCK && !d.localMode &&
    (d.ident.variant ≠ 1 || !d.is CDSM_CTL_EN || d.is CDSM_STATUS_SETTLED)

/-- STARTING is left for READY when its conditions hold. -/
def Cell.judgeStart (d : Cell) : Cell := if d.sw.st = .starting && d.startReady then { (d.enter .ready) with sw := { (d.enter .ready).sw with started := true } } else d

end Sys2Proof.Machine
end

