-- ==== Sys2Proof/Machine/HostOps.lean ====
section
/-! DEFINITION. The journal, the accepted commands and their completions (12_host_interface_and_handles.md), as operations that every
command class uses. -/

namespace Sys2Proof.Machine
open Reg

/-- Completion status codes (12_host_interface_and_handles.md Table 12.5). -/
def stDONE : Nat := 1
def stLIMITED : Nat := 2
def stREFUSED_STATE : Nat := 3
def stREFUSED_HASP : Nat := 4
def stREFUSED_AUX : Nat := 5
def stREFUSED_TARGET_LOCKED : Nat := 6
def stABSENT : Nat := 7
def stINVALID : Nat := 8
def stTIMEOUT : Nat := 9
def stABORTED_FAULT : Nat := 10
def stINCOMPLETE : Nat := 11

/-! ## The journal (R408, R409) -/

/-- A record that stays: of a command not yet acknowledged, or of the newest ACCEPT or SKIP (R409). -/
def Hnd.isLive (h : Hnd) (i : Nat) (r : JRec) : Bool :=
  (r.handle ≠ 0 && h.cmds.any (·.handle = r.handle)) ||
  (match h.newest with
   | some (j, hd) => i = j || (hd ≠ 0 && r.handle = hd && (r.kind = 1 || r.kind = 6))
   | none => false)

/-- The number of live records. -/
def Hnd.live (h : Hnd) : Nat := (h.journal.filter fun p => h.isLive p.1 p.2).length

/-- The first index from `i` on, around the ring of 65,536, that holds no live record. -/
def Hnd.freeSlot (h : Hnd) (i : Nat) : Nat → Nat
  | 0 => i % 65536
  | n + 1 => if h.journal.any (fun p => p.1 = i % 65536 && h.isLive p.1 p.2) then Hnd.freeSlot h (i + 1) n else i % 65536

/-- An empty record: what an unlisted index reads as. -/
def JRec.empty : JRec := ⟨0, 0, 0, 0, 0, 0, 0, 0, 0⟩

/-- Write a record into the buffer, and into the MRAM while its writes succeed (R403, log entry 9, DESIGN CHOICE). -/
def Leaf.jwrite (d : Leaf) (r : JRec) : Leaf :=
  let h := d.hnd
  let i := h.freeSlot h.jnext (h.live + 1)
  let h := { h with journal := SMap.put JRec.empty h.journal i r, jnext := (i + 1) % 65536,
                    mram := if h.mramBad then h.mram else SMap.put JRec.empty h.mram i r,
                    newest := if r.kind = 1 || r.kind = 2 then some (i, r.handle) else h.newest }
  { d with hnd := h }.wr HND_JRNL_LIVE h.live

/-! ## Accepted commands -/

/-- Bits [hi:lo] of the parameters, as R606 packs them. -/
def Cmd.par (c : Cmd) (lo w : Nat) : Nat := c.params / 2 ^ lo % 2 ^ w

/-- Log entry 13, DEDUCED. -/
def Leaf.cmd (d : Leaf) (h : Handle) : Option Cmd := d.hnd.cmds.find? (·.handle = h)

/-- The commands with the one of handle `h` changed. -/
def Leaf.modCmd (d : Leaf) (h : Handle) (f : Cmd → Cmd) : Leaf :=
  { d with hnd := { d.hnd with cmds := d.hnd.cmds.map fun c => if c.handle = h then f c else c } }

/-- Every command of the class accepted before `h` has taken effect or completed (R417). -/
def Leaf.turn (d : Leaf) (h : Handle) (cls : Nat) : Bool :=
  (d.hnd.cmds.takeWhile (·.handle ≠ h)).all fun c => c.cls ≠ cls || c.effective

/-- The effect of the command was announced for a boundary that has come (R412) (log entry 13, DEDUCED). -/
def Cmd.due (c : Cmd) (cyc : Nat) : Bool :=
  match c.ann with
  | some b => b ≤ cyc
  | none => false

/-- The completion of a command is decided on the active leaf (R400): it takes the next CSEQ, and its COMPLETE record is journaled and
mirrored. A leaf that is not active keeps what it would have answered (R419). -/
def Leaf.complete (d : Leaf) (h : Handle) (status : Nat) (result : Nat := 0) (detail : Nat := 0) : Leaf :=
  match d.cmd h with
  | none => d
  | some c =>
    if c.decided then d
    else if !d.active then d.modCmd h fun c => { c with effective := true, own := some (status, result % 2 ^ 32, detail % 2 ^ 32) }
    else
      let q := d.hnd.cseq
      let d := d.modCmd h fun c => { c with effective := true, decided := true }
      let d := { d with hnd := { d.hnd with cseq := q + 1,
                                            compl := d.hnd.compl ++ [Compl.mk h q status (result % 2 ^ 32) (detail % 2 ^ 32) (d.tim.cyc % 65536)] } }
      let r := { JRec.empty with kind := 4, cycle := d.tim.cyc % 65536, handle := h, tagOrCseq := q % 2 ^ 32,
                                 crcOrStatus := q / 2 ^ 32 * 65536 + status * 256, result := result % 2 ^ 32, detail := detail % 2 ^ 32 }
      (d.jwrite r).mirror (.journal [r])

/-- The command takes effect: START is journaled before the first effect (Table 12.6); the active leaf mirrors it. -/
def Leaf.startCmd (d : Leaf) (h : Handle) : Leaf :=
  let r := { JRec.empty with kind := 3, cycle := d.tim.cyc % 65536, handle := h }
  let d := (d.modCmd h fun c => { c with effective := true }).jwrite r
  if d.active then d.mirror (.journal [r]) else d

/-- A command of a class whose effect lies inside the pair takes effect at its turn and boundary (R412, R417); in DEADBOLTED it
completes REFUSED_STATE (R406). Nothing happens while it is not accepted, not of this opcode, or not due. -/
def Leaf.runCmd (d : Leaf) (h : Handle) (cls op : Nat) (f : Cmd → Leaf → Leaf) : Leaf :=
  match d.cmd h with
  | none => d
  | some c =>
    if c.cls = cls && c.op = op && !c.effective && d.turn h cls && c.due d.tim.cyc then
      if d.conv.st = .deadbolted then d.complete h stREFUSED_STATE else f c (d.startCmd h)
    else d

/-- A command whose effect lies outside the pair, or that only reads, takes effect at its turn (R413, R417); `inBolt`: R406 admits it
in DEADBOLTED. -/
def Leaf.runOuter (d : Leaf) (h : Handle) (cls op : Nat) (inBolt : Bool) (f : Cmd → Leaf → Leaf) : Leaf :=
  match d.cmd h with
  | none => d
  | some c =>
    if c.cls = cls && c.op = op && !c.effective && d.turn h cls && d.active then
      if d.conv.st = .deadbolted && !inBolt then d.complete h stREFUSED_STATE else f c (d.startCmd h)
    else d

/-- An opcode of a class (Tables 12.9, 12.9a, 12.10, 13.10, 11.5 and the tables of the other classes' chapters). -/
def opcodeOk (cls op : Nat) : Bool :=
  match cls with
  | 1 => 1 ≤ op && op ≤ 4
  | 2 => 1 ≤ op && op ≤ 5
  | 3 => 1 ≤ op && op ≤ 5
  | 4 => 1 ≤ op && op ≤ 12
  | 5 => 1 ≤ op && op ≤ 5
  | 6 => op = 1 || op = 2 || op = 0x30
  | 7 => op = 1
  | 8 => 1 ≤ op && op ≤ 3
  | _ => false

end Sys2Proof.Machine
end

