-- ==== Sys2Proof/Machine/Commit.lean ====
section
/-! DEFINITION. Commit groups (03_control_cycle.md R96, R117 to R124), the time group (02_clocks_and_time.md R66 to R74) and the timing
budget (R97). -/

namespace Sys2Proof.Machine
open Reg

/-- A tile of a leaf (05_control_fabric.md). -/
def Leaf.tile (d : Leaf) (t : Nat) : TileSt := SMap.get {} d.tiles t
def Leaf.setTile (d : Leaf) (t : Nat) (x : TileSt) : Leaf := { d with tiles := SMap.put {} d.tiles t x }

/-! ## The groups -/

/-- The RWC fields of the cycle group, group 0 (R117). -/
def cycleGroup : List (Fld × Nat) :=
  [(CYC_PERIOD_PERIOD, 0), (CYC_SAMPLE_OFS_VALUE, 0), (CYC_UPL_DL_VALUE, 0), (CYC_PUB_DL_VALUE, 0), (CYC_SEL_ALLOW_VALUE, 0)]

/-- The RWC fields of the time group, group 1 (02_clocks_and_time.md R89). -/
def timeGroup : List (Fld × Nat) :=
  [(TIM_RATE_VALUE, 0), (TIM_ADJ_LO_VALUE, 0), (TIM_ADJ_HI_VALUE, 0), (TIM_LOAD0_VALUE, 0), (TIM_LOAD1_VALUE, 0), (TIM_LOAD2_VALUE, 0),
   (TIM_CTL_OP, 0)]

/-- The RWC fields of an arm's tumbler (04_tumblers_and_arm_modulation.md). -/
def tumFields : List Fld :=
  [TUM_POLICY_MAX_SWAP, TUM_POLICY_F_DEAD, TUM_POLICY_THERM_EN, TUM_POLICY_FRAC_ROTATE, TUM_HYST_HYST, TUM_BUDGET_DEPTH, TUM_BUDGET_RATE,
   TUM_THERM_T0, TUM_THERM_GAIN, TUM_ISIGN_I_DB, TUM_XCHK_PERSIST, TUM_XCHK_BAND, TUM_CMIN_C_MIN, TUM_SPARE_WARN]

/-- The RWC fields of a model-watch unit (05_control_fabric.md). -/
def mwFields : List Fld := [FAB_MWu_CTL_LEAK, FAB_MWu_CTL_TRIP_P, FAB_MWu_CTL_ALARM_P, FAB_MWu_ALARM_BAND, FAB_MWu_TRIP_BAND]

/-- The members of a list with their places. -/
def indexed {α : Type} (l : List α) : List (α × Nat) := l.zip (List.range l.length)

/-- The RWC fields of group `g` (R117; 06_keying_image.md Tables 6.8, 6.9). -/
def Leaf.groupFields (d : Leaf) (g : Nat) : List (Fld × Nat) :=
  if g = 0 then cycleGroup
  else if g = 1 then timeGroup
  else match d.key.active with
    | none => []
    | some im =>
      (indexed im.pols).flatMap (fun p => if p.1.group = g then tumFields.map (·, p.2) else []) ++
      (indexed im.prot.mw).flatMap (fun p => if p.1.group = g then mwFields.map (·, p.2) else [])

/-- The tiles whose coefficient page belongs to group `g` (Table 6.7). -/
def Leaf.groupTiles (d : Leaf) (g : Nat) : List Nat :=
  match d.key.active with
  | none => []
  | some im => (im.coefs.filter fun c => c.group = g && 2 ≤ g).map (·.tile)

/-- A group is declared: 0 and 1, and those COMMIT_GROUPS lists (R218). -/
def Leaf.groupDeclared (d : Leaf) (g : Nat) : Bool :=
  g < 2 || (match d.key.active with | some im => im.groups.any (·.group = g) | none => false)

/-- From the start of a LOAD until the next swap or DISCARD a coefficient-page group may not be committed (06_keying_image.md R222). -/
def Leaf.loadHolds (d : Leaf) : Bool := d.key.load.isSome || d.key.staged.isSome || d.rd KEY_STATUS_SHD_STATE ≠ 0

/-- The groups a mask names, ascending. -/
def maskGroups (m : Nat) : List Nat := (List.range 32).filter (bitOf m)

/-! ## The terms of R96 -/

/-- The largest delays of the UP links, in 1/16 ns: the up path and the downstream D, uplink and cell link together (R96) (log entry 14, DEDUCED). -/
structure Delays where
  up : Nat
  down : Nat
  /-- The map tags of the pages of each concentrator (06_keying_image.md R230). -/
  tags : List (Nat × Nat × Nat) := []
  deriving DecidableEq, Repr

/-- The applied D of a lane of a concentrator. -/
def Concentrator.laneD (c : Concentrator) (base : Nat) : Nat := c.rd (XX_DELAY_D.at base)
def Concentrator.laneAt (c : Concentrator) (base : Nat) : Bool := c.rd (XX_STATE_STATE.at base) = 7

/-- The largest up-path delay and D of the UP cell lanes of a concentrator (log entry 14, DEDUCED). -/
def Concentrator.cellDelays (c : Concentrator) : Nat × Nat :=
  (List.range 256).foldl (fun a p =>
    if c.laneAt (0x4000 + 64 * p) then (max a.1 (SMap.get {} c.meas p).up, max a.2 (c.laneD (0x4000 + 64 * p))) else a) (0, 0)

/-- The delays of R96 for one leaf: over the concentrators whose uplink to it, or to its partner, is UP. The delays of the cell lanes
are those the concentrators measure (log entry 14, DEDUCED). -/
def Leaf.delays (d p : Leaf) (concs : SMap Concentrator) : Delays :=
  concs.foldl (fun a e =>
    let n := e.1
    let c := e.2.cellDelays
    let upOf (x : Leaf) := if x.uplinkUp n then (SMap.get {} x.tim.meas n).up else 0
    let dn := if d.uplinkUp n then d.rd (XX_DELAY_D.at (0x220000 + 1024 * n)) else 0
    if d.uplinkUp n || p.uplinkUp n then
      { a with up := max a.up (max (upOf d) (upOf p) + c.1), down := max a.down (dn + c.2) } else a)
    { up := 0, down := 0, tags := concs.map fun e => (e.1, e.2.rd AUPL_TAG0_TAG, e.2.rd AUPL_TAG1_TAG) }

/-- The declared positions of the largest arm (R96). -/
def Leaf.largestArm (d : Leaf) : Nat := match d.key.active with | some im => im.arms.foldl (fun a r => max a r.cells) 0 | none => 0
/-- Log entry 14, DEDUCED. -/
def Leaf.critPath (d : Leaf) : Nat := match d.key.active with | some im => im.critPath | none => 0

/-- The selection and compute terms of R96, in FCLK cycles. CYC_PERIOD counts in 80 FCLK cycles (R92). -/
def orderOk (period ofs upl pub sel arm crit : Nat) : Bool :=
  (arm + 7) / 8 + 64 ≤ sel && ofs + upl + crit + sel ≤ period * 80 + pub

/-- The margins of the up-path and down-path terms of R96, in 1/16 ns (20 per FCLK cycle), with the totals of Table 3.2 (R94, R95). -/
def marginUp (upl : Nat) (x : Delays) : Int := (upl * 20 : Nat) - (855 * 16 + x.up : Nat)
def marginDown (period pub : Nat) (x : Delays) : Int := (period * 80 * 20 : Nat) - (pub * 20 + 361 * 16 + x.down : Nat)

/-- The reason the check of a group gives, in the order UNDECLARED, RANGE, MOVING, ORDER, BUDGET; 0 when it passes (R96, R120, R122,
05_control_fabric.md R171) (log entry 14, DEDUCED). -/
def Leaf.groupCheck (d : Leaf) (x : Delays) (st : Stage) (g : Nat) : Nat :=
  if !d.groupDeclared g || (d.loadHolds && !(d.groupTiles g).isEmpty) then 5
  else if g = 0 then
    let v (f : Fld) := bankRd st.shadow f 0
    let per := v CYC_PERIOD_PERIOD
    if per < 16 || 200 < per || per * 80 ≤ v CYC_SAMPLE_OFS_VALUE then 1
    else if per ≠ d.rd CYC_PERIOD_PERIOD && d.moving then 4
    else if !orderOk per (v CYC_SAMPLE_OFS_VALUE) (v CYC_UPL_DL_VALUE) (v CYC_PUB_DL_VALUE) (v CYC_SEL_ALLOW_VALUE) d.largestArm d.critPath ||
        d.tiles.any (fun t => t.2.used && per * 80 * 85 / 100 < d.rd TILE_LIST_WCET t.1) then 2
    else if marginUp (v CYC_UPL_DL_VALUE) x < 0 || marginDown per (v CYC_PUB_DL_VALUE) x < 0 then 3
    else 0
  else 0

/-! ## The time group -/

/-- A new rate is applied: clamped, with the correction that keeps station time from stepping (02_clocks_and_time.md R67, R70). -/
def Leaf.applyRate (new : Int) (d : Leaf) : Leaf :=
  let lim : Int := d.rd TIM_RATE_LIM_VALUE
  let r := if lim < new then lim else if new < -lim then -lim else new
  let d := if r = new then d else d.wr TIM_STATUS_RATE_CLAMPED 1
  let ofs := d.tim.ofs + Int.fdiv ((d.tim.c * 81920 : Nat) * (d.rate - r)) (2 ^ 40 : Nat)
  { d with tim := { d.tim with ofs := ofs } }.wr TIM_RATE_VALUE (pat 32 r)

/-- The trigger outputs of the armed triggers whose time has come (R73, R74). -/
def Leaf.fireDue (d : Leaf) : Leaf :=
  let due := d.tim.armed.filter fun a => a.2 ≤ d.now
  due.foldl (fun d a => d.emit (.trigger a.1)) { d with tim := { d.tim with armed := d.tim.armed.filter fun a => d.now < a.2 } }

/-- The offset action of the applied OP (R68, R69, R72, R74, R77). -/
def Leaf.applyOfs (d : Leaf) : Leaf :=
  let op := d.rd TIM_CTL_OP
  let adj := sext 64 (d.rd TIM_ADJ_LO_VALUE + 2 ^ 32 * d.rd TIM_ADJ_HI_VALUE)
  let load := d.rd TIM_LOAD0_VALUE + 2 ^ 32 * d.rd TIM_LOAD1_VALUE + 2 ^ 64 * d.rd TIM_LOAD2_VALUE
  if op = 1 then
    if d.moving && adj ≠ 0 then d.wr TIM_STATUS_OFS_REFUSED 1
    else { d with tim := { d.tim with ofs := d.tim.ofs + adj, rephase := d.tim.rephase || adj ≠ 0 } }.fireDue
  else if op = 2 then
    if d.moving || !ts96Valid load then
      let d := if d.moving then d.wr TIM_STATUS_OFS_REFUSED 1 else d
      if ts96Valid load then d else d.wr TIM_STATUS_BAD_TS 1
    else
      ({ d with tim := { d.tim with ofs := ofTs96 load - linearAt d.tim.c d.rate, rephase := true } }.wr TIM_STATUS_UNSET 0).fireDue
  else d

/-- The time group takes effect: the rate, then the offset action, after which OP returns to NONE, and its shadow too where it still
holds the value copied (R66 to R69). Sticky timebase flags fire vector 8. -/
def Leaf.applyTime (st : Stage) (d : Leaf) : Leaf :=
  let d0 := d
  let d := timeGroup.foldl (fun d f => if f.1.off = TIM_RATE_VALUE.off then d else d.wr f.1 (bankRd st.shadow f.1 f.2) f.2) d
  let d := d.applyRate (sext 32 (bankRd st.shadow TIM_RATE_VALUE 0))
  let d := d.applyOfs.wr TIM_CTL_OP 0
  let d := if d.rdShadow TIM_CTL_OP = bankRd st.shadow TIM_CTL_OP 0 then d.wrShadow TIM_CTL_OP 0 else d
  if d.rd TIM_STATUS_OFS_REFUSED = d0.rd TIM_STATUS_OFS_REFUSED && d.rd TIM_STATUS_BAD_TS = d0.rd TIM_STATUS_BAD_TS &&
    d.rd TIM_STATUS_RATE_CLAMPED = d0.rd TIM_STATUS_RATE_CLAMPED then d else d.msix 8

/-! ## CYC_COMMIT, CYC_DISCARD and the boundary -/

/-- The shadow bank with only the fields of the named groups. -/
def Leaf.copyShadows (d : Leaf) (m : Nat) : SMap Nat :=
  ((maskGroups m).flatMap d.groupFields).foldl (fun b f => bankWr b f.1 (d.rdShadow f.1 f.2) f.2) []

/-- CYC_COMMIT_PEND shows every group of a pending stage. -/
def Leaf.showPend (d : Leaf) : Leaf := d.wr CYC_COMMIT_PEND_GROUPS (d.cyc.stages.foldl (fun a st => Nat.lor a st.mask) 0)

/-- A group is no longer open (R123). -/
def Leaf.closeGroups (d : Leaf) (m : Nat) : Leaf := { d with cyc := { d.cyc with opened := d.cyc.opened.filter fun o => !bitOf m o.1 } }

/-- The stage of a commit of mask `m` made now (R118) (log entry 54, DEDUCED). -/
def Leaf.stageOf (d : Leaf) (m : Nat) : Stage where
  mask := m
  at_ := d.tim.c
  shadow := d.copyShadows m
  coefs := ((maskGroups m).flatMap d.groupTiles).foldl (fun b t => SMap.put [] b t (d.tile t).coefShadow) []

/-- A stage enters the pending stages; a group it names leaves the older ones (R121) (log entry 54, DEDUCED). -/
def Leaf.addStage (st : Stage) (d : Leaf) : Leaf :=
  let old := (d.cyc.stages.map fun o => { o with mask := o.mask - Nat.land o.mask st.mask }).filter (·.mask ≠ 0)
  { d with cyc := { d.cyc with stages := old ++ [st] } }.showPend

/-- A write to CYC_COMMIT (R118, R121, R123, R124): on a leaf that is not active it is ignored (log entry 54, DEDUCED). -/
def Leaf.cycCommit (mask : Word) (d : Leaf) : Leaf :=
  if !d.writable then d
  else if !d.active then d.wr CYC_STATUS_STBY_WRITE 1
  else if mask.toNat = 0 then d
  else
    let st := d.stageOf mask.toNat
    ((d.addStage st).closeGroups mask.toNat).mirror (.commit st.mask st.at_ st.shadow st.coefs)

def execCycCommit (l : LeafId) (mask : Word) (s : State) : Host.Outcome State Fault Refusal := onLeaf l s (Leaf.cycCommit mask)

/-- A refused commit or discard leaves its record (R120, R123). -/
def Leaf.commitErr (g reason : Nat) (d : Leaf) : Leaf :=
  (((d.wr CYC_COMMIT_ERR_VALID 1).wr CYC_COMMIT_ERR_REASON reason).wr CYC_COMMIT_ERR_GROUP g).wr CYC_STATUS_COMMIT_REFUSED 1

/-- The applied values of a group go back into its shadows (R123). -/
def Leaf.discardGroup (d : Leaf) (g : Nat) : Leaf :=
  let d := (d.groupFields g).foldl (fun d f => d.wrShadow f.1 (d.rd f.1 f.2) f.2) d
  (d.groupTiles g).foldl (fun d t => d.setTile t { d.tile t with coefShadow := (d.tile t).coef }) d

/-- A write to CYC_DISCARD (R123, R124). -/
def Leaf.cycDiscard (mask : Word) (d : Leaf) : Leaf :=
  if !d.writable then d
  else if !d.active then d.wr CYC_STATUS_STBY_WRITE 1
  else
    let gs := maskGroups mask.toNat
    let good := gs.filter d.groupDeclared
    let d' := (good.foldl Leaf.discardGroup d).closeGroups (good.foldl (fun a g => a + 2 ^ g) 0)
    match gs.find? (fun g => !d.groupDeclared g) with
    | some g => d'.commitErr g 5
    | none => d'

def execCycDiscard (l : LeafId) (mask : Word) (s : State) : Host.Outcome State Fault Refusal := onLeaf l s (Leaf.cycDiscard mask)

/-- One group of a stage takes effect (R119); the active leaf writes AUPL_CFG at each applied cycle group (10_flenor_links.md Table 10.13). -/
def Leaf.applyGroup (st : Stage) (d : Leaf) (g : Nat) : Leaf :=
  if g = 1 then d.applyTime st
  else
    let d := (d.groupFields g).foldl (fun d f => d.wr f.1 (bankRd st.shadow f.1 f.2) f.2) d
    let d := (d.groupTiles g).foldl (fun d t => d.setTile t { d.tile t with coef := SMap.get [] st.coefs t }) d
    if g = 0 && d.active then (List.range 48).foldl (fun d n => if d.uplinkUp n then d.concWrite n 0x480 (d.rd CYC_PUB_DL_VALUE) 0x3FFF else d) d
    else d

/-- The oldest stage that is due, at least 80 FCLK cycles after its write, is checked and applied whole, or refused whole (R119,
R120). -/
def Leaf.commitApply (x : Delays) (d : Leaf) : Leaf :=
  match d.cyc.stages with
  | [] => d
  | st :: rest =>
    if d.tim.c < st.at_ + 80 then d
    else
      let d := { d with cyc := { d.cyc with stages := rest } }.showPend
      match (maskGroups st.mask).find? (fun g => d.groupCheck x st g ≠ 0) with
      | some g => d.commitErr g (d.groupCheck x st g)
      | none => (maskGroups st.mask).foldl (Leaf.applyGroup st) d

def execCommitApply (l : LeafId) (s : State) : Host.Outcome State Fault Refusal :=
  onLeaf l s (Leaf.commitApply ((s.leaf l).delays (s.leaf l.other) s.concs))

/-- A group open for more than 1,000 cycles sets its bit and raises one NOTE (R123) (log entry 6, DESIGN CHOICE). -/
def Leaf.groupOpenTimeout (g : Nat) (d : Leaf) : Leaf :=
  match d.cyc.opened.find? (·.1 = g) with
  | some o =>
    if o.2 + 1000 < d.tim.cyc && !bitOf (d.rd CYC_GROUP_OPEN_GROUPS) g then
      (d.wr CYC_GROUP_OPEN_GROUPS (setBit (d.rd CYC_GROUP_OPEN_GROUPS) g true)).raise 0x0207 .note g
    else d
  | none => d

def execGroupOpenTimeout (l : LeafId) (g : Nat) (s : State) : Host.Outcome State Fault Refusal := onLeaf l s (Leaf.groupOpenTimeout g)

/-- A margin as the slack registers show it: signed, 16 bits, in 1/16 ns. -/
def slackPat (m : Int) : Nat := pat 16 (if 32767 < m then 32767 else if m < -32768 then -32768 else m)

/-- Every 1,024 cycles the terms of R96 are evaluated with the applied values (R97). -/
def Leaf.budgetCheck (x : Delays) (d : Leaf) : Leaf :=
  let per := d.rd CYC_PERIOD_PERIOD
  let up := marginUp (d.rd CYC_UPL_DL_VALUE) x
  let dn := marginDown per (d.rd CYC_PUB_DL_VALUE) x
  let bad := up < 0 || dn < 0 || per * 80 ≤ d.rd CYC_SAMPLE_OFS_VALUE ||
    !orderOk per (d.rd CYC_SAMPLE_OFS_VALUE) (d.rd CYC_UPL_DL_VALUE) (d.rd CYC_PUB_DL_VALUE) (d.rd CYC_SEL_ALLOW_VALUE) d.largestArm d.critPath
  let d := ((d.wr CYC_SLACK_UP_MIN (slackPat up)).wr CYC_SLACK_DN_MIN (slackPat dn)).wr CYC_STATUS_BUDGET (b2n bad)
  if bad then d.raise 0x0204 .alarm else d

def execBudgetCheck (l : LeafId) (s : State) : Host.Outcome State Fault Refusal :=
  onLeaf l s (Leaf.budgetCheck ((s.leaf l).delays (s.leaf l.other) s.concs))

end Sys2Proof.Machine
end

