-- ==== Sys2Proof/Machine/Flags.lean ====
section
/-! DEFINITION. The arithmetic of the control fabric (05_control_fabric.md R174 to R177, R182): exact results, shifts, rounding and
saturation, with the flag each may set. -/

namespace Sys2Proof.Machine

/-- A value saturated to 32 bits, and whether it saturated (R176, SAT). -/
def sat32 (v : Int) : Int × Bool :=
  if 2147483647 < v then (2147483647, true) else if v < -2147483648 then (-2147483648, true) else (v, false)

/-- A value saturated to 64 bits, and whether it saturated (R176, ACC_OVF). -/
def sat64 (v : Int) : Int × Bool :=
  if 9223372036854775807 < v then (9223372036854775807, true)
  else if v < -9223372036854775808 then (-9223372036854775808, true) else (v, false)

/-- Division by a positive number, to nearest, halves toward +∞ (R175). -/
def divNear (v : Int) (d : Nat) : Int := Int.fdiv (2 * v + (d : Int)) (2 * d : Nat)

/-- The shift of R175: multiply by 2^s, or divide by 2^-s to nearest with halves toward +∞. -/
def shiftBy (v s : Int) : Int := if 0 ≤ s then v * (2 ^ s.toNat : Nat) else divNear v (2 ^ (-s).toNat)

/-- A product of R174, shifted and saturated to 64 bits. -/
def mulShift (a b s : Int) : Int × Bool := sat64 (shiftBy (a * b) s)

/-- The quotient of DIV, rounded toward zero; 0 as a divisor gives the values of R177. The flag is DIV_ZERO. -/
def divStep (a b : Int) (q : Nat) : Int × Bool :=
  if b = 0 then (if 0 < a then 2147483647 else if a < 0 then -2147483648 else 0, true)
  else (Int.tdiv (a * (2 ^ q : Nat)) b, false)

/-- The largest root whose square is at most `v`, found bit by bit from bit `n` down. -/
def rootFrom (v : Nat) : Nat → Nat → Nat
  | 0, r => r
  | n + 1, r => if (r + 2 ^ n) * (r + 2 ^ n) ≤ v then rootFrom v n (r + 2 ^ n) else rootFrom v n r

/-- The floor square root of a number below 2^80. -/
def isqrt (v : Nat) : Nat := rootFrom v 40 0

/-- SQRT: a negative operand gives 0 and SQRT_NEG (R177). -/
def sqrtStep (a : Int) (q : Nat) : Int × Bool := if a < 0 then (0, true) else ((isqrt (a.toNat * 2 ^ q) : Nat), false)

/-- The comparison of CMP (Table 5.5); none for the relation codes 6 and 7, whose result the spec does not state (log entry 4, DESIGN CHOICE). -/
def cmpStep (rel : Nat) (a b : Int) : Option Bool :=
  match rel with
  | 0 => some (a = b)
  | 1 => some (a ≠ b)
  | 2 => some (a < b)
  | 3 => some (a ≤ b)
  | 4 => some (b < a)
  | 5 => some (b ≤ a)
  | _ => none

/-- A value moved to the nearest bound of [lo, hi]; `hi` wins when the bounds cross (Table 5.5, LIM). -/
def clampInt (lo hi v : Int) : Int := min (max v lo) hi

/-! ## SINCOS (R182) -/

/-- 2 π in units of 2^-60. -/
def twoPi60 : Nat := 7244019458077122842

/-- The Taylor terms of sine from x^(2i+1)/(2i+1)! on, in units of 2^-60: `t` is the present term, `x2` the square of the angle. -/
def sinTerms (x2 : Int) : Nat → Nat → Int → Int
  | 0, _, t => t
  | n + 1, i, t => t + sinTerms x2 n (i + 1) (-(Int.fdiv (Int.fdiv (t * x2) (2 ^ 60 : Nat)) ((2 * i + 2) * (2 * i + 3) : Nat)))

/-- The sine of an angle of the first quadrant, `r` in 2^-32 turn (0 to 2^30), in units of 2^-30, to nearest. -/
def sinQuad (r : Nat) : Int :=
  let x : Int := (r * twoPi60 / 2 ^ 32 : Nat)
  divNear (sinTerms (Int.fdiv (x * x) (2 ^ 60 : Nat)) 14 0 x) (2 ^ 30)

/-- The sine of an angle in 2^-32 turn, in units of 2^-30. -/
def sinTurn (a : Nat) : Int :=
  let r := a % 2 ^ 30
  match a / 2 ^ 30 % 4 with
  | 0 => sinQuad r
  | 1 => sinQuad (2 ^ 30 - r)
  | 2 => -sinQuad r
  | _ => -sinQuad (2 ^ 30 - r)

/-- SIN and COS of SINCOS: the value to nearest, with the error that ±4 units leave open (R182, log entry 4, DESIGN CHOICE). -/
def sinStep (a : Nat) : Int := sinTurn a + (Config.sincosError (2 * a) % 9 : Nat) - 4
def cosStep (a : Nat) : Int := sinTurn (a + 2 ^ 30) + (Config.sincosError (2 * a + 1) % 9 : Nat) - 4

/-! ## ABC2AB (R182) -/

/-- `v / √3` to nearest: the root of 3 is irrational, so there are no halves. -/
def divRoot3 (v : Int) : Int :=
  let n : Int := ((isqrt (4 * v.natAbs * v.natAbs / 3) + 1) / 2 : Nat)
  if v < 0 then -n else n

end Sys2Proof.Machine
end

