-- ==== Sys2Proof/Machine/Tumbler.lean ====
section
/-! DEFINITION. The tumblers: levels, keys, eligibility, selection, credit and history (04_tumblers_and_arm_modulation.md R126 to R166). -/

namespace Sys2Proof.Machine
open Reg

/-! ## Which cycle an instant belongs to (03_control_cycle.md Table 3.1) -/

/-- P(k) lies in cycle k+1. -/
def Leaf.pubCycle (d : Leaf) : Nat := d.tim.cyc - 1

/-- FD(k) lies CYC_SEL_ALLOW before P(k): in cycle k+1 when the publish deadline leaves room for it, otherwise in cycle k. -/
def Leaf.fdCycle (d : Leaf) : Nat := if d.rd CYC_SEL_ALLOW_VALUE ≤ d.rd CYC_PUB_DL_VALUE then d.tim.cyc - 1 else d.tim.cyc

/-- U(k) lies in cycle k, or in cycle k+1 when the offset and the deadline reach past its end. -/
def Leaf.uplCycle (d : Leaf) : Nat :=
  if d.rd CYC_PERIOD_PERIOD * 80 ≤ d.rd CYC_SAMPLE_OFS_VALUE + d.rd CYC_UPL_DL_VALUE then d.tim.cyc - 1 else d.tim.cyc

/-- The length of a cycle in FCLK cycles, its slip included (02_clocks_and_time.md R75). -/
def Leaf.cycLen (d : Leaf) (k : Nat) : Int :=
  (d.rd CYC_PERIOD_PERIOD * 80 : Nat) + (match d.tim.slips.find? (·.1 = k) with | some s => s.2 | none => 0)

/-- Every used tile has finished, or skipped, its list of cycle `k`. -/
def Leaf.tilesDone (d : Leaf) (k : Nat) : Bool :=
  d.tiles.all fun t => !t.2.used || reached t.2.lastDone k

/-! ## The control half (R131, R132) -/

/-- A control-half field as the tumbler's private copy holds it (R132). -/
def Leaf.ctCopy (d : Leaf) (f : Fld) (slot : Nat) : Nat :=
  match SMap.get none d.cyc.ctOld (f.key slot) with
  | some v => v
  | none => d.rd f slot

/-- A write to a control-half field: the copy keeps the old value until the next boundary (R132). -/
def Leaf.ctWrite (d : Leaf) (f : Fld) (slot v : Nat) : Leaf :=
  let old := match SMap.get none d.cyc.ctOld (f.key slot) with | some o => o | none => d.rd f slot
  { d with cyc := { d.cyc with ctOld := SMap.put none d.cyc.ctOld (f.key slot) (some old) } }.wr f v slot

/-- The positions of an arm that the port map assigns, with their slots. -/
def Leaf.mapped (d : Leaf) (a : Nat) : List (Nat × Nat) :=
  match d.key.active with
  | some im => (im.ports.filter fun e => im.armOf e.conc = some a).map fun e => (e.pos, a * 2048 + e.pos)
  | none => []

/-- A slot is mapped by the active image, within the variant's limit. -/
def Leaf.slotMapped (d : Leaf) (slot : Nat) : Bool := (d.mapped (slot / 2048)).any (·.2 = slot)

def Leaf.tumOf (d : Leaf) (a : Nat) : Tum := SMap.get {} d.tum a
def Leaf.setTum (d : Leaf) (a : Nat) (t : Tum) : Leaf := { d with tum := SMap.put {} d.tum a t }

/-- A cell is eligible for a selection (R134). -/
def Leaf.eligible (d : Leaf) (slot : Nat) : Bool :=
  d.rd CT_SLOT_STATE slot = 3 && d.rd CT_CELL_STATE slot = 1 && d.rd CT_OV_HARD slot = 0 && d.rd CT_DESAT slot = 0 && d.ctCopy CT_EXCL slot = 0

/-! ## The level (R126, R127) -/

/-- Polarity, whole count and fractional code of a level: the sign, m and F'. -/
structure Level where
  neg : Bool
  m : Nat
  f : Nat
  deriving DecidableEq, Repr

/-- The level of N (signed) and F (R126). -/
def levelOf (n : Int) (f : Nat) : Level :=
  if 0 ≤ n then ⟨false, n.toNat, f⟩
  else if f = 0 then ⟨true, (-n).toNat, 0⟩
  else ⟨true, (-n - 1).toNat, 4096 - f⟩

/-- The dead band of R127. -/
def Level.dead (fd : Nat) (x : Level) : Level :=
  if fd = 0 then x
  else if x.f < fd then { x with f := 0 }
  else if 4096 - fd ≤ x.f then { x with m := x.m + 1, f := 0 }
  else x

/-! ## Keys (R141, R142, R145, R147) -/

/-- Rounding to the nearest unit, halves away from zero. -/
def roundAway (num : Int) (den : Nat) : Int :=
  if 0 ≤ num then (2 * num + den) / (2 * den : Nat) else -((2 * -num + den) / (2 * den : Nat))

/-- The factor s of a command, in 1/4,096. -/
def cmdSign (cmd f : Nat) : Int :=
  match cmd with
  | 2 => 4096
  | 3 => -4096
  | 4 => f
  | 5 => -(f : Int)
  | _ => 0

/-- A value saturated to a signed range of `w` bits. -/
def satTo (w : Nat) (v : Int) : Int :=
  let m : Int := (2 ^ (w - 1) : Nat)
  if m - 1 < v then m - 1 else if v < -m then -m else v

/-- KEY of a cell for the selection of cycle `k`, in 1/64 V (R141, R142). -/
def Leaf.cellKey (d : Leaf) (a slot k : Nat) : Int :=
  let iarm := sext 32 (d.rd TUM_IN_IARM_IARM a)
  let c := max (d.ctCopy CT_C_EST slot) (d.rd TUM_CMIN_C_MIN a)
  let tau := cmdSign (d.rd CT_CMD_PREV slot) (d.rd CT_F_PREV slot) * (d.cycLen k - (d.rd CYC_SAMPLE_OFS_VALUE : Nat)) +
    cmdSign (d.rd CT_CMD_LAST slot) (d.rd CT_F_LAST slot) * d.cycLen (k + 1)
  let term := if c = 0 then 0 else roundAway (iarm * tau) (200 * c * 4096)
  satTo 24 ((16 * d.rd CT_VCAP slot : Nat) + term)

/-- The penalty of R147; 0 with THERM_EN = 0. -/
def Leaf.penalty (d : Leaf) (a slot : Nat) : Int :=
  if d.is TUM_POLICY_THERM_EN a then
    (d.rd TUM_THERM_GAIN a : Nat) * max 0 (sext 8 (d.rd CT_TEMP slot) - sext 8 (d.rd TUM_THERM_T0 a))
  else 0

/-! ## Selection (R146 to R154) -/

/-- A cell in a selection. `eff` is its effective key counted so that a lower value ranks better. -/
structure Cand where
  pos : Nat
  eff : Int
  credit : Bool
  credit2 : Bool
  cmd : Nat
  deriving DecidableEq, Repr

/-- The ranking of R148: the lower position ranks better of two equal keys. -/
def Cand.better (x y : Cand) : Bool := x.eff < y.eff || (x.eff = y.eff && x.pos < y.pos)

/-- The best-ranked cell of a list, and the worst-ranked one. -/
def bestOf : List Cand → Option Cand
  | [] => none
  | x :: r => match bestOf r with
    | none => some x
    | some y => if x.better y then some x else some y
def worstOf : List Cand → Option Cand
  | [] => none
  | x :: r => match worstOf r with
    | none => some x
    | some y => if y.better x then some x else some y

/-- The best, or worst, cell that satisfies `p`, else of all. -/
def pickBest (p : Cand → Bool) (l : List Cand) : Option Cand :=
  match bestOf (l.filter p) with
  | some x => some x
  | none => bestOf l
def pickWorst (p : Cand → Bool) (l : List Cand) : Option Cand :=
  match worstOf (l.filter p) with
  | some x => some x
  | none => worstOf l

/-- The two sets of R152. -/
structure Sets where
  ins : List Cand
  out : List Cand
  deriving DecidableEq, Repr

def Sets.insert (s : Sets) (x : Cand) : Sets := ⟨s.ins ++ [x], s.out.filter (·.pos ≠ x.pos)⟩
def Sets.remove (s : Sets) (x : Cand) : Sets := ⟨s.ins.filter (·.pos ≠ x.pos), s.out ++ [x]⟩

/-- Add cells until `m` are inserted. -/
def Sets.grow (m : Nat) : Nat → Sets → Sets
  | 0, s => s
  | n + 1, s => if s.ins.length < m then
      match pickBest (·.credit) s.out with
      | some c => Sets.grow m n (s.insert c)
      | none => s
    else s

/-- Remove cells until `m` are inserted. -/
def Sets.shrink (m : Nat) : Nat → Sets → Sets
  | 0, s => s
  | n + 1, s => if m < s.ins.length then
      match pickWorst (·.credit) s.ins with
      | some c => Sets.shrink m n (s.remove c)
      | none => s
    else s

/-- Exchange up to `n` pairs whose margin exceeds the hysteresis; the count of exchanges comes with the sets. -/
def Sets.swap (hyst : Nat) : Nat → Sets × Nat → Sets × Nat
  | 0, s => s
  | n + 1, (s, k) =>
    match bestOf (s.out.filter (·.credit)), worstOf (s.ins.filter (·.credit)) with
    | some b, some w => if (hyst : Int) < w.eff - b.eff then Sets.swap hyst n ((s.insert b).remove w, k + 1) else (s, k)
    | _, _ => (s, k)

/-- The fractional cell (R154): best-ranked of `out` with 2 transitions of credit, else best-ranked; a rotating policy leaves the last
fractional cell out unless it is the only one (log entry 52, DEDUCED). -/
def fracOf (rotate : Bool) (out : List Cand) : Option Cand :=
  let o := out.filter fun c => !(rotate && (c.cmd = 4 || c.cmd = 5))
  pickBest (·.credit2) (if o = [] then out else o)

/-- The candidates of an arm for a polarity: the eligible cells that can take it (R134) (log entry 52, DEDUCED). -/
def Leaf.cands (d : Leaf) (a k : Nat) (neg low : Bool) : List Cand :=
  ((d.mapped a).filter fun p => d.eligible p.2 && (!neg || d.rd CT_TYPE p.2 = 2)).map fun p =>
    let key := d.cellKey a p.2 k
    let free := d.rd TUM_BUDGET_RATE a = 0
    let cr := d.rd CT_CREDIT p.2
    ⟨p.1, if low then key + d.penalty a p.2 else -(key - d.penalty a p.2), free || 65536 ≤ cr, free || 131072 ≤ cr, d.rd CT_CMD_LAST p.2⟩

/-- The command word of a cell (Table 4.6). -/
def cmdWord (cmd f : Nat) : Nat := cmd * 8192 + f

/-- R163: the counts of the commands are m and the fractional one, and no ineligible cell has a command. -/
def checkPick (elig : Nat → Bool) (p : Pick) : Bool :=
  (p.words.filter fun w => w.2 / 8192 = (if p.neg then 3 else 2)).length = p.m &&
  (p.words.filter fun w => w.2 / 8192 = (if p.neg then 5 else 4)).length = b2n (0 < p.f) &&
  p.words.all fun w => elig w.1 || w.2 = 0

/-- The count of the eligible cells of an arm (HEALTHY). -/
def Leaf.healthy (d : Leaf) (a : Nat) : Nat := ((d.mapped a).filter fun p => d.eligible p.2).length

/-- HEALTHY and its marks (R137, R138). -/
def Leaf.judgeSpare (d : Leaf) (a h : Nat) : Leaf :=
  let t := d.tumOf a
  let n := d.rd TUM_SPARE_N_REQ a
  let mark := n + d.rd TUM_SPARE_WARN a
  let d := ((d.wr TUM_SPARE_HEALTHY h a).wr TUM_STATUS_SHORTFALL (b2n (h < n)) a).wr TUM_STATUS_WARN (b2n (h ≤ mark)) a
  let fell (x : Nat → Bool) := match t.prevHealthy with | some p => !x p && x h | none => false
  let d := if fell (· < n) then d.raise 0x0301 (if d.conv.st = .deblocked then .trip else .alarm) a else d
  let d := if fell (· ≤ mark) && n ≤ h then d.raise 0x0302 .alarm a else d
  d.setTum a { d.tumOf a with prevHealthy := some h }

/-- The clamps of R139, R140 and R156 on a level: the new level, whether it was clamped, and whether a fraction was dropped. -/
def clampLevel (x : Level) (avail full : Nat) : Level × Bool × Bool :=
  if avail < x.m || (x.neg && full = 0) then ({ x with m := min x.m avail, f := 0 }, true, false)
  else if x.m = avail && x.f ≠ 0 then ({ x with f := 0 }, false, true)
  else (x, false, false)

/-- The direction of the arm current (R129) (log entry 53, DEDUCED). -/
def Leaf.judgeDir (d : Leaf) (a : Nat) : Leaf :=
  let i := sext 32 (d.rd TUM_IN_IARM_IARM a)
  let db : Int := (d.rd TUM_ISIGN_I_DB a : Nat)
  if db < i then d.wr TUM_STATUS_DIR 0 a else if i < -db then d.wr TUM_STATUS_DIR 1 a else d

/-- The runs of R143 of an arm for the selection of cycle `k` (log entry 78, DEDUCED). -/
def Leaf.crossCheck (d : Leaf) (a k : Nat) : Leaf :=
  let run := (d.mapped a).foldl (fun r p =>
    let bad := d.eligible p.2 && (d.rd TUM_XCHK_BAND a : Int) < (d.cellKey a p.2 k - (16 * d.rd CT_VPRED_CELL p.2 : Nat)).natAbs
    SMap.put 0 r p.1 (if bad then satInc 8 (SMap.get 0 r p.1) else 0)) (d.tumOf a).xrun
  d.setTum a { d.tumOf a with xrun := run }

/-- A tumbler that fails its check discards its selection and makes cycle `k` an overrun (R163, R108). -/
def Leaf.tumblerFailed (d : Leaf) (a k : Nat) : Leaf :=
  { (d.setTum a { d.tumOf a with pick := none }) with cyc := { d.cyc with tumLate := k :: d.cyc.tumLate } }.raise 0x0305 .alarm a

/-- The value of an output port in the bank of cycle `k` (05_control_fabric.md R189). -/
def Fab.port (f : Fab) (k p : Nat) : Nat := SMap.get 0 (if k % 2 = 0 then f.out0 else f.out1) p

/-- The tumbler takes its level and its arm current from its ports for cycle `k` (05_control_fabric.md R190). -/
def Leaf.takeLevel (d : Leaf) (a k : Nat) : Leaf :=
  let lv := sext 32 (d.fab.port k (4 * a))
  let n := Int.fdiv lv 4096
  let f := (lv % 4096).toNat
  let y := if 32767 < n then ((32767 : Int), 4095) else if n < -32768 then (-32768, 0) else (n, f)
  ((d.wr TUM_IN_N_N (pat 16 y.1) a).wr TUM_IN_F_F y.2 a).wr TUM_IN_IARM_IARM (d.fab.port k (4 * a + 1)) a

/-- The selection of an arm of `n` declared positions for cycle `k` (R126 to R154) (log entry 52, DEDUCED). -/
def Leaf.selectArm (d : Leaf) (a n full k : Nat) : Leaf :=
  let d := ((d.takeLevel a k).judgeDir a).crossCheck a k
  let h := d.healthy a
  let x := (levelOf (sext 16 (d.rd TUM_IN_N_N a)) (d.rd TUM_IN_F_F a)).dead (d.rd TUM_POLICY_F_DEAD a)
  let low := xor (decide (d.rd TUM_STATUS_DIR a = 0)) x.neg
  let cs := d.cands a k x.neg low
  let c := clampLevel x cs.length full
  let y := c.1
  let insCmd := if x.neg then 3 else 2
  let s0 : Sets := ⟨cs.filter (·.cmd = insCmd), cs.filter (·.cmd ≠ insCmd)⟩
  let s1 := (s0.grow y.m cs.length).shrink y.m cs.length
  let s2 := Sets.swap (d.rd TUM_HYST_HYST a) (d.rd TUM_POLICY_MAX_SWAP a) (s1, 0)
  let fr := if y.f = 0 then none else fracOf (d.is TUM_POLICY_FRAC_ROTATE a) s2.1.out
  let word (p : Nat × Nat) :=
    if s2.1.ins.any (·.pos = p.1) then cmdWord insCmd 0
    else if fr.map (·.pos) = some p.1 then cmdWord (insCmd + 2) y.f
    else if d.eligible p.2 then cmdWord 1 0 else cmdWord 0 0
  let pick : Pick := ⟨k, (d.mapped a).map fun p => (p.1, word p), y.neg, y.m, y.f⟩
  let t := (n + 7) / 8 + 64
  let d := d.judgeSpare a h
  let was := (d.tumOf a).clamped
  let d := if c.2.1 then ((if x.neg then d.wr TUM_STATUS_NEG_CLAMP 1 a else d.wr TUM_STATUS_POS_CLAMP 1 a).sat TUM_CNT_CLAMPS a) else d
  let d := if c.2.2 then (d.wr TUM_STATUS_FRAC_DROP 1 a).sat TUM_CNT_DROPS a else d
  let d := if c.2.1 && !was then d.raise 0x0303 .alarm a else d
  let d := ((d.wr TUM_OUT_POL (b2n y.neg) a).wr TUM_OUT_M y.m a).wr TUM_OUT_F y.f a
  let d := ((d.wr TUM_SELTIME_LAST t a).wr TUM_SELTIME_MAX (max t (d.rd TUM_SELTIME_MAX a)) a).wr TUM_CNT_SWAPS s2.2 a
  let d := d.setTum a { d.tumOf a with clamped := c.2.1, pick := some pick }
  if checkPick (fun p => d.eligible (a * 2048 + p)) pick then d else d.tumblerFailed a k

/-- The tumbler of an arm selects for cycle k once every tile has finished and FD(k) is reached (R99, R152). -/
def Leaf.tumblerSelect (a : Nat) (d : Leaf) : Leaf :=
  match d.key.active.bind (fun im => im.arms[a]?) with
  | some r => if d.running && d.tilesDone d.fdCycle then d.selectArm a r.cells r.full d.fdCycle else d
  | none => d

def execTumblerSelect (l : LeafId) (a : Arm) (s : State) : Host.Outcome State Fault Refusal := onLeaf l s (Leaf.tumblerSelect a.val)

/-- A cell whose run has reached PERSIST, with MISMATCH 0 (R143). -/
def Leaf.predictionMismatch (slot : Nat) (d : Leaf) : Leaf :=
  let a := slot / 2048
  let p := slot % 2048
  if d.rd TUM_XCHK_PERSIST a ≤ SMap.get 0 (d.tumOf a).xrun p && !d.is CT_MISMATCH slot then
    (((((d.wr CT_MISMATCH 1 slot).wr TUM_XCHK_SLOT_VALID 1 a).wr TUM_XCHK_SLOT_POSITION p a).wr TUM_STATUS_XCHK 1 a).sat TUM_CNT_XCHK a).raise
      0x0304 .alarm a
  else d

def execPredictionMismatch (l : LeafId) (slot : Slot) (s : State) : Host.Outcome State Fault Refusal :=
  onLeaf l s (Leaf.predictionMismatch slot.val)

/-! ## History and credit (R132, R149, R150, R164, R165) -/

/-- The transitions a command costs after CMD_LAST (R150). -/
def cmdCost (last new : Nat) : Nat :=
  if last = 0 || new = 0 then 0
  else if new = 4 || new = 5 then 2
  else if last = 4 || last = 5 then (if new = 1 then 0 else 1)
  else if last = new then 0 else 1

/-- The credit a cell earns in a cycle (R149), in 2^-16 transition. -/
def Leaf.earn (d : Leaf) (a : Nat) : Nat := d.rd TUM_BUDGET_RATE a * d.rd CYC_PERIOD_PERIOD * 65536 / 10000000

/-- A cell's credit after a selection whose command costs `cost` transitions (R149). -/
def Leaf.creditAfter (d : Leaf) (a slot cost : Nat) : Leaf :=
  if d.rd TUM_BUDGET_RATE a = 0 || !d.eligible slot then d
  else d.wr CT_CREDIT (min (d.rd CT_CREDIT slot + d.earn a) (d.rd TUM_BUDGET_DEPTH a * 65536) - cost * 65536) slot

/-- The published word of a slot enters its history (R132, R150) (log entry 53, DEDUCED). -/
def Leaf.recordWord (d : Leaf) (slot word : Nat) : Leaf :=
  let a := slot / 2048
  let cmd := word / 8192
  let last := d.rd CT_CMD_LAST slot
  let cost := cmdCost last cmd
  let d := d.creditAfter a slot cost
  let d := (d.wr CT_CMD_PREV last slot).wr CT_F_PREV (d.rd CT_F_LAST slot) slot
  ((d.wr CT_CMD_LAST cmd slot).wr CT_F_LAST (word % 4096) slot).wr CT_TRANS (d.rd CT_TRANS slot + cost) slot

/-- The set published for cycle `k` enters the history: the words by slot. A fractional word is shown in TUM_FRAC with its latch cycle; a
block set leaves DIR at CHARGING (R129) (log entry 53, DEDUCED). -/
def Leaf.recordSet (d : Leaf) (k : Nat) (words : List (Nat × Nat)) : Leaf :=
  let d := words.foldl (fun d w => d.recordWord w.1 w.2) d
  let d := words.foldl (fun d w =>
    if w.2 / 8192 = 4 || w.2 / 8192 = 5 then
      ((d.wr TUM_FRAC_VALID 1 (w.1 / 2048)).wr TUM_FRAC_POSITION (w.1 % 2048) (w.1 / 2048)).wr TUM_FRAC_CYCLE (k + 2) (w.1 / 2048)
    else d) d
  if words.all (·.2 = 0) then (List.range 6).foldl (fun d a => d.wr TUM_STATUS_DIR 0 a) d else d

/-- The history after a cycle that overran (R164) (log entry 66, DEDUCED). -/
def Leaf.recordOverrun (d : Leaf) : Leaf :=
  ((List.range 6).flatMap d.mapped).foldl (fun d p =>
    let d := d.creditAfter (p.2 / 2048) p.2 0
    (d.wr CT_CMD_PREV (d.rd CT_CMD_LAST p.2) p.2).wr CT_F_PREV (d.rd CT_F_LAST p.2) p.2) d

/-- The mapped ports of a concentrator, ascending, with their slots (R157). -/
def Image.portsOf (im : Image) (n : Nat) : List (Nat × Nat) :=
  (List.range 256).filterMap fun p => (im.slotAt n p).map fun s => (p, s)

/-- The words by slot of a converter's command sets (R157). -/
def Leaf.wordsBySlot (d : Leaf) (sets : List ConcSet) : List (Nat × Nat) :=
  match d.key.active with
  | some im => sets.flatMap fun c => (((im.portsOf c.conc).map (·.2)).zip c.words)
  | none => []

/-! ## Standstill (R160) -/

/-- The standstill words of an arm; SHORT needs ISO. -/
def Leaf.standstill (d : Leaf) (a : Nat) : Leaf × List (Nat × Nat) :=
  let short := d.is TUM_STANDSTILL_MODE a
  let iso := d.is TUM_STANDSTILL_ISO a
  let d := if short && !iso then d.wr TUM_STATUS_SS_REFUSED 1 a else d
  let d := d.wr TUM_STATUS_OUT_MODE (b2n (short && iso)) a
  (d, (d.mapped a).map fun p => (p.2, if short && iso && d.eligible p.2 then cmdWord 1 0 else cmdWord 0 0))

/-- ISO is cleared in every arm (R161) (log entry 88, DEDUCED). -/
def Leaf.clearIso (d : Leaf) : Leaf := (List.range 6).foldl (fun d a => d.wr TUM_STANDSTILL_ISO 0 a) d

/-! ## A write of a control half (R133) -/

/-- A write of word `w` of a slot's entry: 4 is offset 0x10 (EXCL, MISMATCH, LATCH_OFS), 5 is 0x14 (C_EST, LEARN_N). The other words are
read-only. A changed LATCH_OFS goes to the concentrator's port entry, or is ignored while the converter is moving; a slot that is not
mapped takes no write (00_scope.md R11). -/
def Leaf.controlHalfWrite (slot w v : Nat) (d : Leaf) : Leaf :=
  if !d.writable || !d.slotMapped slot then d
  else if w = 4 then
    let d := d.ctWrite CT_EXCL slot (bits v 25 25)
    let d := if bitOf v 24 then d.wr CT_MISMATCH 0 slot else d
    if bits v 7 0 = d.rd CT_LATCH_OFS slot then d
    else if d.moving then d.wr TUM_STATUS_OFS_LOCKED 1 (slot / 2048)
    else
      let d := d.ctWrite CT_LATCH_OFS slot (bits v 7 0)
      match d.key.active.bind (fun im => im.entryOf slot) with
      | some e => d.entryWrite e.conc e.port (bits v 7 0) 0xFF
      | none => d
  else if w = 5 then ({ d with cyc := { d.cyc with hostCt := slot :: d.cyc.hostCt } }.ctWrite CT_C_EST slot (bits v 31 16)).ctWrite CT_LEARN_N slot (bits v 15 0)
  else d

def execCellTableControlWrite (l : LeafId) (slot : Slot) (w : Nat) (val : Word) (s : State) : Host.Outcome State Fault Refusal :=
  onLeaf l s (Leaf.controlHalfWrite slot.val w val.toNat)

end Sys2Proof.Machine
end

