-- ==== Sys2Proof/Machine/Operands.lean ====
section
/-! DEFINITION. The step word and its operands: where a step of a tile reads and writes, when it waits, and the flags it sets
(05_control_fabric.md R168 to R187, Tables 5.2 to 5.5). -/

namespace Sys2Proof.Machine
open Reg

/-! ## The step word (Table 5.2) -/

def stepOp (w : Nat) : Nat := bits w 63 58
def stepDst (w : Nat) : Nat := bits w 57 44
def stepA (w : Nat) : Nat := bits w 43 30
def stepB (w : Nat) : Nat := bits w 29 16
def stepCoef (w : Nat) : Nat := bits w 15 7
def stepMod (w : Nat) : Nat := bits w 6 1

/-- An operand (Table 5.3). -/
inductive Opnd where
  | reg (n : Nat) | sp (a : Nat) | inw (n : Nat) | mb (n : Nat) | special (n : Nat) | invalid
  deriving DecidableEq, Repr

/-- The operand of a 14-bit field (Table 5.3). -/
def opndOf (f : Nat) : Opnd :=
  let g := bits f 11 6
  let n := bits f 5 0
  match bits f 13 12 with
  | 0 => if g = 0 then .reg n else .invalid
  | 1 => .sp (bits f 11 0)
  | 2 => if g = 0 then .inw n else if g = 1 && n < 4 then .mb n else if g = 2 && n < 4 then .special n else .invalid
  | _ => .invalid

/-! ## Reading -/

/-- A scratchpad word as a reader sees it: a word that the step before wrote still reads its old value (R183). -/
def TileSt.spRead (x : TileSt) (a : Nat) : Int :=
  match x.spOld.find? (·.1 = a % 4096) with
  | some o => sext 32 o.2
  | none => sext 32 (SMap.get 0 x.sp (a % 4096))

/-- A state register. -/
def TileSt.reg (x : TileSt) (n : Nat) : Int := sext 32 (SMap.get 0 x.s (n % 64))

/-- The value and the shift of a coefficient of the applied page. -/
def TileSt.cVal (x : TileSt) (i : Nat) : Int := sext 32 (SMap.get 0 x.coef (i % 512))
def TileSt.cShift (x : TileSt) (i : Nat) : Int := sext 6 (SMap.get 0 x.coef (i % 512) / 2 ^ 32)

/-- The input bank of a cycle (R186). -/
def TileSt.inBank (x : TileSt) (k : Nat) : SMap Nat := if k % 2 = 0 then x.in0 else x.in1

/-- The value of an operand for the list of cycle `k`; none while the step waits for it (R169, R187, R197). -/
def Leaf.opndVal (d : Leaf) (x : TileSt) (k : Nat) (f : Nat) : Option Int :=
  match opndOf f with
  | .reg n => some (x.reg n)
  | .sp a => some (x.spRead a)
  | .inw n => if reached d.fab.delivered k then some (sext 32 (SMap.get 0 (x.inBank k) n)) else none
  | .mb n => if x.reqs.any (fun q => !q.store && q.arg = n && q.cycle < k) then none else some (sext 32 (SMap.get 0 x.mb n))
  | .special 1 => some (d.cycLen k)
  | .special 2 => some (k % 65536 : Nat)
  | .special 3 => some (d.rd CYC_STATUS_CONV_STATE : Nat)
  | .special _ => some 0
  | .invalid => some 0

/-- The extra cycle of R168: two different scratchpad words as sources. -/
def twoWords (fa fb : Nat) : Bool :=
  match opndOf fa, opndOf fb with
  | .sp a, .sp b => a ≠ b
  | _, _ => false

/-! ## Flags (R178, R179) -/

/-- The fault class of a route code: 0 none, 1 NOTE, 2 ALARM, 3 TRIP (Tables 5.11, 6.9). -/
def routeClass : Nat → Option FaultClass
  | 1 => some .note
  | 2 => some .alarm
  | 3 => some .trip
  | _ => none

/-- The four sticky flags with the route and the fault code of each. -/
def flagRoutes : List (Fld × Fld × Nat) :=
  [(TILE_STATUS_SAT, FAB_ROUTE_SAT, 0x0402), (TILE_STATUS_ACC_OVF, FAB_ROUTE_ACC_OVF, 0x0403),
   (TILE_STATUS_DIV_ZERO, FAB_ROUTE_DIV_ZERO, 0x0404), (TILE_STATUS_SQRT_NEG, FAB_ROUTE_SQRT_NEG, 0x0405)]

/-- A step of tile `t` sets a flag: the first while all four were clear is recorded, and a rising flag raises its routed fault (log entry 80, DEDUCED). -/
def Leaf.setFlag (d : Leaf) (t k pc : Nat) (flag : Fld) : Leaf :=
  if d.is flag t then d
  else
    let clear := flagRoutes.all fun r => !d.is r.1 t
    let d := if clear then ((d.wr TILE_FLAG_STEP_CYCLE k t).wr TILE_FLAG_STEP_STEP pc t).wr TILE_FLAG_STEP_VALID 1 t else d
    let d := d.wr flag 1 t
    match flagRoutes.find? (·.1 = flag) with
    | some r => match routeClass (d.rd r.2.1) with
      | some c => d.raise r.2.2 c t
      | none => d
    | none => d

/-! ## The context of a step -/

/-- A step of tile `t` in the list of cycle `k`: its place, its word, and the values of A and B where they are operands. -/
structure StepCtx where
  t : Nat
  k : Nat
  pc : Nat
  w : Nat
  a : Int
  b : Int
  deriving DecidableEq, Repr

def Leaf.flagIf (d : Leaf) (c : StepCtx) (on : Bool) (flag : Fld) : Leaf := if on then d.setFlag c.t c.k c.pc flag else d

/-- Write a state register, saturating (R176). -/
def Leaf.putReg (d : Leaf) (c : StepCtx) (n : Nat) (v : Int) : Leaf :=
  let y := sat32 v
  let x := d.tile c.t
  (d.setTile c.t { x with s := SMap.put 0 x.s (n % 64) (pat 32 y.1) }).flagIf c y.2 TILE_STATUS_SAT

/-- Write a scratchpad word, saturating; the next step still reads its old value (R176, R183). -/
def Leaf.putSp (d : Leaf) (c : StepCtx) (a : Nat) (v : Int) : Leaf :=
  let y := sat32 v
  let x := d.tile c.t
  let old := SMap.get 0 x.sp (a % 4096)
  (d.setTile c.t { x with sp := SMap.put 0 x.sp (a % 4096) (pat 32 y.1), spOld := x.spOld ++ [(a % 4096, old)] }).flagIf c y.2 TILE_STATUS_SAT

/-- Write the destination of a step (Table 5.3: a state register or a scratchpad word). -/
def Leaf.putDst (d : Leaf) (c : StepCtx) (v : Int) : Leaf :=
  match opndOf (stepDst c.w) with
  | .reg n => d.putReg c n v
  | .sp a => d.putSp c a v
  | _ => d

/-- The register number of the destination, of A and of B, where an operation names a register. -/
def StepCtx.dstReg (c : StepCtx) : Nat := stepDst c.w % 64
def StepCtx.aReg (c : StepCtx) : Nat := stepA c.w % 64
def StepCtx.bReg (c : StepCtx) : Nat := stepB c.w % 64

/-- The coefficient of the step, and the one `i` places on. -/
def Leaf.coefVal (d : Leaf) (c : StepCtx) (i : Nat := 0) : Int := (d.tile c.t).cVal (stepCoef c.w + i)
def Leaf.coefShift (d : Leaf) (c : StepCtx) (i : Nat := 0) : Int := (d.tile c.t).cShift (stepCoef c.w + i)

end Sys2Proof.Machine
end

