-- ==== Sys2Proof/Machine/KeyImage.lean ====
section
/-! DEFINITION. The keying-image container: its layout and the load checks (06_keying_image.md R212 to R220, Tables 6.1 to 6.12). -/

namespace Sys2Proof.Machine
open Reg

/-! ## Bytes of a container -/

/-- `n` bytes from offset `o`, as a little-endian number. -/
def leAt (b : List Byte) (o n : Nat) : Nat := leNum ((b.drop o).take n)

/-- `n` bytes from offset `o`. -/
def sliceOf (b : List Byte) (o n : Nat) : List Byte := (b.drop o).take n

/-- A digest stored in digest order, byte 0 on top. -/
def digestAt (b : List Byte) (o : Nat) : Nat := (sliceOf b o 48).foldl (fun v x => v * 256 + x.toNat) 0

/-- The bytes from `o` on, `n` of them, are 0. -/
def zeros (b : List Byte) (o n : Nat) : Bool := (sliceOf b o n).all (· = 0)

/-- A failed load check: its number, the section it lies in, and the byte offset of the item (R220). -/
structure LoadErr where
  check : Nat
  sect : Nat
  ofs : Nat
  deriving DecidableEq, Repr

/-- One condition of a check: what must hold, and the section and offset named where it does not. -/
abbrev Cond := Bool × Nat × Nat

/-- A condition that names its section and offset. -/
def cnd (ok : Bool) (s o : Nat) : Cond := (ok, s, o)

/-- The first condition of check `n` that fails (log entry 44, DEDUCED). -/
def firstBad (n : Nat) (cs : List Cond) : Option LoadErr := (cs.find? fun c => !c.1).map fun c => ⟨n, c.2.1, c.2.2⟩

/-- Member `i` of a list equals none before it: of two equal items the later one fails its check (log entry 44, DEDUCED). -/
def newAt (l : List Nat) (i : Nat) : Bool := !(l.take i).contains (l.getD i 0)

/-- Member `i` of a list lies above the one before it. -/
def aboveAt (l : List Nat) (i : Nat) : Bool := i = 0 || decide (l.getD (i - 1) 0 < l.getD i 0)

/-! ## Directory (R215) -/

/-- A directory entry and its offset. -/
structure DirEnt where
  at_ : Nat
  type : Nat
  flags : Nat
  ofs : Nat
  len : Nat
  crc : Nat
  deriving DecidableEq, Repr

def dirOf (b : List Byte) : List DirEnt :=
  (List.range (leAt b 0x14 2)).map fun i =>
    let o := 0x100 + 16 * i
    ⟨o, leAt b o 2, leAt b (o + 2) 2, leAt b (o + 4) 4, leAt b (o + 8) 4, leAt b (o + 12) 4⟩

/-- Offset and length of the section of a type; 0 and 0 where there is none. -/
def sectOf (b : List Byte) (t : Nat) : Nat × Nat :=
  match (dirOf b).find? (·.type = t) with
  | some e => (e.ofs, e.len)
  | none => (0, 0)

/-! ## Checks 1 to 6 -/

/-- Check 2: the header (Table 6.1). -/
def headerConds (b : List Byte) : List Cond :=
  let u (o n : Nat) := leAt b o n
  [(cnd (u 0 4 = 0x4D49594B) 0 0), (cnd (u 4 2 = 1) 0 4), (cnd (u 6 2 = 256) 0 6),
   (cnd (u 0x10 4 % 4 = 0 && u 0x10 4 ≤ 8388608 && u 0x10 4 = b.length && 256 ≤ b.length) 0 0x10),
   (cnd (9 ≤ u 0x14 2 && u 0x14 2 ≤ 32) 0 0x14), (cnd (u 0x16 1 < 8) 0 0x16), (cnd (16 ≤ u 0x17 1 && u 0x17 1 ≤ 200) 0 0x17),
   (cnd (1 ≤ u 0x1A 2 && u 0x1A 2 ≤ 256) 0 0x1A), (cnd (zeros b 0xA0 92) 0 0xA0), (cnd (u 0xFC 4 = crc32c (b.take 252)) 0 0xFC)]

/-- Check 3: the directory (R215) (log entry 44, DEDUCED). -/
def dirConds (b : List Byte) : List Cond :=
  let ds := dirOf b
  let stop := 0x100 + 16 * ds.length
  ds.flatMap fun e =>
    [(cnd (e.flags < 2) 0 (e.at_)), (cnd (e.ofs % 4 = 0 && stop ≤ e.ofs) 0 (e.at_ + 4)), (cnd (e.len % 4 = 0 && e.ofs + e.len ≤ b.length) 0 (e.at_ + 8)),
     (cnd (ds.all fun x => x.at_ = e.at_ || x.ofs + x.len ≤ e.ofs || e.ofs + e.len ≤ x.ofs) 0 (e.at_ + 4)),
     (cnd (e.crc = crc32c (sliceOf b e.ofs e.len)) 0 (e.at_ + 12))]

/-- Check 4: the section set (R216) (log entry 44, DEDUCED). -/
def setConds (b : List Byte) : List Cond :=
  let ds := dirOf b
  ds.map (fun e => (cnd (((1 ≤ e.type && e.type ≤ 9) || e.flags % 2 = 1) &&
    ((e.type = 0 || 9 < e.type) || (ds.filter (·.type = e.type)).length = 1)) 0 (e.at_))) ++
  (List.range 9).map fun i => (cnd ((ds.any fun e => e.type = i + 1)) 0 0)

/-! ## Topology and port map (Tables 6.3 and 6.4) -/

def armOf (b : List Byte) (base a : Nat) : ArmRec :=
  let o := base + 16 * a
  ⟨leAt b o 2, leAt b (o + 2) 2, leAt b (o + 4) 2, (List.range (min 8 (leAt b (o + 6) 1))).map fun i => leAt b (o + 8 + i) 1⟩

def armsOf (b : List Byte) : List ArmRec := (List.range 6).map (armOf b (sectOf b 1).1)

def portOf (v : Nat) : PortEnt := ⟨bits v 31 26, bits v 25 18, bits v 17 16, bits v 10 0⟩

/-- The port-map words with their offsets. -/
def portWords (b : List Byte) : List (Nat × Nat) :=
  let s := sectOf b 2
  (List.range ((s.2 - 4) / 4)).map fun i => (leAt b (s.1 + 4 + 4 * i) 4, s.1 + 4 + 4 * i)

def portsOf (b : List Byte) : List PortEnt := (portWords b).map fun w => portOf w.1

/-- The arm of a concentrator in a list of arm records. -/
def armIn (arms : List ArmRec) (c : Nat) : Option Nat :=
  (List.range arms.length).find? fun a => match arms[a]? with | some r => r.concs.contains c | none => false

/-- Check 7: the topology. `limit` is the variant's cells per arm (00_scope.md R9). -/
def topoConds (b : List Byte) (limit : Nat) : List Cond :=
  let s := sectOf b 1
  let arms := armsOf b
  (cnd (s.2 = 96) 1 (s.1)) :: (indexed arms).flatMap fun p =>
    let o := s.1 + 16 * p.2
    let n := leAt b (o + 6) 1
    [(cnd (p.1.cells ≤ limit && p.1.cells ≤ 2048) 1 o),
     (cnd (p.1.full = ((portsOf b).filter fun e => e.type = 2 && armIn arms e.conc = some p.2).length) 1 (o + 2)), (cnd (p.1.nReq ≤ p.1.cells) 1 (o + 4)),
     (cnd (n ≤ 8) 1 (o + 6)), (cnd (leAt b (o + 7) 1 = 0) 1 (o + 7)),
     (cnd (p.1.concs.all (· < 48) && p.1.concs.all (fun c => !(arms.take p.2).any (·.concs.contains c)) && p.1.concs.eraseDups.length = p.1.concs.length &&
       (List.range 8).all fun i => i < n || leAt b (o + 8 + i) 1 = 255) 1 (o + 8))]

/-- Check 8: the port map. -/
def mapConds (b : List Byte) : List Cond :=
  let s := sectOf b 2
  let arms := armsOf b
  let ws := portWords b
  let order := ws.map fun w => w.1 / 2 ^ 18
  let slots := ws.map fun w => let e := portOf w.1; match armIn arms e.conc with | some a => a * 2048 + e.pos | none => 0
  (cnd (4 ≤ s.2) 2 (s.1)) ::
  (indexed ws).map (fun w =>
    let e := portOf w.1.1
    (cnd ((match armIn arms e.conc with
      | some a => match arms[a]? with
        | some r => e.pos < r.cells && (e.type = 1 || (e.type = 2 && e.pos < r.full))
        | none => false
      | none => false) && bits w.1.1 15 11 = 0 && newAt slots w.2 && aboveAt order w.2) 2 (w.1.2))) ++
  [(cnd (digestAt b 0x50 = Config.sha384 (sliceOf b s.1 s.2)) 0 0x50), (cnd (digestAt b 0x50 % 2 ^ 32 ≠ 0) 0 0x50)]

/-! ## Step lists (Table 6.5) -/

/-- The tile blocks of a FABRIC_PLANE body from `o` up to `stop`, with their offsets; a block that does not fit ends the list. -/
def blocksFrom (b : List Byte) (stop : Nat) : Nat → Nat → List (TileBlk × Nat)
  | 0, _ => []
  | n + 1, o =>
    if o + 8 ≤ stop then
      let k := leAt b (o + 2) 2
      ({ tile := leAt b o 2, wcet := leAt b (o + 4) 2, steps := (List.range k).map fun i => leAt b (o + 8 + 8 * i) 8 }, o) ::
        blocksFrom b stop n (o + 8 + 8 * k)
    else []

def blocksOf (b : List Byte) : List (TileBlk × Nat) := let s := sectOf b 3; blocksFrom b (s.1 + s.2) 257 s.1

/-- What a field of a step must be: not an operand, a source, a destination, or a state register with `n` more behind it. -/
inductive FieldUse where
  | raw | src | dst | regs (n : Nat) | evenPair
  deriving DecidableEq, Repr

/-- A field holds what its use asks for (R181, Table 5.3). -/
def FieldUse.ok (u : FieldUse) (f : Nat) : Bool :=
  match u, opndOf f with
  | .raw, _ => true
  | .src, .invalid => false
  | .src, _ => true
  | .dst, .reg _ => true
  | .dst, .sp _ => true
  | .regs n, .reg r => r + n < 64
  | .evenPair, .reg r => r % 2 = 0
  | _, _ => false

/-- DST, SRCA and SRCB of an operation, and its cycles (Table 5.5); none for an invalid OP. -/
def opShape (op md : Nat) : Option (FieldUse × FieldUse × FieldUse × Nat) :=
  match op with
  | 0x00 => some (.raw, .raw, .raw, 1)
  | 0x01 => some (.dst, .src, .raw, 1)
  | 0x02 => some (.dst, .src, .src, 1)
  | 0x03 => some (.dst, .src, .src, 1)
  | 0x04 => some (.dst, .src, .raw, 1)
  | 0x05 => some (.dst, .src, .raw, 1)
  | 0x06 => some (.dst, .src, .src, 1)
  | 0x07 => some (.dst, .src, .src, 1)
  | 0x08 => some (.dst, .src, .src, 1)
  | 0x09 => some (.dst, .src, .src, 1)
  | 0x0A => some (.dst, .src, if md % 2 = 1 then .src else .raw, 1)
  | 0x0B => some (.dst, .src, .src, 2)
  | 0x0C => some (.dst, .raw, .raw, 1)
  | 0x0D => some (.raw, .src, .raw, 2)
  | 0x0E => some (.dst, .src, .src, 34)
  | 0x0F => some (.dst, .src, .raw, 18)
  | 0x10 => some (.evenPair, .src, .raw, 4)
  | 0x11 => some (.regs 1, .regs 2, .raw, 3)
  | 0x12 => some (.regs 1, .regs 1, .regs 1, 4)
  | 0x13 => some (.dst, .src, .raw, 2)
  | 0x14 => some (.regs 0, .src, .raw, 2)
  | 0x15 => some (.regs 0, .src, .raw, 3)
  | 0x16 => some (.dst, .src, .raw, 6)
  | 0x17 => some (.dst, .regs 0, .raw, 1)
  | 0x18 => some (.raw, .regs 0, .src, 1)
  | 0x19 => some (.raw, .src, .raw, 1)
  | 0x1A => some (.dst, .raw, .raw, 1)
  | 0x1B => some (.raw, .src, .raw, 1)
  | 0x1C => some (.raw, .regs 0, .raw, 1)
  | 0x1D => some (.raw, .regs 0, .src, 1)
  | _ => none

/-- A port of Table 5.6. -/
def portValid (p : Nat) : Bool := p ≤ 0x017 || (0x020 ≤ p && p ≤ 0x037) || (0x080 ≤ p && p ≤ 0x09F) || (0x100 ≤ p && p ≤ 0x1FF)

/-- A step word is one that R181 admits. -/
def stepValid (w : Nat) : Bool :=
  w % 2 = 0 &&
  (match opShape (stepOp w) (stepMod w) with
   | some (d, a, c, _) => d.ok (stepDst w) && a.ok (stepA w) && c.ok (stepB w) && (stepOp w ≠ 0x1B || portValid (stepDst w % 1024))
   | none => false)

/-- The cycles of a step without waits: its cost and the extra cycle of R168. -/
def stepCycles (w : Nat) : Nat :=
  match opShape (stepOp w) (stepMod w) with
  | some (_, a, c, n) => n + b2n (a = .src && c = .src && twoWords (stepA w) (stepB w))
  | none => 0

/-- Check 9: the step lists. `failed` names the tiles marked FAILED (R207). -/
def planeConds (b : List Byte) (failed : Nat → Bool) : List Cond :=
  let s := sectOf b 3
  let bs := blocksOf b
  let tiles := bs.map (·.1.tile)
  (indexed bs).flatMap (fun p =>
    let e := p.1
    let o := e.2
    let n := leAt b (o + 2) 2
    [(cnd (e.1.tile < 256 && !failed e.1.tile && aboveAt tiles p.2) 3 o), (cnd (1 ≤ n && n ≤ 512 && o + 8 + 8 * n ≤ s.1 + s.2) 3 (o + 2)),
     (cnd (e.1.wcet ≤ leAt b 0x17 1 * 80 * 85 / 100 && (e.1.steps.map stepCycles).foldl (· + ·) 0 ≤ e.1.wcet) 3 (o + 4)), (cnd (leAt b (o + 6) 2 = 0) 3 (o + 6))] ++
    (indexed e.1.steps).map fun w => (cnd (stepValid w.1) 3 (o + 8 + 8 * w.2))) ++
  [(cnd (bs.length = leAt b 0x1A 2) 0 0x1A),
   (cnd ((match bs.getLast? with | some e => e.2 + 8 + 8 * e.1.steps.length | none => s.1) = s.1 + s.2) 3 (s.1))]

/-- The steps of every list with their tiles and offsets. -/
def stepsOf (b : List Byte) : List (Nat × Nat × Nat) :=
  (blocksOf b).flatMap fun e => (indexed e.1.steps).map fun w => (e.1.tile, w.1, e.2 + 8 + 8 * w.2)

/-- Check 10: one sending step per channel, no SEND to a spare tile, at most 4 CTLD and 4 CTST of a list (R193, R197). -/
def sendConds (b : List Byte) : List Cond :=
  let st := stepsOf b
  let used := (blocksOf b).map (·.1.tile)
  let sends := st.filter fun x => stepOp x.2.1 = 0x19
  let targets := sends.map fun x => stepDst x.2.1 % 8 + 8 * bits (stepDst x.2.1) 11 4
  (indexed sends).map (fun x =>
    (cnd (used.contains (bits (stepDst x.1.2.1) 11 4) && newAt targets x.2) 3 (x.1.2.2))) ++
  (blocksOf b).map fun e =>
    (cnd ((e.1.steps.filter (stepOp · = 0x1C)).length ≤ 4 && (e.1.steps.filter (stepOp · = 0x1D)).length ≤ 4) 3 (e.2))

/-! ## Routing, coefficients, policy, protection, groups, state map -/

def routesOf (b : List Byte) : List (RouteEnt × Nat) :=
  let s := sectOf b 4
  (List.range (s.2 / 8)).map fun i =>
    let o := s.1 + 8 * i
    (⟨leAt b o 1, leAt b (o + 1) 1, leAt b (o + 2) 1, leAt b (o + 4) 4⟩, o)

/-- Check 11: the routing; `hasRec` and `saf` say which units the variant has (00_scope.md R9). -/
def routeConds (b : List Byte) (hasRec saf : Bool) : List Cond :=
  let rs := routesOf b
  let used := (blocksOf b).map (·.1.tile)
  let words := rs.map fun r => r.1.tile * 256 + r.1.inp
  (cnd ((sectOf b 4).2 % 8 = 0) 4 ((sectOf b 4).1)) ::
  (indexed rs).flatMap (fun p =>
    let r := p.1
    [(cnd (used.contains r.1.tile) 4 (r.2)),
     (cnd (r.1.inp < 64 && newAt words p.2) 4 (r.2 + 1)),
     (cnd (r.1.kind < 6 && (r.1.kind ≠ 4 || (62 ≤ r.1.inp && r.1.source = 0)) && (r.1.kind ≠ 5 || saf)) 4 (r.2 + 2)), (cnd (leAt b (r.2 + 3) 1 = 0) 4 (r.2 + 3)),
     (cnd (r.1.kind ≠ 5 || r.1.source % 32 < 16) 4 (r.2 + 4))]) ++
  (stepsOf b).map fun x => (cnd (hasRec || stepOp x.2.1 ≠ 0x1B || stepDst x.2.1 % 1024 < 0x100) 3 (x.2.2))

/-- The blocks of a COEFFICIENTS body, with their offsets. -/
def coefsFrom (b : List Byte) (stop : Nat) : Nat → Nat → List (CoefBlk × Nat)
  | 0, _ => []
  | n + 1, o =>
    if o + 8 ≤ stop then
      let k := leAt b (o + 2) 2
      ({ tile := leAt b o 2, group := leAt b (o + 4) 1,
         entries := (List.range k).map fun i => let p := o + 8 + 8 * i; ⟨leAt b p 2, leAt b (p + 2) 1, leAt b (p + 4) 4⟩ }, o) ::
        coefsFrom b stop n (o + 8 + 8 * k)
    else []

def coefsOf (b : List Byte) : List (CoefBlk × Nat) := let s := sectOf b 5; coefsFrom b (s.1 + s.2) 257 s.1

/-- A commit group that an image may name. -/
def groupByteOk (g : Nat) : Bool := 2 ≤ g && g ≤ 31

/-- Check 12: the coefficients. -/
def coefConds (b : List Byte) : List Cond :=
  let s := sectOf b 5
  let cs := coefsOf b
  (cnd (cs.map (·.1.tile) = (blocksOf b).map (·.1.tile)) 5 (s.1)) ::
  cs.flatMap (fun c =>
    [(cnd (c.1.entries.length ≤ 512 && c.2 + 8 + 8 * c.1.entries.length ≤ s.1 + s.2) 5 (c.2 + 2)), (cnd (groupByteOk c.1.group) 5 (c.2 + 4)),
     (cnd (zeros b (c.2 + 5) 3) 5 (c.2 + 5))] ++
    (indexed c.1.entries).map fun e =>
      let o := c.2 + 8 + 8 * e.2
      (cnd (e.1.index < 512 && newAt (c.1.entries.map (·.index)) e.2 && (e.1.shift < 32 || 224 ≤ e.1.shift) && leAt b (o + 3) 1 = 0) 5 o)) ++
  [(cnd ((match cs.getLast? with | some c => c.2 + 8 + 8 * c.1.entries.length | none => s.1) = s.1 + s.2) 5 (s.1))]

def polOf (b : List Byte) (a : Nat) : TumPol :=
  let o := (sectOf b 6).1 + 32 * a
  ⟨(List.range 7).map fun i => leAt b (o + 4 * i) 4, leAt b (o + 28) 1, leAt b (o + 29) 1, leAt b (o + 30) 1⟩

/-- The reserved bits of the seven register images of a policy record (04_tumblers_and_arm_modulation.md Table 4.10). -/
def polReserved : List Nat := [0x00FFE000, 0xFFFF0000, 0x00FF0000, 0x00FF0000, 0xFFFF0000, 0x00FF0000, 0xFFFF0000]

/-- Check 13: the tumbler policy. -/
def polConds (b : List Byte) : List Cond :=
  let s := sectOf b 6
  (cnd (s.2 = 192) 6 (s.1)) :: (List.range 6).flatMap fun a =>
    let o := s.1 + 32 * a
    let p := polOf b a
    (List.range 7).map (fun i => (cnd (Nat.land (leAt b (o + 4 * i) 4) (polReserved.getD i 0) = 0 &&
      ((i ≠ 2 && i ≠ 5) || 1 ≤ leAt b (o + 4 * i + 3) 1)) 6 (o + 4 * i))) ++
    [(cnd (groupByteOk p.group) 6 (o + 29)), (cnd (p.ssMode < 2) 6 (o + 30)), (cnd (leAt b (o + 31) 1 = 0) 6 (o + 31))]

def mwRecOf (b : List Byte) (u : Nat) : MwRec :=
  let o := (sectOf b 7).1 + 0x40 + 16 * u
  ⟨leAt b o 4, leAt b (o + 4) 4, leAt b (o + 8) 1, leAt b (o + 9) 1, leAt b (o + 10) 1, leAt b (o + 11) 1⟩

def protOf (b : List Byte) : Prot :=
  let o := (sectOf b 7).1
  { chargeDet := leAt b o 4, discharge := leAt b (o + 4) 4, readyV := leAt b (o + 8) 2, readyP := leAt b (o + 10) 2, chargeLim := leAt b (o + 12) 4,
    lineClass := leAt b (o + 16) 8, fabRoute := leAt b (o + 24) 1, fltVcp := leAt b (o + 25) 1, fltConc := leAt b (o + 28) 8,
    mw := (List.range 12).map (mwRecOf b) }

/-- Check 14: the protection values. -/
def protConds (b : List Byte) : List Cond :=
  let s := sectOf b 7
  let p := protOf b
  let concs := (armsOf b).flatMap (·.concs)
  [(cnd (s.2 = 256) 7 (s.1)), (cnd (p.discharge < p.chargeDet) 7 (s.1)), (cnd (1 ≤ p.readyP) 7 (s.1 + 0x0A)), (cnd (1 ≤ p.chargeLim) 7 (s.1 + 0x0C)),
   (cnd (p.fltVcp < 2) 7 (s.1 + 0x19)), (cnd (zeros b (s.1 + 0x1A) 2) 7 (s.1 + 0x1A)),
   (cnd ((List.range 64).all fun i => !bitOf p.fltConc i || concs.contains i) 7 (s.1 + 0x1C)), (cnd (zeros b (s.1 + 0x24) 28) 7 (s.1 + 0x24))] ++
  (indexed p.mw).flatMap fun m =>
    let o := s.1 + 0x40 + 16 * m.2
    [(cnd (1 ≤ m.1.alarmP) 7 (o + 8)), (cnd (1 ≤ m.1.tripP) 7 (o + 9)), (cnd (m.1.leak = 0 || (8 ≤ m.1.leak && m.1.leak ≤ 24)) 7 (o + 10)),
     (cnd (groupByteOk m.1.group) 7 (o + 11)), (cnd (zeros b (o + 12) 4) 7 (o + 12))]

def groupsOf (b : List Byte) : List (GroupEnt × Nat) :=
  let s := sectOf b 8
  (List.range (s.2 / 8)).map fun i => let o := s.1 + 8 * i; (⟨leAt b o 1, leAt b (o + 1) 1, leAt b (o + 2) 2⟩, o)

/-- The counts of tiles, arms and units whose GROUP byte names a group. -/
def groupCounts (b : List Byte) (g : Nat) : Nat × Nat × Nat :=
  (((coefsOf b).filter (·.1.group = g)).length, (((List.range 6).map (polOf b)).filter (·.group = g)).length, ((protOf b).mw.filter (·.group = g)).length)

/-- Check 15: the commit groups. -/
def groupConds (b : List Byte) : List Cond :=
  let gs := groupsOf b
  (cnd ((sectOf b 8).2 % 8 = 0) 8 ((sectOf b 8).1)) ::
  (indexed gs).flatMap (fun p =>
    let g := p.1
    let c := groupCounts b g.1.group
    [(cnd (groupByteOk g.1.group && newAt (gs.map (·.1.group)) p.2) 8 (g.2)),
     (cnd (g.1.kinds = b2n (0 < c.1) + 2 * b2n (0 < c.2.1) + 4 * b2n (0 < c.2.2)) 8 (g.2 + 1)), (cnd (g.1.members = c.1 + c.2.1 + c.2.2) 8 (g.2 + 2)),
     (cnd (leAt b (g.2 + 4) 4 = 0) 8 (g.2 + 4))]) ++
  (coefsOf b).map (fun c => (cnd ((gs.any (·.1.group = c.1.group))) 5 (c.2 + 4))) ++
  (List.range 6).map (fun a => (cnd ((gs.any (·.1.group = (polOf b a).group))) 6 ((sectOf b 6).1 + 32 * a + 29))) ++
  (indexed (protOf b).mw).map fun m => (cnd ((gs.any (·.1.group = m.1.group))) 7 ((sectOf b 7).1 + 0x40 + 16 * m.2 + 11))

def smapOf (b : List Byte) : List (StateEnt × Nat) :=
  let s := sectOf b 9
  (List.range ((s.2 - 112) / 16)).map fun i =>
    let o := s.1 + 112 + 16 * i
    (⟨leAt b o 1, leAt b (o + 1) 1, leAt b (o + 2) 2, leAt b (o + 4) 2, leAt b (o + 8) 4, leAt b (o + 12) 4⟩, o)

/-- An entry lies inside the resources it names (Table 6.11). -/
def StateEnt.inside (e : StateEnt) (used : List Nat) : Bool :=
  match e.space with
  | 0 => used.contains e.tile && e.addr + e.words ≤ 64
  | 1 => used.contains e.tile && e.addr + e.words ≤ 4096
  | 2 => used.contains e.tile && e.addr = 0 && e.words = 1
  | 3 => e.tile < 12 && e.words = 1
  | _ => false

def StateEnt.meets (x y : StateEnt) : Bool :=
  x.space = y.space && x.tile = y.tile && x.addr < y.addr + y.words && y.addr < x.addr + x.words

/-- Check 16: the state map. -/
def smapConds (b : List Byte) : List Cond :=
  let s := sectOf b 9
  let es := smapOf b
  let used := (blocksOf b).map (·.1.tile)
  let topo := sectOf b 1
  [(cnd (112 ≤ s.2) 9 (s.1)), (cnd (digestAt b 0x20 = Config.sha384 (sliceOf b s.1 s.2)) 0 0x20),
   (cnd (digestAt b s.1 = Config.sha384 (sliceOf b topo.1 topo.2)) 9 (s.1)), (cnd (digestAt b (s.1 + 48) = digestAt b 0x50) 9 (s.1 + 48)),
   (cnd (sliceOf b (s.1 + 96) 12 = sliceOf b ((sectOf b 7).1 + 0x18) 12) 9 (s.1 + 96)), (cnd (leAt b (s.1 + 108) 4 = es.length && s.2 = 112 + 16 * es.length) 9 (s.1 + 108))] ++
  es.flatMap fun e =>
    [(cnd (e.1.space < 4) 9 (e.2 + 1)), (cnd (1 ≤ e.1.words && e.1.words ≤ 4096 && e.1.inside used) 9 (e.2)), (cnd (leAt b (e.2 + 6) 2 = 0) 9 (e.2 + 6)),
     (cnd (es.all fun x => e.2 ≤ x.2 || !x.1.meets e.1) 9 (e.2))]

/-! ## The checks in order (Table 6.12) -/

/-- What a leaf brings to the checks: its variant's limits, its floor, its failed tiles. -/
structure LoadEnv where
  variant : Nat
  limit : Nat
  recorder : Bool
  saf : Bool
  floor : Nat
  failed : List Nat
  deriving DecidableEq, Repr

/-- The first load check that fails, in the order of Table 6.12; `hash` is the hash recorded when the ward was verified (log entry 44, DEDUCED). -/
def loadCheck (env : LoadEnv) (hash : Option Nat) (b : List Byte) : Option LoadErr :=
  if hash ≠ some (Config.sha384 b) then some ⟨1, 0, 0⟩
  else
    (firstBad 2 (headerConds b)).or <| (firstBad 3 (dirConds b)).or <| (firstBad 4 (setConds b)).or <|
    (firstBad 5 [(cnd (bitOf (leAt b 0x16 1) (env.variant - 1)) 0 0x16)]).or <| (firstBad 6 [(cnd (env.floor ≤ leAt b 0x0C 4) 0 0x0C)]).or <|
    (firstBad 7 (topoConds b env.limit)).or <| (firstBad 8 (mapConds b)).or <| (firstBad 9 (planeConds b (env.failed.contains ·))).or <|
    (firstBad 10 (sendConds b)).or <| (firstBad 11 (routeConds b env.recorder env.saf)).or <| (firstBad 12 (coefConds b)).or <|
    (firstBad 13 (polConds b)).or <| (firstBad 14 (protConds b)).or <| (firstBad 15 (groupConds b)).or (firstBad 16 (smapConds b))

/-- Checks 1 to 3, which make a ward VALID (Table 6.17). -/
def wardValid (hash : Option Nat) (b : List Byte) : Bool :=
  hash = some (Config.sha384 b) && (firstBad 2 (headerConds b)).isNone && (firstBad 3 (dirConds b)).isNone

/-- The image of a container that passes the checks. -/
def imageOf (b : List Byte) : Image :=
  { hash := Config.sha384 b, version := leAt b 8 4, secCtr := leAt b 0x0C 4, period := leAt b 0x17 1, critPath := leAt b 0x18 2,
    stateHash := digestAt b 0x20, mapHash := digestAt b 0x50, arms := armsOf b, ports := portsOf b, tiles := (blocksOf b).map (·.1),
    routes := (routesOf b).map (·.1), coefs := (coefsOf b).map (·.1), pols := (List.range 6).map (polOf b), prot := protOf b,
    groups := (groupsOf b).map (·.1), smap := (smapOf b).map (·.1) }

end Sys2Proof.Machine
end

