-- ==== Sys2Proof/Machine/Stores.lean ====
section
/-! DEFINITION. Stores, package headers and pointers (17_updates.md R522 to R525, R534, Tables 17.2 and 17.4). -/

namespace Sys2Proof.Machine
open Reg

/-! ## Package headers (Table 17.2) -/

def pkKind (h : List Byte) : Nat := leAt h 6 1
def pkSlot (h : List Byte) : Nat := leAt h 7 1
def pkVariants (h : List Byte) : Nat := leAt h 8 1
def pkVersion (h : List Byte) : Nat := leAt h 0x0C 4
def pkSec (h : List Byte) : Nat := leAt h 0x10 4
def pkLength (h : List Byte) : Nat := leAt h 0x14 4
def pkPieces (h : List Byte) : Nat := leAt h 0x18 4
def pkHash (h : List Byte) : Nat := digestAt h 0x20

/-- The SESSION word: bytes 0 to 3 of BODY_HASH, byte 0 on top (Table 17.5). -/
def pkTag (h : List Byte) : Nat := pkHash h / 2 ^ 352

/-- The largest body of a KIND (Table 17.1). -/
def largestBody (kind : Nat) : Nat :=
  match kind with
  | 1 => 4194304
  | 2 => 8388608
  | 3 => 2097152
  | _ => 1044480

/-- MAGIC, FORMAT and the reserved fields are right (R528). -/
def pkForm (h : List Byte) : Bool :=
  h.length = 512 && leAt h 0 4 = 0x4B504B47 && leAt h 4 2 = 1 && zeros h 9 3 && zeros h 0x1C 4 && zeros h 0xB0 240

/-- LENGTH and PIECES are those of R524. -/
def pkSizes (h : List Byte) : Bool := 1 ≤ pkLength h && pkLength h ≤ largestBody (pkKind h) && pkPieces h = (pkLength h + 4095) / 4096

/-- A header is authentic (R525): the fused key hash, the revocation fuses, and the signature. -/
def pkAuthentic (revoked : Nat) (h : List Byte) : Bool :=
  pkSlot h < 4 && Config.sha384 (sliceOf h 0x50 96) = Config.vendorKey (pkSlot h) && !bitOf revoked (pkSlot h) &&
  Config.ecdsaVerify (Config.sha384 (sliceOf h 0x50 96)) (Config.sha384 (sliceOf h 0 0x1A0)) (sliceOf h 0x1A0 96)

/-! ## Stores -/

/-- A piece as it is stored; a piece not stored reads as erased flash. -/
def Store.piece (s : Store) (i : Nat) : List Byte := SMap.get [] s.pieces i

/-- The body bytes of a store. -/
def Store.body (s : Store) : List Byte := ((List.range (pkPieces s.hdr)).flatMap s.piece).take (pkLength s.hdr)

/-- The image in a store is whole: it is verified, its header is authentic and SEC_CTR stands at or above the floor (R536). -/
def Store.bootable (s : Store) (revoked floor : Nat) : Bool :=
  s.hash = some (pkHash s.hdr) && Config.sha384 s.body = pkHash s.hdr && pkAuthentic revoked s.hdr && floor ≤ pkSec s.hdr

/-! ## Pointers (R534) -/

/-- Copy 1 is the newer one: it alone is valid, or both are and its SEQ is the later, modulo 2^32. -/
def Ptr.newer1 (p : Ptr) : Bool := p.c1.valid && (!p.c0.valid || (p.c1.seq + 2 ^ 32 - p.c0.seq) % 2 ^ 32 < 2 ^ 31)

def Ptr.newest (p : Ptr) : PtrCopy := if p.newer1 then p.c1 else p.c0

/-- A pointer write goes to the other copy, with SEQ one higher. -/
def Ptr.write (p : Ptr) (c : PtrCopy) : Ptr :=
  let c := { c with valid := true, seq := (p.newest.seq + 1) % 2 ^ 32 }
  if p.newer1 then { p with c0 := c } else { p with c1 := c }

/-- The copy that names a store: TRIAL with BOOTS 0 and AGE 0, or CONFIRMED. -/
def ptrCopy (second trial fellBack : Bool) (s : Store) : PtrCopy :=
  { second := second, trial := trial, fellBack := fellBack, version := pkVersion s.hdr, secCtr := pkSec s.hdr }

/-! ## The leaf's flash -/

/-- A keying ward: A, or B. -/
def Leaf.keyWard (d : Leaf) (second : Bool) : Store := if second then d.upd.keyB else d.upd.keyA
def Leaf.fwWard (d : Leaf) (second : Bool) : Store := if second then d.upd.fwB else d.upd.fwA

/-- The ward that the keying pointer names, and the boot pointer's. -/
def Leaf.keyPtr (d : Leaf) : Bool := d.upd.kptr.newest.second
def Leaf.bootPtr (d : Leaf) : Bool := d.upd.boot.newest.second

/-- The sessions and stores by KIND: for KINDs 1 and 2 the ward that the pointer does not name (17_updates.md, "Download"). -/
def Leaf.sessOf (d : Leaf) (k : Nat) : Session := SMap.get {} d.upd.sess k
def Leaf.setSess (d : Leaf) (k : Nat) (x : Session) : Leaf := { d with upd := { d.upd with sess := SMap.put {} d.upd.sess k x } }
def Leaf.storeOf (d : Leaf) (k : Nat) : Store :=
  match k with
  | 1 => d.fwWard (!d.bootPtr)
  | 2 => d.keyWard (!d.keyPtr)
  | 3 => d.upd.conc
  | _ => d.upd.cell
def Leaf.setStore (d : Leaf) (k : Nat) (x : Store) : Leaf :=
  match k with
  | 1 => if d.bootPtr then { d with upd := { d.upd with fwA := x } } else { d with upd := { d.upd with fwB := x } }
  | 2 => if d.keyPtr then { d with upd := { d.upd with keyA := x } } else { d with upd := { d.upd with keyB := x } }
  | 3 => { d with upd := { d.upd with conc := x } }
  | _ => { d with upd := { d.upd with cell := x } }

/-- The update engine is writing the keying ward: the ward of an unfinished KIND 2 session (Tables 6.17, 17.3). -/
def Leaf.wardBusy (d : Leaf) (second : Bool) : Bool :=
  second ≠ d.keyPtr && (let s := (d.sessOf 2).st; s = 1 || s = 2 || s = 3)

/-- A ward is VALID: verified and passing checks 1 to 3 (Table 6.17). -/
def Leaf.wardOk (d : Leaf) (second : Bool) : Bool :=
  let w := d.keyWard second
  !d.wardBusy second && w.hash.isSome && wardValid w.hash w.body

/-- The ward registers follow the wards. -/
def Leaf.showWards (d : Leaf) : Leaf :=
  let v (b : Bool) (o n : Nat) := if d.wardOk b then leAt (d.keyWard b).body o n else 0
  ((((((((d.wr KEY_WARD_PTR (b2n d.keyPtr)).wr KEY_WARD_A_VALID (b2n (d.wardOk false))).wr KEY_WARD_B_VALID (b2n (d.wardOk true))).wr KEY_WARD_A_BUSY
    (b2n (d.wardBusy false))).wr KEY_WARD_B_BUSY (b2n (d.wardBusy true))).wr KEY_WARDA_VER_VALUE (v false 8 4)).wr KEY_WARDA_SEC_VALUE
    (v false 12 4)).wr KEY_WARDB_VER_VALUE (v true 8 4)).wr KEY_WARDB_SEC_VALUE (v true 12 4)

/-- The pointer registers follow the pointers (17_updates.md Table 17.11). -/
def Leaf.showPtrs (d : Leaf) : Leaf :=
  let b := d.upd.boot.newest
  let k := d.upd.kptr.newest
  ((((((((((d.wr UPD_BOOT_BOOTS b.boots).wr UPD_BOOT_FELL_BACK (b2n b.fellBack)).wr UPD_BOOT_TRIAL (b2n b.trial)).wr UPD_BOOT_WARD (b2n b.second)).wr
    UPD_BOOT_AGE_AGE b.age).wr UPD_KPTR_BOOTS k.boots).wr UPD_KPTR_FELL_BACK (b2n k.fellBack)).wr UPD_KPTR_TRIAL (b2n k.trial)).wr UPD_KPTR_WARD
    (b2n k.second)).wr UPD_KPTR_AGE_AGE k.age).wr KEY_STATUS_TRIAL (b2n (k.trial && d.key.active.isSome))

/-- The session registers of a KIND follow its session (Table 17.11). -/
def Leaf.showSess (d : Leaf) (k : Nat) : Leaf :=
  let s := d.sessOf k
  let on := s.st ≠ 0
  ((((d.wr UPD_Sk_STATE_STATE s.st (k - 1)).wr UPD_Sk_STATE_STORED s.bits.length (k - 1)).wr UPD_Sk_STATE_PIECES
    (if on then pkPieces s.hdr else 0) (k - 1)).wr UPD_Sk_VER_VALUE (if on then pkVersion s.hdr else 0) (k - 1)).wr UPD_Sk_SEC_VALUE
    (if on then pkSec s.hdr else 0) (k - 1)

/-- The keying or boot pointer is written. -/
def Leaf.writeKptr (d : Leaf) (c : PtrCopy) : Leaf := ({ d with upd := { d.upd with kptr := d.upd.kptr.write c } }).showPtrs.showWards
def Leaf.writeBoot (d : Leaf) (c : PtrCopy) : Leaf := ({ d with upd := { d.upd with boot := d.upd.boot.write c } }).showPtrs

end Sys2Proof.Machine
end

