-- ==== Sys2Proof/Machine/FwOps.lean ====
section
/-! DEFINITION. The firmware banks of a concentrator and of a cell: boot, reception of a package, trial and fallback (17_updates.md R534 to
R540, R545, R547, R548), and the restart of a cell's core (09_cell_measurement_and_sleep.md R344 to R346). -/

namespace Sys2Proof.Machine
open Reg

/-! ## Booting (R536) -/

/-- The pointer naming the other store, CONFIRMED, with FELL_BACK. -/
def Ptr.fall (p : Ptr) (second : Bool) (store : Bool → Store) : Ptr := p.write (ptrCopy second false true (store second))

/-- The pointer after a boot and the store that is started: the named one, the other where the named one is at its third boot in TRIAL or
fails, none where no valid image remains. -/
def Ptr.boot (p : Ptr) (store : Bool → Store) (ok : Bool → Bool) : Ptr × Option Bool :=
  let c := p.newest
  if c.trial && 3 ≤ c.boots then
    let q := p.fall (!c.second) store
    if ok (!c.second) then (q, some (!c.second))
    else if ok c.second then (q.fall c.second store, some c.second)
    else (p, none)
  else if ok c.second then (if c.trial then p.write { c with boots := c.boots + 1 } else p, some c.second)
  else if ok (!c.second) then (p.fall (!c.second) store, some (!c.second))
  else (p, none)

/-- AGE of a TRIAL image grows by `secs` (R537). -/
def Ptr.older (p : Ptr) (secs : Nat) : Ptr := if p.newest.trial then p.write { p.newest with age := p.newest.age + secs } else p

/-- The trial has reached 86,400 s (R537). -/
def Ptr.expired (p : Ptr) : Bool := p.newest.trial && 86400 ≤ p.newest.age

/-- CONFIRMED is written where the pointer is in TRIAL (R538). -/
def Ptr.confirm (p : Ptr) : Ptr := if p.newest.trial then p.write { p.newest with trial := false } else p

/-! ## The two banks of a part -/

def PartFw.bank (f : PartFw) (b : Bool) : Store := if b then f.bank1 else f.bank0
def PartFw.setBank (f : PartFw) (b : Bool) (s : Store) : PartFw := if b then { f with bank1 := s } else { f with bank0 := s }
def PartFw.idle (f : PartFw) : Store := f.bank (!f.run)
def PartFw.setIdle (f : PartFw) (s : Store) : PartFw := f.setBank (!f.run) s

/-- VERSION of the running image; 0 while none runs. -/
def PartFw.version (f : PartFw) : Nat := if f.up then pkVersion (f.bank f.run).hdr else 0
def PartFw.secCtr (f : PartFw) : Nat := if f.up then pkSec (f.bank f.run).hdr else 0
/-- VERSION of the idle bank; 0 unless VERIFIED. -/
def PartFw.idleVersion (f : PartFw) : Nat := if f.sess.st = 4 then pkVersion f.sess.hdr else 0

/-- The part reads its pointer and starts an image (R536). -/
def PartFw.boot (revoked floor : Nat) (f : PartFw) : PartFw :=
  let r := f.ptr.boot f.bank fun b => (f.bank b).bootable revoked floor
  match r.2 with
  | some b => { f with ptr := r.1, run := b, up := true, fallbackWait := false }
  | none => { f with ptr := r.1, up := false, fallbackWait := false }

/-- The other bank is named, as for BOOTS at 3 (R537). -/
def PartFw.fallBack (f : PartFw) : PartFw := { f with ptr := f.ptr.fall (!f.ptr.newest.second) f.bank }

/-! ## Reception (R547, R548) -/

/-- Fragments 0 to n-1 put together; none while one of `size` bytes is missing. -/
def joinFrags (n size : Nat) (fr : SMap (List Byte)) : Option (List Byte) :=
  if (List.range n).all fun i => (SMap.get [] fr i).length = size then some ((List.range n).flatMap fun i => SMap.get [] fr i) else none

/-- A header of a new SESSION passes R525, and the part's own floor (R548) (log entry 31, DEDUCED). -/
def headerOk (revoked kind floor tag : Nat) (h : List Byte) : Bool :=
  pkForm h && pkKind h = kind && pkSizes h && pkTag h = tag && pkAuthentic revoked h && floor ≤ pkSec h

/-- HEADER: a fragment of a header of a new SESSION; the whole header opens the session on an erased idle bank (log entry 31, DEDUCED). -/
def PartFw.header (revoked kind n floor : Nat) (u : UpdFrame) (f : PartFw) : PartFw :=
  if u.session = f.tag && f.sess.st ≠ 0 then f
  else
    let fr := SMap.put [] (if u.session = f.newTag then f.hdrFrags else []) u.frag u.data
    match joinFrags n (512 / n) fr with
    | none => { f with newTag := u.session, hdrFrags := fr }
    | some h =>
      let f := { f with newTag := u.session, hdrFrags := [] }
      if headerOk revoked kind floor u.session h then
        { f.setIdle { hdr := h } with tag := u.session, sess := { st := 1, hdr := h }, dataFrags := [] }
      else f

/-- A whole piece: stored when its CRC holds and its bit is not set (R526, R548, R550). -/
def PartFw.storePiece (i crc : Nat) (p : List Byte) (f : PartFw) : PartFw :=
  if pkPieces f.sess.hdr ≤ i || crc32c (leBytes 4 i ++ p) ≠ crc || SMap.get 0 f.sess.bits i ≠ 0 then f
  else
    let bs := SMap.put 0 f.sess.bits i 1
    let f := f.setIdle { f.idle with pieces := SMap.put [] f.idle.pieces i p }
    { f with sess := { f.sess with bits := bs, st := if bs.length = pkPieces f.sess.hdr then 2 else 1 } }

/-- DATA: a fragment of a piece; the last one, with the CRC, closes the piece (log entry 31, DEDUCED). -/
def PartFw.data (n : Nat) (u : UpdFrame) (f : PartFw) : PartFw :=
  if u.session ≠ f.tag || f.sess.st ≠ 1 then f
  else
    let fr := SMap.put [] (if u.index = f.dataIndex then f.dataFrags else []) u.frag u.data
    let f := { f with dataIndex := u.index, dataFrags := fr }
    if u.frag + 1 = n then
      match joinFrags n (4096 / n) fr with
      | some p => { f with dataFrags := [] }.storePiece u.index u.crc p
      | none => { f with dataFrags := [] }
    else f

/-- VERIFY: a complete bitmap is hashed, and the bank is VERIFIED, or its bitmap is cleared (R543, Table 17.3) (log entry 31, DEDUCED). -/
def PartFw.verify (u : UpdFrame) (f : PartFw) : PartFw :=
  if u.session ≠ f.tag || f.sess.st ≠ 2 then f
  else if Config.sha384 f.idle.body = pkHash f.sess.hdr then
    { f.setIdle { f.idle with hash := some (pkHash f.sess.hdr) } with sess := { f.sess with st := 4 } }
  else { f with sess := { f.sess with st := 1, bits := [] } }

/-- ABORT: the idle-bank session is erased. -/
def PartFw.abort (u : UpdFrame) (f : PartFw) : PartFw :=
  if u.session ≠ f.tag || f.sess.st = 0 then f else { f.setIdle {} with sess := {}, dataFrags := [] }

/-- The idle bank is named in TRIAL: the activation takes effect (R535). -/
def PartFw.activate (f : PartFw) : PartFw := { f with ptr := f.ptr.write (ptrCopy (!f.run) true false f.idle), sess := {} }

/-- An ACTIVATE frame names the VERIFIED idle bank. -/
def PartFw.canActivate (u : UpdFrame) (f : PartFw) : Bool := u.session = f.tag && f.sess.st = 4

/-! ## The registers (Tables 17.12, 17.13) -/

def Concentrator.showFw (d : Concentrator) : Concentrator :=
  let c := d.fw.ptr.newest
  (((((d.wr AID_FW_STATUS_BOOTS c.boots).wr AID_FW_STATUS_SESSION d.fw.sess.st).wr AID_FW_STATUS_TRIAL (b2n (c.trial && d.fw.up))).wr
    AID_FW_STATUS_RUN_BANK (b2n d.fw.run)).wr AID_FW_RUN_VERSION d.fw.version).wr AID_FW_IDLE_VERSION d.fw.idleVersion

def Cell.showFw (d : Cell) : Cell :=
  let c := d.fw.ptr.newest
  let d := ((d.wr CUPD_STATUS_BOOTS c.boots).wr CUPD_STATUS_SESSION d.fw.sess.st).wr CUPD_STATUS_TRIAL (b2n (c.trial && d.fw.up))
  let d := ((d.wr CUPD_STATUS_RUN_BANK (b2n d.fw.run)).wr CUPD_VER_RUN_VERSION d.fw.version).wr CUPD_VER_IDLE_VERSION d.fw.idleVersion
  (((d.wr CUPD_SESSION_TAG d.fw.tag).wr CUPD_PIECES_STORED d.fw.sess.bits.length).wr CUPD_PIECES_PIECES
    (if d.fw.sess.st = 0 then 0 else pkPieces d.fw.sess.hdr)).wr CUPD_TRIAL_AGE_AGE c.age

def Concentrator.onFw (f : PartFw → PartFw) (d : Concentrator) : Concentrator := { d with fw := f d.fw }.showFw
def Cell.onFw (f : PartFw → PartFw) (d : Cell) : Cell := { d with fw := f d.fw }.showFw

/-! ## The restart of a cell's core (R344 to R346, R545) -/

/-- The retention, and what lies in flash, as registers: they outlive a wake from sleep (Table 9.6) (log entry 31, DEDUCED). -/
def keptFields : List Fld :=
  [CBYP_CFG_LOCK, CBYP_CFG_CONFIRM_MS, CBYP_OV_HARD, CBYP_STATUS_CAUSE, CBYP_STATUS_BOLT_UNCONF, CTRP_CNT_TRIPS, CBYP_CNT_PULSES,
   CRET_SLEEP_WAKE_V, CRET_SLEEP_SLEEP_V, CRET_STATUS_WAKES, CRET_STATUS_VALID, CRET_STATUS_UNCORR, CRET_SCRUB_PASSES, CRET_SCRUB_CORR,
   CRET_SCRUB_UNCORR, CRET_LOG_IDX_HEAD, CUPD_STATUS_FELL_BACK, CUPD_FLOOR_FLOOR, CBYP_STATUS_AUX]

/-- What a wake from off keeps: the flash, and the level of BYP_AUX (log entry 31, DEDUCED). -/
def offFields : List Fld := [CUPD_STATUS_FELL_BACK, CUPD_FLOOR_FLOOR, CBYP_STATUS_AUX]

/-- What a restart for new firmware keeps beside them: TYPE, the trip inputs and the deadbolt latch (R545, R550, log entry 31, DEDUCED). -/
def restartFields : List Fld := [CPWM_STATUS_TYPE, CTRP_STATUS_SEEN, CTRP_STATUS_LEVEL, CFLT_STATUS_DEADBOLT, CRET_STATUS_FROM_OFF]

/-- A bank with the fields of `fs` as they stand and every other field at its reset value. -/
def Cell.keep (d : Cell) (fs : List Fld) : SMap Nat := fs.foldl (fun b f => bankWr b f (d.rd f) 0) []

/-- BOLTED is held, in one of the three copies or by the switch itself (R293, R336) (log entry 30, DEDUCED). -/
def Cell.holdsBolt (d : Cell) : Bool := d.ret.bolt0 || d.ret.bolt1 || d.ret.bolt2 || d.is CBYP_STATUS_AUX

/-- The bolt sequence starts at the wake of a bolted cell (R293; 19_power_reset_startup.md R586) (log entry 30, DEDUCED). -/
def Cell.wakeBolted (d : Cell) : Cell :=
  let d := { (d.enter .bolted).wr CBYP_STATUS_BOLTED 1 with trip := { firing := !d.is CBYP_STATUS_AUX } }
  (if d.trip.firing then d.firePulse else d).coilOn

/-- A wake: the core comes up, the firmware bank is chosen, the lane begins its bring-up, and a wake entry is logged (R344 to R346) (log entry 30, DEDUCED). -/
def Cell.wake (c : CellId) (fs : List Fld) (d : Cell) : Cell :=
  let d := { d with bank := d.keep fs, remote := [], lanes := [], timeUnset := true, time := 0, cyc := 0, conv := 0, pow := .run, held := false,
                    sw := {}, trip := {}, adc := { calReq := true } }
  let d := (((d.wr (XX_CTL_EN.at 0x400) 1).wr (XX_STATE_STATE.at 0x400) 1).wr CADC_CAL_REQ 1).closeRecs (fun _ => true)
  let d := d.onFw (PartFw.boot d.ident.revoked (d.rd CUPD_FLOOR_FLOOR))
  let d := if d.holdsBolt then d.wakeBolted else d
  let err := d.ret.errWait
  let d := { d with ret := { d.ret with errWait := false } }.logRec c (d.errorRec 0x8F01 .note 0 0)
  if err then d.raise c 0x8601 .alarm else d

/-- A wake from off (R344): the retention is new, with WAKES 1. -/
def Cell.wakeFromOff (c : CellId) (d : Cell) : Cell :=
  let d := { (((d.wr CRET_STATUS_VALID 1).wr CRET_STATUS_FROM_OFF 1).wr CRET_STATUS_WAKES 1) with ret := { latch := true } }
  d.wake c (CRET_STATUS_VALID :: CRET_STATUS_FROM_OFF :: CRET_STATUS_WAKES :: offFields)

/-- A wake from sleep (R345). -/
def Cell.wakeFromSleep (c : CellId) (d : Cell) : Cell := (d.sat CRET_STATUS_WAKES).wake c keptFields

/-- The restart for new firmware begins: the gates go low, and the cell is UPDATING unless a trip, a bypass or a bolt stands (R545, R550) (log entry 31, DEDUCED). -/
def Cell.beginRestart (d : Cell) : Cell :=
  if d.sw.st = .bolted || d.sw.st = .tripBlocked || d.sw.st = .bypassFired then d else (d.endLocal.turnOff).enter .updating

/-- A restart for new firmware is under way: the pointer names another bank than the one that runs. -/
def Cell.restarting (d : Cell) : Bool := d.sw.st = .updating || d.fw.ptr.newest.second ≠ d.fw.run

/-- The restart ends (R545, R550): the core as at a wake from sleep, without a wake; the lane stays UP. -/
def Cell.endRestart (d : Cell) : Cell :=
  let old := d.sw
  let lane := d.bank.filter fun e => 0x400 * 32 ≤ e.1 && e.1 < 0x480 * 32 && e.1 / 32 ≠ 0x428
  let d := { d with bank := lane.foldl (fun (m : SMap Nat) (e : Nat × Nat) => SMap.ins m e.1 e.2) (d.keep (keptFields ++ restartFields)), remote := [],
                    sw := { start := old.start, len := old.len, now := old.now, slips := old.slips, held := old.held, laneClock := old.laneClock,
                            laneMarked := old.laneMarked, edges := old.edges, lowAt := old.lowAt },
                    adc := { calReq := true, seq := d.adc.seq } }
  let d := (d.wr CADC_CAL_REQ 1).onFw (PartFw.boot d.ident.revoked (d.rd CUPD_FLOOR_FLOOR))
  let st : CellSt := if old.st = .bolted then .bolted else if old.st = .bypassFired then .bypassFired
    else if old.st = .tripBlocked || d.rd CTRP_STATUS_SEEN ≠ 0 then .tripBlocked else .starting
  (d.enter st).wr CBYP_STATUS_BOLTED (b2n (st = .bolted))

/-! ## Trial and fallback of a cell (R537) -/

/-- The cell falls back to its other bank, or waits while the converter moves. -/
def Cell.fallBackFw (d : Cell) : Cell :=
  if d.conv = 2 || d.conv = 4 then { d with fw := { d.fw with fallbackWait := true } }
  else ((d.onFw fun f => { f.fallBack with fallbackWait := false }).wr CUPD_STATUS_FELL_BACK 1).beginRestart

/-- A fallback that waits takes place at the first state in which the converter does not move. -/
def Cell.judgeFallback (d : Cell) : Cell := if d.fw.fallbackWait && !(d.conv = 2 || d.conv = 4) then d.fallBackFw else d

end Sys2Proof.Machine
end

