-- ==== Sys2Proof/Machine/CellSwitch.lean ====
section
/-! DEFINITION. The switching unit of a cell (08_cell_switching.md R272 to R304), the silence rule (03_control_cycle.md R115, R116)
and the CONTROL frame (10_flenor_links.md R361). -/

namespace Sys2Proof.Machine
open Reg

/-! ## Control frames and the cycle grid -/

/-- The length of cycle `k` in ticks, planned slip included: one FCLK cycle is two ticks (R75, Table 10.6). -/
def Cell.lenOf (g : Grid) (d : Cell) (k : Nat) : Nat :=
  match SMap.get 0 d.sw.slips (k % 65536) with
  | 1 => g.tc - 2
  | 2 => g.tc + 2
  | _ => g.tc

/-- A word that is valid for the cell's TYPE (04_tumblers_and_arm_modulation.md R159). -/
def Cell.wordOk (d : Cell) (w : Nat) : Bool :=
  let cmd := bits w 15 13
  let f := bits w 11 0
  cmd ≤ 5 && !((cmd = 3 || cmd = 5) && d.rd CPWM_STATUS_TYPE ≠ 2) && (if 4 ≤ cmd then f ≠ 0 else f = 0)

/-- The plan of slips that a control frame carries for its latch cycle and the seven after it (Table 10.6). -/
def storeSlips (lc plan : Nat) (m : SMap Nat) : SMap Nat :=
  (List.range 8).foldl (fun m i => SMap.put 0 m ((lc + i) % 65536) (bits plan (2 * i + 1) (2 * i))) m

/-- The word held for a cycle number. -/
def Cell.heldFor (d : Cell) (k : Nat) : Option HeldWord := d.sw.held.find? (·.cycle = k % 65536)

/-! ## Ideal states (R277 to R281) -/

/-- The smallest on-time of the gates that an ideal state of length `w` turns on; none when it turns none on (R279). -/
def Cell.onTime (d : Cell) (p s : Nat) (w : Int) : Option Int :=
  (List.range 4).foldl (fun a g =>
    if bitOf s g && !bitOf p g then
      let t := w + (d.rd CPWM_DLYn_FALL g : Nat) - (d.rd CPWM_DLYn_RISE g : Nat)
      some (match a with | some x => min x t | none => t)
    else a) none

/-- The applied minimum pulse M (R279). -/
def Cell.minPulse (d : Cell) : Nat :=
  min (d.rd CPWM_MINP_MINP) ((if d.localMode then d.rd CPWM_PERIOD_ACT_VALUE else d.sw.len) / 4)

/-- A state of length `w` is short (R279) (log entry 24, DEDUCED). -/
def Cell.short (d : Cell) (p s : Nat) (w : Int) : Bool :=
  match d.onTime p s w with
  | some t => t < (d.minPulse : Nat) || t ≤ 0
  | none => false

/-- The first drop or stretch since CPWM_SHORT_CNT was last read raises one NOTE (R281). -/
def Cell.noteShort (c : CellId) (d : Cell) : Cell :=
  if d.sw.shortNoted then d
  else { (d.raise c 0x8102 .note) with sw := { (d.raise c 0x8102 .note).sw with shortNoted := true } }

/-- The transitions of the plan judged one after the other: `x` is the state judged, `p` the one before it, `begun` that its transition
has been made; `n` bounds the recursion. The result is the plan from `x` on. A short state that has begun cannot be
dropped and stays (log entry 24, DEDUCED). Transitions that a stretched one overtakes collapse into the last of them (log entry 24, DEDUCED). -/
def Cell.shapeN (c : CellId) : Nat → Nat → Ideal → Bool → List Ideal → Cell → Cell × List Ideal
  | 0, _, x, begun, rest, d => (d, if begun then rest else x :: rest)
  | _ + 1, _, x, begun, [], d => (d, if begun then [] else [x])
  | n + 1, p, x, begun, y :: r, d =>
    let own := if begun then [] else [x]
    if d.short p x.st ((y.tick : Int) - (x.tick : Nat)) then
      if d.is CPWM_CTL_SHORT then
        let need := max (d.minPulse : Int) 1 - ((d.onTime p x.st 0).getD 0)
        let t := (((x.tick : Nat) : Int) + need).toNat
        let z := ((y :: r).takeWhile (fun z => z.tick ≤ t)).getLast?.getD y
        let after := (y :: r).dropWhile (fun z => z.tick ≤ t)
        let d := (d.sat CPWM_SHORT_CNT_STRETCHED).noteShort c
        if z.st = x.st then Cell.shapeN c n p x begun after d
        else
          let q := Cell.shapeN c n x.st { z with tick := t } false after d
          (q.1, own ++ q.2)
      else if begun then Cell.shapeN c n x.st y false r d
      else
        let d := (d.sat CPWM_SHORT_CNT_DROPPED).noteShort c
        if y.st = p then
          match r with
          | [] => (d, [])
          | z :: r => Cell.shapeN c n p z false r d
        else Cell.shapeN c n p y false r d
    else
      let q := Cell.shapeN c n x.st y false r d
      (q.1, own ++ q.2)

/-- The plan judged under R279 and R280 (log entry 24, DEDUCED). -/
def Cell.shape (c : CellId) (d : Cell) : Cell :=
  let m := d.minPulse
  let d := if m < d.rd CPWM_MINP_MINP then d.wr CPWM_STATUS_MINP_CLAMPED 1 else d
  let q := Cell.shapeN c (2 * d.sw.plan.length + 2) d.sw.before ⟨d.sw.since, d.sw.ideal, false⟩ true d.sw.plan d
  { q.1 with sw := { q.1.sw with plan := q.2 } }

/-- The state in force after the plan. -/
def Cell.lastIdeal (d : Cell) : Nat := match d.sw.plan.getLast? with | some x => x.st | none => d.sw.ideal

/-- The command that a word holds outside its pulse (R155). -/
def baseCmd (w : Nat) : Nat := if 4 ≤ bits w 15 13 then 1 else bits w 15 13

/-- The first ideal transition of the word held for the next cycle ends the last state of the plan (R279): it joins the plan, not yet
executed. -/
def Cell.lookAhead (d : Cell) : Cell :=
  match d.heldFor (d.cyc + 1) with
  | some w =>
    let b := d.idealOf (baseCmd w.word)
    if b / 16 = d.lastIdeal / 16 then d
    else { d with sw := { d.sw with plan := d.sw.plan ++ [⟨d.sw.start + d.sw.len + w.ofs, b, true⟩] } }
  | none => d

/-- The ideal transitions of a word latched at `l` in a cycle of `lc` ticks, from the state `last`, not before `t0` (R155, R277,
R281). -/
def Cell.wordPlan (d : Cell) (w l lc t0 last : Nat) : List Ideal :=
  let cmd := bits w 15 13
  let base := d.idealOf (baseCmd w)
  let lead := if base / 16 = last / 16 then [] else [(⟨t0, base, false⟩ : Ideal)]
  if cmd < 4 then lead
  else
    let width := (bits w 11 0 * lc + 2048) / 4096
    let ps := l + (lc - width) / 2
    let pe := ps + width
    let pol := d.idealOf (cmd - 2)
    if width = 0 || pe ≤ t0 then lead
    else if ps ≤ t0 then (if pol / 16 = last / 16 then [] else [⟨t0, pol, false⟩]) ++ [⟨pe, base, false⟩]
    else lead ++ [⟨ps, pol, false⟩, ⟨pe, base, false⟩]

/-- A word is executed at its latch time (R273). It overrides the transitions of the word before it from that time on (log entry 24, DEDUCED). -/
def Cell.execWord (c : CellId) (h : HeldWord) (d : Cell) : Cell :=
  let l := d.sw.start + h.ofs
  let d := d.runTo c (l - 1)
  let t0 := max l (match d.sw.plan.find? (·.tentative) with | some x => x.tick | none => l)
  let d := { d with sw := { d.sw with plan := d.wordPlan h.word l d.sw.len t0 d.sw.ideal, now := max d.sw.now l,
                                      executed := true } }
  let d := (d.wr CPWM_LAST_CYCLE h.cycle).wr CPWM_LAST_WORD h.word
  (d.lookAhead.shape c).runTo c l

/-! ## The commands of the grid -/

/-- A CONTROL frame (10_flenor_links.md R361; R88, R274, R275). Bit 0 of the body is bit 16 of the frame. -/
def Cell.control (g : Grid) (c : CellId) (body : Nat) (crcOk : Bool) (d : Cell) : Cell :=
  if !crcOk then d.sat (XX_ERR_BAD.at 0x400)
  else
    let d := ({ d with conv := bits body 218 215 }).judgeFallback
    let lc := bits body 214 199
    let ofs := bits body 198 187 + 4096 * bits body 186 184
    let w := bits body 182 167
    let ahead := (lc + 65536 - d.cyc % 65536) % 65536
    let slips := storeSlips lc (bits body 166 151) d.sw.slips
    let d' := { d with sw := { d.sw with slips := slips } }
    if 4 < ahead || !d.wordOk w || d'.lenOf g lc ≤ ofs then d
    else if ahead = 0 then (d'.sat CPWM_CMD_CNT_LATE).wr CPWM_STATUS_LATE_CMD 1
    else if (d'.heldFor lc).isSome then d'.sat CPWM_CMD_CNT_DUP
    else
      let d' := { d' with sw := { d'.sw with held := d'.sw.held ++ [⟨lc, ofs, w, bits body 150 119⟩] } }
      if ahead = 1 && d'.sw.latched && d'.sw.st = .ready && !d'.localMode then d'.lookAhead.shape c else d'

def execControl (c : CellId) (body : BitVec 219) (crcOk : Bool) (s : State) : Host.Outcome State Fault Refusal :=
  onCell c s fun d => d.runs (Cell.control s.grid c body.toNat crcOk)

/-- The held-back writes of a map of words take effect (R282, R317). CPWM_CTL.MODE is not held back (R295, R300) (log entry 76, DEDUCED). -/
def Cell.applyHeld (m : SMap Nat) (d : Cell) : Cell :=
  let fs := cellFields.filter fun f => f.acc = .rw && !(f.off = 0x100 && f.lo = 0)
  { d with bank := m.foldl (fun b p => bankStore fs p.1 p.2 b) d.bank }

/-- The held-back writes to the switching unit (log entry 76, DEDUCED). -/
def Cell.applyPwm (d : Cell) : Cell :=
  let d := d.applyHeld d.sw.pwmHeld
  { d with sw := { d.sw with pwmHeld := [] } }

/-- The held-back writes to the converter take effect while no run is in progress and none is pending (R317) (log entry 76, DEDUCED). -/
def Cell.applyAdc (d : Cell) : Cell :=
  let busy := d.adc.pend ≠ [] || d.adc.susp.isSome || (match d.adc.job with | .entry _ _ _ => true | _ => false)
  if busy then d
  else
    let d := d.applyHeld d.sw.adcHeld
    { d with sw := { d.sw with adcHeld := [] } }

/-- A compare point at or beyond the length of the period or cycle sets CMP_RANGE (R301). -/
def Cell.judgeCompares (len : Nat) (d : Cell) : Cell :=
  if (List.range 4).any fun n => d.is CPWM_CMPn_EN n && len ≤ d.rd CPWM_CMPn_POINT n then d.wr CPWM_STATUS_CMP_RANGE 1 else d

/-- The cycle that begins is silent, or has a valid control frame (03_control_cycle.md R115, R116). -/
def Cell.countSilence (d : Cell) : Cell :=
  if (d.heldFor d.cyc).isSome then
    { (d.wr CLNK_SILENCE_SILENT_NOW 0) with sw := { d.sw with validRun := d.sw.validRun + 1 } }
  else { (d.sat CLNK_SILENCE_SILENT_NOW) with sw := { d.sw with validRun := 0 } }

/-- Two valid control frames in consecutive cycles end SIL_BLOCKED while the lane clock is locked (R116, Table 8.5). -/
def Cell.judgeSilence (d : Cell) : Cell :=
  if d.sw.st = .silBlocked && 2 ≤ d.sw.validRun && d.sw.laneClock then d.enter .ready else d

/-- The start of a cycle on the cell's grid (R115, R282, R301, R317, R326). -/
def Cell.cycleStart (g : Grid) (c : CellId) (d : Cell) : Cell :=
  let k := d.cyc + 1
  let start := d.sw.start + d.sw.len
  let d := { d with cyc := k, time := d.time + (d.sw.len : Int) * 40960 }
  let len := d.lenOf g k
  let near (h : HeldWord) := let a := (h.cycle + 65536 - k % 65536) % 65536; a ≤ 4 || a = 65535
  let d := { d with sw := { d.sw with start := start, len := len, latched := false, held := d.sw.held.filter near,
                                      slips := SMap.put 0 d.sw.slips ((k + 65535) % 65536) 0 } }
  let d := d.runTo c start
  let d := if d.localMode then d else d.applyPwm.judgeCompares len
  let d := d.applyAdc
  let d := if d.adc.calNew then { (d.wr CADC_STATUS_CAL_OK 1) with adc := { d.adc with calNew := false } } else d
  let d := { d with adc := { d.adc with sinceSlice := d.adc.sinceSlice + 1 } }
  let d := if d.localMode && d.sw.locNext = none then { d with sw := { d.sw with locNext := some start } } else d
  d.countSilence.judgeSilence.judgeStart

def execCellCycleStart (c : CellId) (s : State) : Host.Outcome State Fault Refusal :=
  onCell c s fun d => d.runs (Cell.cycleStart s.grid c)

/-- The latch time of the running cycle (R273); `overlap`: both gates of a pair read back high for 20 ns (14_faults.md Table 14.8). -/
def Cell.latchTime (c : CellId) (overlap : Bool) (d : Cell) : Cell :=
  let d := if overlap then d.deadbolt c 0x8103 else d
  if d.sw.latched then d
  else
    let go := d.sw.st = .ready && !d.localMode && d.sw.laneClock && !d.is CFLT_STATUS_DEADBOLT
    let d := { d with sw := { d.sw with latched := true } }
    match d.heldFor d.cyc with
    | some h => if go then d.execWord c h else d
    | none => d

def execLatchTime (c : CellId) (overlap : Bool) (s : State) : Host.Outcome State Fault Refusal :=
  onCell c s fun d => d.runs (Cell.latchTime c overlap)

/-- The silence limit is reached (R116, Table 8.5). -/
def Cell.silenceBlock (c : CellId) (d : Cell) : Cell :=
  if d.sw.st = .ready && d.rd CLNK_SILENCE_SILENCE ≤ d.rd CLNK_SILENCE_SILENT_NOW then
    let d := ((d.endLocal.turnOff).enter .silBlocked).wr CLNK_SILENCE_SIL_BLOCKED 1
    d.raise c 0x8703 .note
  else d

def execSilenceBlock (c : CellId) (s : State) : Host.Outcome State Fault Refusal :=
  onCell c s fun d => d.runs (Cell.silenceBlock c)

/-- A read of CPWM_SHORT_CNT re-arms its NOTE (R281). -/
def Cell.shortCntRead (d : Cell) : Cell :=
  { d with rdata := d.rd CPWM_SHORT_CNT_STRETCHED * 65536 + d.rd CPWM_SHORT_CNT_DROPPED,
           sw := { d.sw with shortNoted := false } }

def execCpwmShortCntRead (c : CellId) (s : State) : Host.Outcome State Fault Refusal := onCell c s fun d => d.runs Cell.shortCntRead

/-! ## Soft turn-off (R283) -/

/-- Log entry 6, DESIGN CHOICE. -/
def Cell.leadExpired (d : Cell) : Cell := if d.sw.lead then d.allLow else d

def execSoftOffLeadExpired (c : CellId) (s : State) : Host.Outcome State Fault Refusal := onCell c s fun d => d.runs Cell.leadExpired

def Cell.holdExpired (d : Cell) : Cell :=
  if d.is CPWM_GATES_SOFT_OFF then ((d.wr CPWM_GATES_SOFT_OFF 0).emit (.pin "SOFT_OFF" 0)).edgesTo d.sw.now else d

def execSoftOffHoldExpired (c : CellId) (s : State) : Host.Outcome State Fault Refusal := onCell c s fun d => d.runs Cell.holdExpired

/-! ## Trips (R284 to R288) -/

/-- The KC-0020 has two trip inputs. -/
def Cell.hasInput (d : Cell) (i : Nat) : Bool := d.ident.variant = 1 || i < 2

/-- The state reached when the cell re-arms, or is released (Table 8.5); STARTING while its start-up conditions have never been met
since the wake (R290, R346; log entry 25, DEDUCED). -/
def Cell.resume (d : Cell) : CellSt :=
  if !d.sw.started then .starting
  else if d.rd CLNK_SILENCE_SILENCE ≤ d.rd CLNK_SILENCE_SILENT_NOW then .silBlocked
  else if d.is CADC_STATUS_UV then .undervolt
  else .ready

/-- The reaction to an enabled input that has become active, by state (R285, R286, R288, Table 8.5). -/
def Cell.tripReact (c : CellId) (inp : Nat) (d : Cell) : Cell :=
  let seen := d.wr CTRP_STATUS_SEEN (setBit (d.rd CTRP_STATUS_SEEN) inp true)
  let report (d : Cell) := d.raiseRec c (d.errorRec 0x8201 .trip (2 ^ inp) 0)
  match d.sw.st with
  | .bolted => seen
  | .updating => report seen
  | .tripBlocked => report (seen.sat CTRP_CNT_MERGED)
  | .bypassFired =>
    let d := report seen.countTrip
    if 3 ≤ d.trip.window.length then d.bolt c 2 else d
  | _ =>
    let d := seen.countTrip
    if 3 ≤ d.trip.window.length then (report d).bolt c 2 else report d.tripBlock

/-- A filtered trip input becomes active, or inactive (R284, R285). An input that is not enabled only shows its level. -/
def Cell.tripInput (c : CellId) (inp : Nat) (active : Bool) (d : Cell) : Cell :=
  if !d.hasInput inp || bitOf (d.rd CTRP_STATUS_LEVEL) inp = active then d
  else
    let on := bitOf (d.rd CTRP_CFG_EN) inp
    let d := d.wr CTRP_STATUS_LEVEL (setBit (d.rd CTRP_STATUS_LEVEL) inp active)
    if !on then d
    else if active then d.tripReact c inp
    else { d with trip := { d.trip with quiet := d.trip.ms } }

def execTrip (c : CellId) (inp : Fin 4) (active : Bool) (s : State) : Host.Outcome State Fault Refusal :=
  onCell c s fun d => d.runs (Cell.tripInput c inp.val active)

/-- A write to CTRP_FILTn (R284). -/
def Cell.filtWrite (i val : Nat) (d : Cell) : Cell := if d.hasInput i then d.wr CTRP_FILTn_FILT (bits val 7 0) i else d

def execCtrpFiltWrite (c : CellId) (i : Fin 4) (val : Word) (s : State) : Host.Outcome State Fault Refusal :=
  onCell c s fun d => d.takes (Cell.filtWrite i.val val.toNat)

/-- The cell re-arms (R287) (log entry 25, DEDUCED). -/
def Cell.rearm (d : Cell) : Cell :=
  if d.sw.st = .tripBlocked && !d.is CFLT_STATUS_DEADBOLT && !d.tripActive && d.trip.quiet + d.rd CTRP_CFG_REARM_MS ≤ d.trip.ms &&
      (d.is CTRP_CFG_AUTO || d.is CTRP_STATUS_CLEAR_PEND) then
    let d := ((d.wr CTRP_STATUS_SEEN 0).wr CTRP_STATUS_CLEAR_PEND 0).closeRecs fun r => r.cls.code = 2
    d.enter d.resume
  else d

def execRearm (c : CellId) (s : State) : Host.Outcome State Fault Refusal := onCell c s fun d => d.runs Cell.rearm

/-- A CLEAR is kept until the cell re-arms (R287). -/
def Cell.tripClear (val : Nat) (d : Cell) : Cell :=
  if bitOf val 0 && d.sw.st = .tripBlocked then d.wr CTRP_STATUS_CLEAR_PEND 1 else d

def execCtrpClear (c : CellId) (val : Word) (s : State) : Host.Outcome State Fault Refusal :=
  onCell c s fun d => d.takes (Cell.tripClear val.toNat)

/-! ## Bypass and bolting (R289 to R294) -/

/-- Another fire pulse, 500 µs after the last. -/
def Cell.fireTimer (d : Cell) : Cell := if d.trip.firing then d.firePulse else d

def execFirePulseTimer (c : CellId) (s : State) : Host.Outcome State Fault Refusal := onCell c s fun d => d.powered Cell.fireTimer

def Cell.coilEnd (d : Cell) : Cell :=
  if d.trip.coil then { d with trip := { d.trip with coil := false } }.emit (.pin "BYP_CLOSE" 0) else d

def execCoilPulseEnd (c : CellId) (s : State) : Host.Outcome State Fault Refusal := onCell c s fun d => d.powered Cell.coilEnd

/-- BYP_AUX has been high for 1 ms: the fire pulses of the bolt sequence stop (R291). -/
def Cell.auxConfirmed (d : Cell) : Cell :=
  let d := d.wr CBYP_STATUS_AUX 1
  if d.sw.st = .bolted then { d with trip := { d.trip with firing := false } } else d

def execBypAuxConfirmed (c : CellId) (s : State) : Host.Outcome State Fault Refusal := onCell c s fun d => d.powered Cell.auxConfirmed

/-- CONFIRM_MS after a coil pulse began, BYP_AUX is not high (R292) (log entry 6, DESIGN CHOICE). -/
def Cell.confirmTimeout (c : CellId) (d : Cell) : Cell :=
  if d.sw.st ≠ .bolted || d.is CBYP_STATUS_AUX then d
  else if d.trip.coils = 1 then d.coilOn
  else if d.trip.coils = 2 && !d.is CBYP_STATUS_BOLT_UNCONF then (d.wr CBYP_STATUS_BOLT_UNCONF 1).raise c 0x8302 .alarm
  else d

def execBoltConfirmTimeout (c : CellId) (s : State) : Host.Outcome State Fault Refusal :=
  onCell c s fun d => d.powered (Cell.confirmTimeout c)

/-- FIRE (R294). In BYPASS_FIRED the running pulses go on (log entry 26, DEDUCED). -/
def Cell.fire (c : CellId) (d : Cell) : Cell :=
  if d.sw.st = .bolted || d.sw.st = .bypassFired then d
  else
    let d := ((d.enter .bypassFired).endLocal.softOff).firePulse
    { d with trip := { d.trip with firing := true } }.raise c 0x8303 .alarm

/-- RELEASE (R294) (log entry 25, DEDUCED). -/
def Cell.release (d : Cell) : Cell :=
  if d.sw.st ≠ .bypassFired then d
  else if !d.tripActive && d.rd CADC_UV_THRESH ≤ d.adc.vcap && d.adc.vcap ≤ d.rd CBYP_OV_WARN then
    let d := { d with trip := { d.trip with firing := false } }
    let d := (d.wr CTRP_STATUS_SEEN 0).closeRecs fun r => r.cls.code = 2
    d.enter (if d.sw.started then .ready else .starting)
  else d.wr CBYP_STATUS_RELEASE_REFUSED 1

/-- A write of CBYP_CMD acts only with its key (R294) (log entry 26, DEDUCED). -/
def Cell.bypCmd (c : CellId) (val : Nat) (d : Cell) : Cell :=
  if bits val 31 16 ≠ 0xB01D then d.wr CBYP_STATUS_KEY_ERR 1
  else match bits val 1 0 with
    | 1 => d.fire c
    | 2 => d.bolt c 3
    | 3 => d.release
    | _ => d

def execFire (c : CellId) (val : Word) (s : State) : Host.Outcome State Fault Refusal :=
  onCell c s fun d => d.takes (Cell.bypCmd c val.toNat)
def execBolt (c : CellId) (val : Word) (s : State) : Host.Outcome State Fault Refusal :=
  onCell c s fun d => d.takes (Cell.bypCmd c val.toNat)
def execRelease (c : CellId) (val : Word) (s : State) : Host.Outcome State Fault Refusal :=
  onCell c s fun d => d.takes (Cell.bypCmd c val.toNat)

/-! ## Local PWM mode (R295 to R300) -/

/-- A write of CPWM_CTL: the fields but MODE are held back (R282) (log entry 76, DEDUCED). -/
def Cell.holdPwm (off val : Nat) (d : Cell) : Cell := { d with sw := { d.sw with pwmHeld := SMap.ins d.sw.pwmHeld off val } }

/-- A write of CPWM_CTL with MODE = LOCAL (R295). -/
def Cell.modeLocal (val : Nat) (d : Cell) : Cell :=
  if d.sw.st = .ready && d.sw.executed && bits (d.rd CPWM_LAST_WORD) 15 13 = 0 then
    ((d.wr CPWM_CTL_MODE 1).wr CPWM_STATUS_MODE_NOW 1).holdPwm 0x100 val
  else d.wr CPWM_STATUS_LOCAL_REFUSED 1

/-- A write of CPWM_CTL with MODE = LATCH (R300). -/
def Cell.modeLatch (val : Nat) (d : Cell) : Cell :=
  let d := d.holdPwm 0x100 val
  if d.localMode then d.turnOff.endLocal else d

/-- A write of CPWM_CTL, by its MODE; a MODE of 2 or 3 leaves MODE as it is (Table 8.8). -/
def Cell.ctlWrite (val : Nat) (d : Cell) : Cell :=
  match bits val 1 0 with
  | 0 => d.modeLatch val
  | 1 => d.modeLocal val
  | _ => d.holdPwm 0x100 val

def execCpwmModeLocal (c : CellId) (val : Word) (s : State) : Host.Outcome State Fault Refusal :=
  onCell c s fun d => d.takes (Cell.ctlWrite val.toNat)
def execCpwmModeLatch (c : CellId) (val : Word) (s : State) : Host.Outcome State Fault Refusal :=
  onCell c s fun d => d.takes (Cell.ctlWrite val.toNat)

/-- The NOTE of R298, whose code the spec does not give: a free value (log entry 4, DESIGN CHOICE). -/
def Cell.noteSplit (c : CellId) (d : Cell) : Cell :=
  if d.is CPWM_STATUS_PAIR_SPLIT then d
  else ((d.wr CPWM_STATUS_PAIR_SPLIT 1).useFree).raiseRec c (d.errorRec (d.free % 65536) .note 0 0)

/-- The pair is transferred, or kept, at a period boundary (R297, R298). -/
def Cell.transfer (c : CellId) (d : Cell) : Cell :=
  if d.sw.pairReady then
    { ((d.wr CPWM_PERIOD_ACT_VALUE (d.rd CPWM_PERIOD_PERIOD)).wr CPWM_DUTY_ACT_VALUE (d.rd CPWM_DUTY_DUTY)) with
      sw := { d.sw with pairReady := false } }
  else if d.sw.periodOpen then d.noteSplit c
  else d

/-- The gates of the local period: high time and low time (R296). -/
def Cell.localHigh (d : Cell) : Nat :=
  32 + if d.rd CPWM_STATUS_TYPE ≠ 2 then 1 else match d.rd CPWM_CTL_LOCAL_B with | 1 => 5 | 2 => 9 | _ => 1
def Cell.localLow (d : Cell) : Nat :=
  16 + if d.rd CPWM_STATUS_TYPE ≠ 2 then 2 else match d.rd CPWM_CTL_LOCAL_B with | 1 => 10 | 2 => 6 | _ => 2

/-- The ideal transitions of a local period that begins at `t` (R296, R299). -/
def Cell.localPlan (t : Nat) (d : Cell) : List Ideal :=
  let p := d.rd CPWM_PERIOD_ACT_VALUE
  let w := min (d.rd CPWM_DUTY_ACT_VALUE) p
  let hi := d.localHigh
  let lo := d.localLow
  let ts : List Ideal :=
    if w = 0 then [⟨t, lo, false⟩]
    else if w = p then [⟨t, hi, false⟩]
    else if d.is CPWM_CTL_CENTER then [⟨t, lo, false⟩, ⟨t + (p - w) / 2, hi, false⟩, ⟨t + (p - w) / 2 + w, lo, false⟩]
    else [⟨t, hi, false⟩, ⟨t + w, lo, false⟩]
  match ts with
  | x :: r => if x.st = d.sw.ideal then r else x :: r
  | [] => []

/-- A local period starts (R282, R296 to R299). -/
def Cell.localPeriod (c : CellId) (d : Cell) : Cell :=
  match d.localMode, d.sw.locNext with
  | true, some t =>
    let d := (d.runTo c (t - 1)).applyPwm.transfer c
    let p := d.rd CPWM_PERIOD_ACT_VALUE
    let d := if p < d.rd CPWM_DUTY_ACT_VALUE then d.wr CPWM_STATUS_DUTY_CLAMP 1 else d
    let d := { d with sw := { d.sw with plan := d.localPlan t, locNext := some (t + p), now := max d.sw.now t } }
    ((d.judgeCompares p).shape c).runTo c t
  | _, _ => d

def execLocalPeriodStart (c : CellId) (s : State) : Host.Outcome State Fault Refusal := onCell c s fun d => d.runs (Cell.localPeriod c)

/-- The opening register (R297, R298). -/
def Cell.periodWrite (val : Nat) (d : Cell) : Cell :=
  { (d.wr CPWM_PERIOD_PERIOD (max 64 (bits val 23 0))) with sw := { d.sw with pairReady := false, periodOpen := true } }

def execCpwmPeriodWrite (c : CellId) (val : Word) (s : State) : Host.Outcome State Fault Refusal :=
  onCell c s fun d => d.takes (Cell.periodWrite val.toNat)

/-- The closing register (R297). -/
def Cell.dutyWrite (val : Nat) (d : Cell) : Cell :=
  { (d.wr CPWM_DUTY_DUTY (bits val 23 0)) with sw := { d.sw with pairReady := true, periodOpen := false } }

def execCpwmDutyWrite (c : CellId) (val : Word) (s : State) : Host.Outcome State Fault Refusal :=
  onCell c s fun d => d.takes (Cell.dutyWrite val.toNat)

/-! ## The lane clock (02_clocks_and_time.md R58) -/

/-- The lane clock is lost: no latch time is executed until a marker interval after the lane is UP again. -/
def Cell.laneClockLost (c : CellId) (d : Cell) : Cell :=
  let d := { d with sw := { d.sw with laneClock := false, laneMarked := false } }.raise c 0x8702 .alarm
  match d.sw.st with
  | .ready => (d.endLocal.softOff).enter .silBlocked
  | .bolted => d
  | .tripBlocked => d
  | .bypassFired => d
  | _ => d.softOff

def execLaneClockLost (c : CellId) (s : State) : Host.Outcome State Fault Refusal := onCell c s fun d => d.runs (Cell.laneClockLost c)

end Sys2Proof.Machine
end

