-- ==== Sys2Proof/Machine/CellMeasure.lean ====
section
/-! DEFINITION. The SAR converter of a cell with its runs and its calibration, the prediction and the uplink frame, the delta-sigma
channel, and the retention domain (09_cell_measurement_and_sleep.md R305 to R347). -/

namespace Sys2Proof.Machine
open Reg

/-! ## Results (R308 to R313) -/

/-- A code in the 16 bits of a result (R308). -/
def Cell.present (d : Cell) (ch code : Nat) : Nat :=
  let v := code % 16384
  if d.is CADC_CTL_ALIGN then v * 4 else if ch = 8 && 8192 ≤ v then v + 49152 else v

/-- A capacitor code scaled, halves up, saturating (R310). -/
def Cell.scaleCap (d : Cell) (code : Nat) : Nat := min 65535 ((code % 16384 * d.rd CADC_CAP_SCALE * 2 + 16384) / 32768)

/-- A capacitor result of any conversion: the thresholds of R289. -/
def Cell.takeCap (c : CellId) (v : Nat) (d : Cell) : Cell :=
  let hard := d.rd CBYP_OV_HARD < v
  let d := { d with adc := { d.adc with vcap := v, ovWarn := decide (d.rd CBYP_OV_WARN < v), ovHard := d.adc.ovHard || hard } }
  if hard then d.bolt c 1 else d

/-- The under-voltage state follows a synchronous capacitor result (R312, Table 8.5). -/
def Cell.judgeUv (d : Cell) : Cell :=
  let v := d.adc.vcap
  let th := d.rd CADC_UV_THRESH
  let d := if v < th then d.wr CADC_STATUS_UV 1 else if th + d.rd CADC_UV_HYST < v then d.wr CADC_STATUS_UV 0 else d
  if d.is CADC_STATUS_UV && d.sw.st = .ready then (d.endLocal.turnOff).enter .undervolt
  else if !d.is CADC_STATUS_UV && d.sw.st = .undervolt then d.enter .ready
  else d

/-! ## Runs (R316, R320, R321) -/

/-- The trigger register of a source: enable, first and last entry. -/
def Cell.trigOf (d : Cell) (src : Nat) : Bool × Nat × Nat :=
  if src = 0 then (d.is CADC_TRIG_SYNC_EN, d.rd CADC_TRIG_SYNC_FIRST, d.rd CADC_TRIG_SYNC_LAST)
  else (d.is CADC_TRIG_CMPn_EN (src - 1), d.rd CADC_TRIG_CMPn_FIRST (src - 1), d.rd CADC_TRIG_CMPn_LAST (src - 1))

/-- The entry may be converted: its channel is privileged, and the capacitor channel has gain 1 (R311, R316). -/
def Cell.entryOk (d : Cell) (i : Nat) : Bool :=
  let ch := d.rd CADC_SEQn_CH i
  bitOf (d.rd CADC_PRIV_MASK) ch && (ch ≠ d.rd CADC_CAP_CH || d.rd CADC_SEQn_GAIN i = 0)

/-- A run goes on at entry `i` with `left` entries to go; entries that may not be converted are skipped (R316). -/
def Cell.runFrom (src : Nat) : Nat → Nat → Cell → Cell
  | 0, _, d => { d with adc := { d.adc with job := .none } }
  | n + 1, i, d =>
    if d.entryOk i then { d with adc := { d.adc with job := .entry src i (n + 1) } }
    else Cell.runFrom src n ((i + 1) % 16) (d.wr CADC_STATUS_CFG_ERR 1)

/-- The entries of the run of a source, wrapping past 15. -/
def Cell.runLen (d : Cell) (src : Nat) : Nat := ((d.trigOf src).2.2 + 16 - (d.trigOf src).2.1) % 16 + 1

def Cell.startRun (src : Nat) (d : Cell) : Cell :=
  let d := { d with adc := { d.adc with pend := d.adc.pend.filter (· ≠ src) } }
  d.runFrom src (d.runLen src) (d.trigOf src).2.1

/-- The converter takes up a run that was aborted. -/
def Cell.resumeRun (r : Nat × Nat × Nat) (d : Cell) : Cell :=
  { d with adc := { d.adc with susp := none } }.runFrom r.1 r.2.2 r.2.1

/-- A general conversion starts; a channel of 14 or 15 is not converted (R307, R314). -/
def Cell.startGeneral (d : Cell) : Cell :=
  let d := { d with adc := { d.adc with general := false } }
  if 14 ≤ d.rd CADC_CTL_SEL then d.wr CADC_STATUS_CFG_ERR 1
  else { d with adc := { d.adc with job := .general (d.rd CADC_CTL_SEL) } }

/-- The source has a run pending or in progress (R321). -/
def Cell.runBusy (d : Cell) (src : Nat) : Bool :=
  d.adc.pend.contains src || (match d.adc.susp with | some r => r.1 = src | none => false) ||
    (match d.adc.job with | .entry s _ _ => s = src | _ => false)

def Cell.lostTrigger (d : Cell) : Cell := (d.sat CADC_CNT_LOST).wr CADC_STATUS_TRIG_OVR 1

/-- Nothing but a general conversion could use the converter. -/
def Cell.idleRuns (d : Cell) : Bool := d.adc.pend = [] && d.adc.susp = none && !d.adc.slice

/-- The converter is free, and takes up what waits, in the order of R320. -/
def Cell.nextJob (d : Cell) : Cell :=
  if d.adc.job ≠ .none then d
  else match d.adc.susp with
    | some r => d.resumeRun r
    | none =>
      if d.adc.slice then d
      else match (List.range 5).find? (fun s => d.adc.pend.contains s) with
        | some s => d.startRun s
        | none => if d.adc.general || (d.is CADC_CTL_EN && d.is CADC_CTL_CONT) then d.startGeneral else d

/-! ## The synchronous sample (R319, R320, R331, R332) -/

/-- The ticks that the sync run takes: sampling plus 400 ns of conversion for each entry. -/
def Cell.syncTicks (d : Cell) : Nat :=
  if (d.trigOf 0).1 then
    (List.range (d.runLen 0)).foldl (fun a j =>
      let i := ((d.trigOf 0).2.1 + j) % 16
      if d.entryOk i then a + d.rd CADC_SEQn_SAMPLE i * 16 + 640 else a) 0
  else 0

/-- The calibration time that a slice has received by a sample (R323): the cycle without the synchronous conversion and the sync run. A
slice ends with 4 µs, 6,400 ticks (log entry 77, DEDUCED). -/
def Cell.sliceTime (d : Cell) : Cell :=
  if d.adc.slice then
    let got := d.adc.got + (d.sw.len - (800 + d.syncTicks))
    let d := { d with adc := { d.adc with got := got, slice := decide (got < 6400) } }
    if got < 6400 then d else d.wr CADC_CAL_SLICES (d.rd CADC_CAL_SLICES + 1)
  else d

/-- S(k): any conversion in progress is aborted and the capacitor conversion starts (R319, R320). -/
def Cell.syncSample (g : Grid) (c : CellId) (d : Cell) : Cell :=
  let t := d.sw.start + g.sofs
  let d := (d.runTo c t).sliceTime
  let d := match d.adc.job with
    | .general _ => { (d.sat CADC_CNT_ABORTS) with adc := { d.adc with general := true } }
    | .entry src i left => { (d.sat CADC_CNT_ABORTS) with adc := { d.adc with susp := some (src, i, left) } }
    | _ => d
  let d := { d with adc := { d.adc with job := .cap, sample := d.cyc, sampleAt := t } }
  if !(d.trigOf 0).1 then d
  else if d.runBusy 0 then d.lostTrigger
  else { d with adc := { d.adc with pend := 0 :: d.adc.pend } }

def execSynchronousSample (c : CellId) (s : State) : Host.Outcome State Fault Refusal :=
  onCell c s fun d => d.runs (Cell.syncSample s.grid c)

/-- The cell's prediction (R331). It rests on the word and the current of latch cycle k: where the cell holds no valid frame for it, the
spec states no value, and the result is free (log entry 4, DESIGN CHOICE) (log entry 78, DEDUCED). -/
def Cell.predict (g : Grid) (d : Cell) : Cell × Nat :=
  let k := d.adc.sample
  match d.heldFor k with
  | none => (d.useFree, d.free % 65536)
  | some h =>
    let sign (w : Nat) := cmdSign (bits w 15 13) (bits w 11 0)
    let s1 := match d.heldFor (k + 1) with | some h1 => sign h1.word | none => sign h.word
    let tau := sign h.word * ((d.lenOf g k : Int) - (g.sofs : Nat)) + s1 * (d.lenOf g (k + 1) : Nat)
    let cc := d.rd CADC_PRED_C_CELL
    let term := if cc = 0 then 0 else roundAway (sext 32 h.iarm * tau) (6400 * cc * 4096)
    (d, (clampInt 0 65535 ((d.adc.vcap : Int) + term)).toNat)

/-- An AUX source (R333). -/
def Cell.auxOf (d : Cell) (src : Nat) : Nat :=
  if src < 16 then d.rd CADC_SEQn_RESULT src
  else if src = 16 then d.rd CDSM_VCAP_VCAP
  else if src = 17 then d.rd CDSM_DATA_DATA / 256
  else 0

/-- STAT_AUX (Table 9.4). -/
def Cell.statAux (d : Cell) : Nat :=
  let dsm := d.ident.variant = 1 && d.is CDSM_CTL_EN && d.is CDSM_STATUS_SETTLED && d.adc.dsmClean
  b2n (d.is CRET_STATUS_FROM_OFF) * 32768 + b2n (d.is CUPD_STATUS_TRIAL) * 16384 + b2n (d.is CADC_STATUS_CAL_BUSY) * 8192 +
    b2n d.adc.late * 4096 + b2n dsm * 2048 + b2n (d.is CRET_STATUS_RET_LOW || d.is CRET_STATUS_UNCORR) * 1024 +
    b2n d.localMode * 512 + d.ret.logSeq

/-- The uplink frame (Table 9.3). -/
def Cell.uplinkFrame (d : Cell) (vpred : Nat) : Nat :=
  d.adc.sample % 65536 * 2 ^ 112 + d.statAux * 2 ^ 96 + d.auxOf (d.rd CADC_UPL_A_SRC) * 2 ^ 80 +
    d.auxOf (d.rd CADC_UPL_B_SRC) * 2 ^ 64 + d.reported * 2 ^ 56 + b2n d.adc.ovHard * 2 ^ 55 + b2n d.adc.ovWarn * 2 ^ 54 +
    d.rd CADC_STATUS_UV * 2 ^ 53 + d.rd CADC_STATUS_OVT * 2 ^ 52 + d.rd CTRP_STATUS_SEEN * 2 ^ 48 + pat 8 d.adc.temp * 2 ^ 40 +
    d.adc.seq * 2 ^ 32 + d.adc.vcap * 2 ^ 16 + vpred

/-- The frame is formed, from lane UP onward (R332). -/
def Cell.formFrame (vpred : Nat) (d : Cell) : Cell :=
  if d.laneUp then
    { d with adc := { d.adc with frame := some (d.uplinkFrame vpred), seq := (d.adc.seq + 1) % 256, ovHard := false, late := false } }
  else d

/-- The synchronous capacitor conversion ends, 500 ns after S(k) (R289, R306, R310, R312, R331, R332); the sync run follows at
once. -/
def Cell.capDone (g : Grid) (c : CellId) (code : Nat) (d : Cell) : Cell :=
  if d.adc.job ≠ .cap then d
  else
    let d := (d.runTo c (d.adc.sampleAt + 800))
    let d := { d with adc := { d.adc with job := .none } }
    let d := (d.takeCap c (d.scaleCap code)).judgeUv
    let p := d.predict g
    let d := p.1.formFrame p.2
    match d.adc.susp with
    | some r => if r.1 = 0 then d.resumeRun r else if d.adc.pend.contains 0 then d.startRun 0 else d
    | none => if d.adc.pend.contains 0 then d.startRun 0 else d

def execCapacitorConversionDone (c : CellId) (code : Nat) (s : State) : Host.Outcome State Fault Refusal :=
  onCell c s fun d => d.runs (Cell.capDone s.grid c code)

/-- The cell starts its UPLINK block at S(k) + 540 ns (10_flenor_links.md R362). -/
def Cell.uplinkSlot (c : CellId) (d : Cell) : Cell :=
  match d.adc.frame with
  | some f => { d with adc := { d.adc with frame := none } }.emit (.frame (.cell c) 2 [f])
  | none => d

def execUplinkSlot (c : CellId) (s : State) : Host.Outcome State Fault Refusal := onCell c s fun d => d.runs (Cell.uplinkSlot c)

/-! ## Other conversions (R301, R305, R314, R318) -/

/-- A compare fires (R301), and its run starts, waits or is lost (R320, R321, R324). -/
def Cell.compareTrigger (n : Nat) (d : Cell) : Cell :=
  let len := if d.localMode then d.rd CPWM_PERIOD_ACT_VALUE else d.sw.len
  let src := n + 1
  if !d.is CPWM_CMPn_EN n then d
  else if len ≤ d.rd CPWM_CMPn_POINT n then d.wr CPWM_STATUS_CMP_RANGE 1
  else if !(d.trigOf src).1 then d
  else if d.runBusy src then d.lostTrigger
  else
    let wait (d : Cell) : Cell := { d with adc := { d.adc with pend := d.adc.pend ++ [src] } }
    if d.adc.slice then wait { (d.wr CADC_STATUS_LATE 1) with adc := { d.adc with late := true } }
    else match d.adc.job with
      | .general _ => { (d.sat CADC_CNT_ABORTS) with adc := { d.adc with general := true, job := .none } }.startRun src
      | .none => if d.idleRuns then d.startRun src else wait d
      | _ => wait d

def execCompareTrigger (c : CellId) (n : Fin 4) (s : State) : Host.Outcome State Fault Refusal :=
  onCell c s fun d => d.runs (Cell.compareTrigger n.val)

/-- A write of CADC_START (R314). -/
def Cell.adcStart (val : Nat) (d : Cell) : Cell :=
  let busy := d.adc.general || (match d.adc.job with | .general _ => true | _ => false)
  if !bitOf val 0 || d.is CADC_CTL_CONT || !d.is CADC_CTL_EN || busy then d
  else if d.adc.job = .none && d.idleRuns then d.startGeneral
  else { d with adc := { d.adc with general := true } }

def execCadcStart (c : CellId) (val : Word) (s : State) : Host.Outcome State Fault Refusal :=
  onCell c s fun d => d.takes (Cell.adcStart val.toNat)

/-- A code at an end of its range (R309). -/
def codeClips (ch code : Nat) : Bool :=
  if ch = 8 then code % 16384 = 8192 || code % 16384 = 8191 else code % 16384 = 0 || code % 16384 = 16383

/-- A general conversion, or an entry of a run, ends (R305, R308 to R311, R314, R316) (log entry 77, DEDUCED). -/
def Cell.convDone (c : CellId) (code : Nat) (d : Cell) : Cell :=
  let cap (ch : Nat) (d : Cell) := if ch = d.rd CADC_CAP_CH then d.takeCap c (d.scaleCap code) else d
  match d.adc.job with
  | .general ch =>
    let d := ((d.inc CADC_DATA_CNT).wr CADC_DATA_CH ch).wr CADC_DATA_RESULT (d.present ch code)
    let d := cap ch { d with adc := { d.adc with job := .none } }
    if d.is CADC_CTL_EN && d.is CADC_CTL_CONT && d.idleRuns then d.startGeneral else d
  | .entry src i left =>
    let ch := d.rd CADC_SEQn_CH i
    let d := d.wr CADC_SEQn_RESULT (d.present ch code) i
    let d := if codeClips ch code then d.wr CADC_STATUS_CLIP 1 else d
    (cap ch d).runFrom src (left - 1) ((i + 1) % 16)
  | _ => d

def execConversionDone (c : CellId) (code : Nat) (s : State) : Host.Outcome State Fault Refusal :=
  onCell c s fun d => d.runs (Cell.convDone c code)

/-- OVT follows TEMP (R313). -/
def Cell.judgeOvt (c : CellId) (d : Cell) : Cell :=
  let lim := sext 8 (d.rd CADC_TEMP_OVT)
  if lim < d.adc.temp then
    if d.is CADC_STATUS_OVT then d else (d.wr CADC_STATUS_OVT 1).raise c 0x8401 .alarm
  else if d.adc.temp < lim - (d.rd CADC_TEMP_HYST : Nat) then d.wr CADC_STATUS_OVT 0
  else d

/-- The housekeeping conversions of one millisecond (R318), which is the cell's local time (log entry 77, DEDUCED). -/
def Cell.housekeeping (c : CellId) (temp : Int) (vdd33 vret : Nat) (d : Cell) : Cell :=
  let ms := d.trip.ms + 1
  let w := d.trip.window.filter fun t => ms < t + 1000
  let d := { d with trip := { d.trip with ms := ms, window := w }, adc := { d.adc with temp := temp } }
  let d := ((d.wr CTRP_STATUS_WINDOW (min w.length 255)).wr CRET_VRET_MV vret).wr CRET_STATUS_CHARGING (b2n (vret < 3000)) |>.wr CUPD_STATUS_AUX_LOW
    (b2n (vdd33 < 2000 + 10 * d.rd CUPD_CFG_AUX_MIN))
  d.judgeOvt c

def execHousekeepingConversion (c : CellId) (temp : Int) (vdd33 vret _vcore : Nat) (s : State) : Host.Outcome State Fault Refusal :=
  onCell c s fun d => d.runs (Cell.housekeeping c temp vdd33 vret)

def execPendingRunStart (c : CellId) (s : State) : Host.Outcome State Fault Refusal := onCell c s fun d => d.runs Cell.nextJob

/-- A held-back write to the converter (R317) (log entry 76, DEDUCED). -/
def Cell.holdAdc (off val : Nat) (d : Cell) : Cell := { d with sw := { d.sw with adcHeld := SMap.ins d.sw.adcHeld off val } }

/-- A write of CADC_PRIV (R315, R317). -/
def Cell.privWrite (val : Nat) (d : Cell) : Cell :=
  if 4 < popcount val 14 then d.wr CADC_STATUS_CFG_ERR 1 else d.holdAdc 0x310 val

def execCadcPrivWrite (c : CellId) (val : Word) (s : State) : Host.Outcome State Fault Refusal :=
  onCell c s fun d => d.takes (Cell.privWrite val.toNat)

/-! ## Calibration (R322 to R327) -/

/-- A write of CADC_CAL: GAP, and a request unless a calibration runs (R322). -/
def Cell.calWrite (val : Nat) (d : Cell) : Cell :=
  let d := d.wr CADC_CAL_GAP (max 1 (bits val 15 8))
  if bitOf val 0 && !d.adc.calRun then { (d.wr CADC_CAL_REQ 1) with adc := { d.adc with calReq := true } } else d

def execCadcCalReq (c : CellId) (val : Word) (s : State) : Host.Outcome State Fault Refusal :=
  onCell c s fun d => d.takes (Cell.calWrite val.toNat)

/-- A slice starts, at the end of a sync run, when no run waits (R323, R325). -/
def Cell.sliceStart (d : Cell) : Cell :=
  let free := d.adc.job = .none && d.adc.susp = none && d.adc.pend = [] && !d.adc.slice
  if !free then d
  else if d.adc.calRun then
    if d.rd CADC_CAL_SLICES < 10 && d.rd CADC_CAL_GAP ≤ d.adc.sinceSlice then
      { d with adc := { d.adc with slice := true, got := 0, sinceSlice := 0 } }
    else d
  else if d.adc.calReq then
    { (((d.wr CADC_CAL_REQ 0).wr CADC_STATUS_CAL_BUSY 1).wr CADC_CAL_SLICES 0) with
      adc := { d.adc with calReq := false, calRun := true, slice := true, got := 0, sinceSlice := 0 } }
  else d

def execCalibrationSliceStart (c : CellId) (s : State) : Host.Outcome State Fault Refusal := onCell c s fun d => d.runs Cell.sliceStart

/-- The tenth slice has ended (R326, R327) (log entry 77, DEDUCED). -/
def Cell.calDone (c : CellId) (ok : Bool) (d : Cell) : Cell :=
  if d.adc.calRun && d.rd CADC_CAL_SLICES = 10 then
    let d := { (d.wr CADC_STATUS_CAL_BUSY 0) with adc := { d.adc with calRun := false, calNew := ok } }
    if ok then d else (d.wr CADC_STATUS_CAL_FAIL 1).raise c 0x8402 .alarm
  else d

def execCalibrationDone (c : CellId) (ok : Bool) (s : State) : Host.Outcome State Fault Refusal :=
  onCell c s fun d => d.runs (Cell.calDone c ok)

/-! ## The delta-sigma channel (R328 to R330) -/

/-- Log entry 77, DEDUCED. -/
def Cell.dsmOutput (c : CellId) (data : Nat) (ovl : Bool) (cycle tick : Nat) (d : Cell) : Cell :=
  if d.ident.variant ≠ 1 || !d.is CDSM_CTL_EN then d
  else
    let d := { d with adc := { d.adc with dsm := d.adc.dsm + 1, dsmClean := !ovl } }
    let d := if ovl && !d.is CDSM_STATUS_OVR then (d.wr CDSM_STATUS_OVR 1).raise c 0x8501 .note else d
    if d.adc.dsm < 18 then d
    else
      let v := clampInt 0 65535 (roundAway (sext 24 data * (d.rd CDSM_CTL_SCALE : Nat)) (2 ^ 24))
      (((((d.wr CDSM_STATUS_SETTLED 1).inc CDSM_DATA_CNT).wr CDSM_DATA_DATA data).wr CDSM_VCAP_VCAP v.toNat).wr CDSM_TS_CYCLE
        cycle).wr CDSM_TS_TICK tick

def execDsmOutput (c : CellId) (data : BitVec 24) (ovl : Bool) (cycle tick : BitVec 16) (s : State) :
    Host.Outcome State Fault Refusal :=
  onCell c s fun d => d.runs (Cell.dsmOutput c data.toNat ovl cycle.toNat tick.toNat)

/-! ## The retention domain (R334 to R341) -/

/-- The retention is valid (R335). -/
def Cell.retValid (d : Cell) : Bool := d.ret.latch && !d.ret.bad

/-- The retention error is raised at the next opportunity: at once while the cell runs, else at the wake (R337). -/
def Cell.retError (c : CellId) (d : Cell) : Cell :=
  if d.pow = .run then d.raise c 0x8601 .alarm else { d with ret := { d.ret with errWait := true } }

/-- What becomes of an uncorrectable word (R337). -/
def Cell.spoilRet (a : Nat) (d : Cell) : Cell :=
  if a < 0x100 then
    if d.pow = .run then
      let b := d.is CBYP_STATUS_BOLTED
      { d with ret := { d.ret with bolt0 := b, bolt1 := b, bolt2 := b } }
    else { (d.wr CRET_STATUS_VALID 0) with ret := { d.ret with bad := true } }
  else if a < 0x200 then { d with ret := { d.ret with counters := SMap.put 0 d.ret.counters ((a - 0x100) / 4) 0 } }
  else if 0x2000 ≤ a && a < 0x4000 then
    let i := (a - 0x2000) / 32
    match SMap.get none d.ret.log i with
    | some e => { d with ret := { d.ret with log := SMap.put none d.ret.log i (some { e with lost := true }) } }
    | none => d
  else d

/-- The scrubber visits a word, awake or asleep (R337); the last word ends a pass (log entry 77, DEDUCED). -/
def Cell.scrub (c : CellId) (a : Nat) (res : EccResult) (d : Cell) : Cell :=
  if d.pow = .off then d
  else
    let d := match res with
      | .clean => d
      | .corrected => d.sat CRET_SCRUB_CORR
      | .uncorrectable => (((d.sat CRET_SCRUB_UNCORR).wr CRET_STATUS_UNCORR 1).spoilRet a).retError c
    if a / 4 = 0x1FFF then d.sat CRET_SCRUB_PASSES else d

def execRetentionScrub (c : CellId) (addr : Nat) (res : EccResult) (s : State) : Host.Outcome State Fault Refusal :=
  onCell c s fun d => d.scrub c addr res

/-- VDD_RET 300 s after a wake (R340) (log entry 77, DEDUCED). -/
def Cell.supplyCheck (c : CellId) (mv : Nat) (d : Cell) : Cell :=
  if mv < 2600 && !d.is CRET_STATUS_RET_LOW then (d.wr CRET_STATUS_RET_LOW 1).raise c 0x8602 .alarm else d

def execRetentionSupplyCheck (c : CellId) (mv : Nat) (s : State) : Host.Outcome State Fault Refusal :=
  onCell c s fun d => d.runs (Cell.supplyCheck c mv)

/-- Word `n` of an event-log entry (Table 9.7). -/
def LogEnt.word (e : LogEnt) (n : Nat) : Nat :=
  match n with
  | 0 => e.r.time % 2 ^ 32
  | 1 => e.r.time / 2 ^ 32 % 2 ^ 32
  | 2 => e.r.time / 2 ^ 64
  | 3 => (if e.lost then 0xFFFF else e.r.code) * 65536 + e.r.cls.code * 16384 + b2n e.r.unset * 8192 + e.r.seq % 256
  | 4 => e.r.cause
  | 5 => e.r.count * 65536 + e.r.cycle
  | 6 => e.local_
  | _ => e.r.detail

/-- Word `n` of entry `i` of the event log; 0 while none is written. -/
def Cell.logWord (d : Cell) (i n : Nat) : Nat := match SMap.get none d.ret.log i with | some e => e.word n | none => 0

/-- The word at a byte address of the domain (Table 9.6); none where the spec gives no layout of it. -/
def Cell.retWord (d : Cell) (a : Nat) : Option Nat :=
  if a < 0x100 then none
  else if a < 0x200 then some (SMap.get 0 d.ret.counters ((a - 0x100) / 4))
  else if a < 0x240 then none
  else if a < 0x270 then
    let byte (i : Nat) := d.ret.mapHash / 2 ^ (8 * (47 - i)) % 256
    let i := a - 0x240
    some (byte i + 256 * byte (i + 1) + 65536 * byte (i + 2) + 2 ^ 24 * byte (i + 3))
  else if a < 0x2000 then some 0
  else if a < 0x4000 then some (d.logWord ((a - 0x2000) / 32) ((a - 0x2000) % 32 / 4))
  else some (SMap.get 0 d.ret.station ((a - 0x4000) / 4))

/-- An access to CRET_WIN_DATA (Table 9.10). A word whose layout the spec does not give reads as a free value (log entry 4, DESIGN CHOICE). -/
def Cell.winData (w : Option Nat) (d : Cell) : Cell :=
  let a := d.rd CRET_WIN_ADDR_ADDR * 4
  match w with
  | none =>
    match d.retWord a with
    | some v => { d with rdata := v }
    | none => { d.useFree with rdata := d.free % 2 ^ 32 }
  | some v =>
    if 0x4000 ≤ a && !d.is CFLT_STATUS_DEADBOLT then
      { d with ret := { d.ret with station := SMap.put 0 d.ret.station ((a - 0x4000) / 4) v } }
    else d

def execCretWinDataAccess (c : CellId) (w : Option Word) (s : State) : Host.Outcome State Fault Refusal :=
  onCell c s fun d => d.runs (Cell.winData (w.map (·.toNat)))

/-! ## Sleep (R342, R343) -/

/-- The cell goes to sleep. A running bolt sequence continues (R292). -/
def Cell.sleep (c : CellId) (d : Cell) : Cell :=
  let d := if d.sw.st = .bolted then d else (d.endLocal.turnOff.stopFire).edgesTo (d.sw.now + 12800)
  let d := d.logRec c (d.errorRec 0x8F02 .note 0 0)
  { d with pow := .sleep }

def execSleep (c : CellId) (s : State) : Host.Outcome State Fault Refusal := onCell c s fun d => d.runs (Cell.sleep c)

/-- VDD_RET below 2.2 V during sleep (Table 9.8, R335). -/
def Cell.retLost (d : Cell) : Cell :=
  if d.pow = .sleep then { (d.wr CRET_STATUS_VALID 0) with pow := .off, ret := { d.ret with latch := false } } else d

def execRetentionSupplyLost (c : CellId) (s : State) : Host.Outcome State Fault Refusal := onCell c s Cell.retLost

end Sys2Proof.Machine
end

