-- ==== Sys2Proof/Machine/Cores.lean ====
section
/-! DEFINITION. The application cores and the hardware scheduler (18_cores_and_scheduler.md R554 to R568). What software on the cores does
is not part of the chip set: its effects are the commands that write and read the core-local registers. -/

namespace Sys2Proof.Machine
open Reg

/-! ## Slots, lists and pairs -/

def Leaf.thr (d : Leaf) (t : Nat) : Thr := SMap.get {} d.sch.thr t
def Leaf.setThr (d : Leaf) (t : Nat) (x : Thr) : Leaf := { d with sch := { d.sch with thr := SMap.put {} d.sch.thr t x } }
def Leaf.readyList (d : Leaf) (p : Nat) : List Nat := SMap.get [] d.sch.lists p
def Leaf.setList (d : Leaf) (p : Nat) (l : List Nat) : Leaf := { d with sch := { d.sch with lists := SMap.put [] d.sch.lists p l } }
def Leaf.onPair (d : Leaf) (p : Nat) : Option Nat := SMap.get none d.sch.run p

/-- A pair is in service (R555). -/
def Leaf.alive (d : Leaf) (p : Nat) : Bool := bitOf (d.rd SCH_PAIRS_ALIVE) p

/-- A pair executes: in service, and released from its wait (R559). -/
def Leaf.pairRuns (d : Leaf) (p : Nat) : Bool := d.alive p && (p = 0 || bitOf d.sch.released p) && 4 ≤ d.pwr.step

/-- Bit n: ready list n is not empty. -/
def Leaf.readyMap (d : Leaf) : Nat := d.sch.lists.foldl (fun a l => if l.2 = [] then a else setBit a l.1 true) 0

/-- The registers that show the scheduler's state. -/
def Leaf.schShow (d : Leaf) : Leaf :=
  let d := (List.range 4).foldl (fun (d : Leaf) p =>
    let d := d.wr SCH_PAIRS_IDLE (setBit (d.rd SCH_PAIRS_IDLE) p (d.onPair p).isNone)
    match d.onPair p with
    | some t => ((d.wr SCH_RUNp_VALID 1 p).wr SCH_RUNp_PRIO (d.thr t).prio p).wr SCH_RUNp_THREAD t p
    | none => ((d.wr SCH_RUNp_VALID 0 p).wr SCH_RUNp_PRIO 0 p).wr SCH_RUNp_THREAD 0 p) d
  d.wr SCH_READY_MAP_MAP d.readyMap

/-! ## The trace (R565, Table 18.3) -/

/-- One record of an event, while tracing is on and the event is selected. -/
def Leaf.traceRec (d : Leaf) (event pair src thread prev prevPrio opword : Nat) : Leaf :=
  if !d.is SCH_CFG_TRACE_EN || !bitOf (d.rd SCH_CFG_EVENTS) event then d
  else if d.is SCH_CFG_MODE && 2048 ≤ d.sch.traced then d.sat SCH_TRACE_IDX_LOST
  else
    let w2 := event * 2 ^ 28 + pair * 2 ^ 26 + src * 2 ^ 24 + thread * 65536 + prev * 256 + d.sch.seq % 256
    let w4 := (d.thr thread).prio * 2 ^ 24 + prevPrio * 65536 + d.tim.cyc % 65536
    let ws := [d.tim.c % 2 ^ 32, d.tim.c / 2 ^ 32, w2, opword, w4, d.readyMap, 0, 0]
    let h := d.rd SCH_TRACE_IDX_HEAD
    let tr := (ws.zip (List.range 8)).foldl (fun m w => SMap.put 0 m (8 * h + w.2) w.1) d.sch.trace
    { d with sch := { d.sch with trace := tr, traced := min 2048 (d.sch.traced + 1), seq := d.sch.seq + 1 } }.inc SCH_TRACE_IDX_HEAD

/-! ## The decision (R561, R563) -/

/-- The candidate of a pair: READY, with the pair in its affinity, of the highest priority, earliest in its list. -/
def Leaf.candAt (d : Leaf) (p : Nat) : Nat → Option Nat
  | 0 => none
  | n + 1 => match (d.readyList n).find? fun t => bitOf (d.thr t).aff p with
    | some t => some t
    | none => d.candAt p n
def Leaf.cand (d : Leaf) (p : Nat) : Option Nat := d.candAt p 32

/-- The priority that runs on a pair, plus 1; 0 for an idle pair. -/
def Leaf.runLevel (d : Leaf) (p : Nat) : Nat := match d.onPair p with | some t => (d.thr t).prio + 1 | none => 0

/-- The pair that dispatches next: of those whose candidate beats what they run, the one that runs the lowest priority, then the lowest
number. -/
def Leaf.nextPair (d : Leaf) : Option (Nat × Nat) :=
  (List.range 4).foldl (fun b p =>
    match d.alive p, d.cand p with
    | true, some t =>
      if d.runLevel p < (d.thr t).prio + 1 then
        match b with
        | some x => if d.runLevel p < d.runLevel x.1 then some (p, t) else b
        | none => some (p, t)
      else b
    | _, _ => b) none

/-- The running thread of a pair goes to the head of its ready list: PREEMPT, and SUPERSEDED where its dispatch was not read yet. -/
def Leaf.preempt (d : Leaf) (p : Nat) : Leaf :=
  match d.onPair p with
  | none => d
  | some t =>
    let x := d.thr t
    let d := (d.setThr t { x with st := .ready, pair := 0 }).setList x.prio (t :: d.readyList x.prio)
    let d := { d with sch := { d.sch with run := SMap.put none d.sch.run p none } }
    let d := if bitOf (d.rd SCH_PAIRS_PENDING) p then d.traceRec 3 p p t 255 0 0 else d
    d.traceRec 2 p p t 255 0 0

/-- A READY thread runs on a pair, and the dispatch interrupt is raised there. -/
def Leaf.dispatch (d : Leaf) (p t : Nat) : Leaf :=
  let prev := d.onPair p
  let prevPrio := match prev with | some u => (d.thr u).prio | none => 0
  let d := d.preempt p
  let x := d.thr t
  let d := (d.setThr t { x with st := .running, pair := p }).setList x.prio ((d.readyList x.prio).filter (· ≠ t))
  let d := { d with sch := { d.sch with run := SMap.put none d.sch.run p (some t) } }
  let d := (d.wr SCH_PAIRS_PENDING (setBit (d.rd SCH_PAIRS_PENDING) p true)).inc SCH_CNT_DECISIONS
  (d.emit (.coreIrq p 16)).traceRec 1 p p t (prev.getD 255) prevPrio 0

/-- `decide` of R561; every pass raises the priority that runs on one pair, so 128 passes end it (log entry 74, PRESUMED). -/
def Leaf.decideN : Nat → Leaf → Leaf
  | 0, d => d
  | n + 1, d => match d.nextPair with
    | some (p, t) => Leaf.decideN n (d.dispatch p t)
    | none => d
def Leaf.schDecide (d : Leaf) : Leaf := (Leaf.decideN 128 d).schShow

/-! ## Kernel operations (R564, Table 18.2) -/

/-- The THREAD and ARG fields of CORE_OP. -/
def opThread (val : Word) : Nat := bits val.toNat 23 16
def opArg (val : Word) : Nat := bits val.toNat 11 0

/-- The word of an operation, as the trace shows it. -/
def opWord (op : Nat) (val : Word) : Nat := op * 2 ^ 28 + val.toNat % 2 ^ 28

/-- A thread leaves its ready list, or its pair. -/
def Leaf.unlink (d : Leaf) (t : Nat) : Leaf :=
  let x := d.thr t
  if x.st = .ready then d.setList x.prio ((d.readyList x.prio).filter (· ≠ t))
  else if x.st = .running then { d with sch := { d.sch with run := SMap.put none d.sch.run x.pair none } }
  else d

/-- A thread becomes READY at the tail of its list. -/
def Leaf.enqueue (d : Leaf) (t : Nat) : Leaf :=
  let x := d.thr t
  (d.setThr t { x with st := .ready, pair := 0 }).setList x.prio (d.readyList x.prio ++ [t])

/-- An operation that its thread's state does not allow (R564). -/
def Leaf.opErr (d : Leaf) (p op : Nat) (val : Word) : Leaf :=
  (d.wr SCH_STATUS_OP_ERR 1).traceRec 6 p p (opThread val) 255 0 (opWord op val)

/-- A kernel operation of pair `p`: `f` gives its effect, none where Table 18.2 does not allow it. A pair in reset writes nothing. -/
def Leaf.kernelOp (d : Leaf) (p op : Nat) (val : Word) (f : Leaf → Option Leaf) : Leaf :=
  if !d.pairRuns p then d
  else match f d with
    | some d => (d.traceRec 5 p p (opThread val) 255 0 (opWord op val)).schDecide
    | none => d.opErr p op val

/-- READY: a BLOCKED thread becomes READY; of one that is READY or RUNNING it sets PEND. -/
def Leaf.opReady (val : Word) (d : Leaf) : Option Leaf :=
  let t := opThread val
  match (d.thr t).st with
  | .blocked => some (d.enqueue t)
  | .ready => some (d.setThr t { d.thr t with pend := true })
  | .running => some (d.setThr t { d.thr t with pend := true })
  | .dormant => none

def execCoreOpReady (l : LeafId) (p : Fin 4) (val : Word) (s : State) : Host.Outcome State Fault Refusal :=
  onLeaf l s fun d => d.kernelOp p.val 1 val (Leaf.opReady val)

/-- BLOCK: PEND is consumed, or the thread becomes BLOCKED. -/
def Leaf.opBlock (val : Word) (d : Leaf) : Option Leaf :=
  let t := opThread val
  let x := d.thr t
  if x.st = .running || x.st = .ready then
    if x.pend then some (d.setThr t { x with pend := false })
    else some ((d.unlink t).setThr t { x with st := .blocked, pair := 0 })
  else none

def execCoreOpBlock (l : LeafId) (p : Fin 4) (val : Word) (s : State) : Host.Outcome State Fault Refusal :=
  onLeaf l s fun d => d.kernelOp p.val 2 val (Leaf.opBlock val)

/-- YIELD: the thread that runs on the writing pair goes to the tail of its list. -/
def Leaf.opYield (p : Nat) (val : Word) (d : Leaf) : Option Leaf :=
  let t := opThread val
  if d.onPair p = some t then some ((d.unlink t).enqueue t) else none

def execCoreOpYield (l : LeafId) (p : Fin 4) (val : Word) (s : State) : Host.Outcome State Fault Refusal :=
  onLeaf l s fun d => d.kernelOp p.val 3 val (Leaf.opYield p.val val)

/-- SET_PRIO: a READY thread moves to the tail of its new list. -/
def Leaf.opSetPrio (val : Word) (d : Leaf) : Option Leaf :=
  let t := opThread val
  let x := d.thr t
  let pr := opArg val % 32
  match x.st with
  | .dormant => none
  | .ready => some (((d.unlink t).setThr t { x with prio := pr }).enqueue t)
  | .running => some (d.setThr t { x with prio := pr })
  | .blocked => some (d.setThr t { x with prio := pr })

def execCoreOpSetPrio (l : LeafId) (p : Fin 4) (val : Word) (s : State) : Host.Outcome State Fault Refusal :=
  onLeaf l s fun d => d.kernelOp p.val 4 val (Leaf.opSetPrio val)

/-- SET_AFF: a RUNNING thread whose pair leaves the mask is preempted. -/
def Leaf.opSetAff (val : Word) (d : Leaf) : Option Leaf :=
  let t := opThread val
  let x := d.thr t
  let m := opArg val % 16
  if x.st = .dormant || m = 0 then none
  else
    let d := d.setThr t { x with aff := m }
    some (if x.st = .running && !bitOf m x.pair then d.preempt x.pair else d)

def execCoreOpSetAff (l : LeafId) (p : Fin 4) (val : Word) (s : State) : Host.Outcome State Fault Refusal :=
  onLeaf l s fun d => d.kernelOp p.val 5 val (Leaf.opSetAff val)

/-- START: a DORMANT thread becomes READY with the priority and affinity of ARG, PEND clear. -/
def Leaf.opStart (val : Word) (d : Leaf) : Option Leaf :=
  let t := opThread val
  let m := opArg val / 256 % 16
  if (d.thr t).st ≠ .dormant || m = 0 then none
  else some ((d.setThr t { st := .dormant, pend := false, pair := 0, prio := opArg val % 32, aff := m }).enqueue t)

def execCoreOpStart (l : LeafId) (p : Fin 4) (val : Word) (s : State) : Host.Outcome State Fault Refusal :=
  onLeaf l s fun d => d.kernelOp p.val 6 val (Leaf.opStart val)

/-- STOP: any thread becomes DORMANT; a RUNNING one leaves its pair idle. -/
def Leaf.opStop (val : Word) (d : Leaf) : Option Leaf :=
  let t := opThread val
  some ((d.unlink t).setThr t { d.thr t with st := .dormant, pair := 0 })

def execCoreOpStop (l : LeafId) (p : Fin 4) (val : Word) (s : State) : Host.Outcome State Fault Refusal :=
  onLeaf l s fun d => d.kernelOp p.val 7 val (Leaf.opStop val)

/-- SWITCHED: the acknowledgement of a dispatch; of any other thread it is counted as stale, without OP_ERR (log entry 74, PRESUMED). -/
def Leaf.opSwitched (p : Nat) (val : Word) (d : Leaf) : Leaf :=
  if !d.pairRuns p then d
  else if d.onPair p = some (opThread val) then (d.traceRec 4 p p (opThread val) 255 0 0).schDecide
  else d.sat SCH_CNT_STALE

def execCoreOpSwitched (l : LeafId) (p : Fin 4) (val : Word) (s : State) : Host.Outcome State Fault Refusal :=
  onLeaf l s (Leaf.opSwitched p.val val)

/-- CORE_OP with an OP that Table 18.2 does not list (R564). -/
def Leaf.opUnknown (p : Nat) (val : Word) (d : Leaf) : Leaf :=
  if d.pairRuns p then d.opErr p (bits val.toNat 31 28) val else d

/-! ## The core-local registers and the trace window -/

/-- A read of CORE_NEXT (R563). -/
def Leaf.coreNextRead (p : Nat) (d : Leaf) : Leaf :=
  let v := match d.onPair p with | some t => 2 ^ 31 + t | none => 0
  { d.wr SCH_PAIRS_PENDING (setBit (d.rd SCH_PAIRS_PENDING) p false) with rdata := v }

def execCoreNextRead (l : LeafId) (p : Fin 4) (s : State) : Host.Outcome State Fault Refusal := onLeaf l s (Leaf.coreNextRead p.val)

/-- CORE_MTIMECMP of a pair. -/
def Leaf.mtimecmp (d : Leaf) (p : Nat) : Nat := SMap.get (2 ^ 64 - 1) d.sch.cmp p

/-- The machine timer interrupt of a pair is pending while CORE_MTIME is at or above CORE_MTIMECMP (R566) (log entry 74, PRESUMED). -/
def Leaf.machineTimer (p : Nat) (d : Leaf) : Leaf :=
  let due := decide (d.mtimecmp p ≤ d.tim.c)
  let d' := { d with sch := { d.sch with mtip := setBit d.sch.mtip p due } }
  if due && !bitOf d.sch.mtip p then d'.emit (.coreIrq p 7) else d'

def execMachineTimer (l : LeafId) (p : Fin 4) (s : State) : Host.Outcome State Fault Refusal := onLeaf l s (Leaf.machineTimer p.val)

/-- A write of CORE_MSIX (R567) (log entry 74, PRESUMED). -/
def Leaf.coreMsix (p : Nat) (val : Word) (d : Leaf) : Leaf :=
  if !d.pairRuns p then d
  else if 16 ≤ val.toNat && val.toNat ≤ 63 then d.msix val.toNat
  else d.wr SCH_STATUS_OP_ERR 1

def execCoreMsix (l : LeafId) (p : Fin 4) (val : Word) (s : State) : Host.Outcome State Fault Refusal := onLeaf l s (Leaf.coreMsix p.val val)

/-- A write of CORE_RELEASE: bits 3 to 1 release their pairs; ignored from pairs 1 to 3 (R559, Table 18.6) (log entry 99, DESIGN CHOICE). -/
def Leaf.coreRelease (p : Nat) (val : Word) (d : Leaf) : Leaf :=
  if p = 0 && d.pairRuns 0 then { d with sch := { d.sch with released := Nat.lor d.sch.released (Nat.land val.toNat 14) } } else d

def execCoreRelease (l : LeafId) (p : Fin 4) (val : Word) (s : State) : Host.Outcome State Fault Refusal :=
  onLeaf l s (Leaf.coreRelease p.val val)

/-- A read of SCH_TRACE_DATA (Table 18.7). -/
def Leaf.traceRead (d : Leaf) : Leaf := { d.inc SCH_TRACE_ADDR_ADDR with rdata := SMap.get 0 d.sch.trace (d.rd SCH_TRACE_ADDR_ADDR) }

def execSchTraceDataRead (l : LeafId) (s : State) : Host.Outcome State Fault Refusal := onLeaf l s Leaf.traceRead

/-! ## Lockstep and SRAM (R555, R556) -/

/-- A lockstep mismatch: the pair is held in reset, its thread becomes BLOCKED, and the fault takes the reaction of 13_the_hinge.md
Table 13.5. -/
def Leaf.lockstepMismatch (p : Nat) (d : Leaf) : Leaf :=
  if !d.alive p then d
  else
    let d := (d.wr SCH_PAIRS_ALIVE (setBit (d.rd SCH_PAIRS_ALIVE) p false)).wr SCH_STATUS_PAIR_LOST 1
    let d := { d.wr SCH_PAIRS_PENDING (setBit (d.rd SCH_PAIRS_PENDING) p false) with hng := { d.hng with lockstepOk := false } }
    let d := match d.onPair p with
      | some t => ((d.unlink t).setThr t { d.thr t with st := .blocked, pair := 0 }).traceRec 7 p p t 255 0 0
      | none => d.traceRec 7 p p 255 255 0 0
    d.schDecide.selfDiag 1 0x2B01 .trip p 0

def execLockstepMismatch (l : LeafId) (p : Fin 4) (s : State) : Host.Outcome State Fault Refusal := onLeaf l s (Leaf.lockstepMismatch p.val)

/-- An uncorrectable word read by a core: fault 0x2B02, and an access fault in the reading core (cause 5, a load) (log entry 74, PRESUMED; log entry 99, DESIGN CHOICE). -/
def Leaf.coreSramUecc (p : Nat) (d : Leaf) : Leaf := (d.emit (.coreIrq p 5)).selfDiag 3 0x2B02 .trip 0 0

def execCoreSramUecc (l : LeafId) (p : Fin 4) (_addr : Nat) (s : State) : Host.Outcome State Fault Refusal :=
  onLeaf l s (Leaf.coreSramUecc p.val)

/-- The scheduler after a reset: thread slots DORMANT, every pair in service, pairs 1 to 3 waiting (R557, R559, R560). A warm reset keeps
the trace RAM. -/
def Leaf.schReset (warm : Bool) (d : Leaf) : Leaf :=
  { d with sch := if warm then { trace := d.sch.trace, traced := d.sch.traced, seq := d.sch.seq } else {} }

end Sys2Proof.Machine
end

