-- ==== Sys2Proof/Machine/DiscOps.lean ====
section
/-! DEFINITION. Slot states and the checks of concentrators (11_discovery_and_membership.md R379, R380, R385, R389, R390;
01_architecture.md R25, R43). -/

namespace Sys2Proof.Machine
open Reg

/-! ## SLOT_STATE (04_tumblers_and_arm_modulation.md Table 4.2) -/

def slEMPTY : Nat := 0
def slKNOCKED : Nat := 1
def slJOINED : Nat := 2
def slACTIVE : Nat := 3
def slBYPASSED : Nat := 4
def slBOLTED : Nat := 5
def slLOST : Nat := 6
def slQUARANTINED : Nat := 7

/-- The rank of a target under R385: BOLTED, QUARANTINED, BYPASSED, LOST, then all others. -/
def slotRank (t : Nat) : Nat :=
  if t = slBOLTED then 4 else if t = slQUARANTINED then 3 else if t = slBYPASSED then 2 else if t = slLOST then 1 else 0

def Leaf.slotInfo (d : Leaf) (slot : Nat) : SlotInfo := SMap.get {} d.disc.slots slot
def Leaf.setInfo (d : Leaf) (slot : Nat) (i : SlotInfo) : Leaf :=
  { d with disc := { d.disc with slots := SMap.put {} d.disc.slots slot i } }
def Leaf.slotState (d : Leaf) (slot : Nat) : Nat := d.rd CT_SLOT_STATE slot

/-- A membership event of the active leaf waits for the boundary; of two for one slot the one with the higher target stands (R43, R385). -/
def Leaf.propose (slot target : Nat) (d : Leaf) : Leaf :=
  let p := SMap.get 16 d.cyc.member slot
  if !d.active || (p ≠ 16 && slotRank target < slotRank p) then d
  else { d with cyc := { d.cyc with member := SMap.put 16 d.cyc.member slot target } }

/-! ## DISC registers (R390) -/

/-- A DISC_EVT bit is set; its rise fires vector 4 (12_host_interface_and_handles.md R392, Table 12.2) (log entry 86, DEDUCED). -/
def Leaf.discEvt (f : Fld) (d : Leaf) : Leaf := if d.is f then d else (d.wr f 1).msix 4

/-- DISC_SLOT_INFO, DISC_SLOT_SN and DISC_SLOT_FW show the slot that DISC_SLOT_SEL names (R390). -/
def Leaf.discShow (d : Leaf) : Leaf :=
  let slot := d.rd DISC_SLOT_SEL_SLOT
  let i := d.slotInfo slot
  let want := d.rd DISC_FW_VERSION
  let d := ((d.wr DISC_SLOT_INFO_STATE (d.slotState slot)).wr DISC_SLOT_INFO_VARIANT i.variant).wr DISC_SLOT_INFO_QREASON i.qreason
  let d := (d.wr DISC_SLOT_INFO_FW_PENDING (b2n (i.answered && want ≠ 0 && i.fw ≠ want))).wr DISC_SLOT_FW_VERSION i.fw
  d.wr64 DISC_SLOT_SN_LO_SN DISC_SLOT_SN_HI_SN i.sn

/-- The slots of an arm in a state. -/
def Leaf.countSlots (d : Leaf) (a st : Nat) : Nat := ((List.range 2048).filter fun p => d.slotState (a * 2048 + p) = st).length

/-- DISC_ARMa_CNT: LOST and BOLTED saturate. -/
def Leaf.discCount (a : Nat) (d : Leaf) : Leaf :=
  ((d.wr DISC_ARMa_CNT_ACTIVE (d.countSlots a slACTIVE) a).wr DISC_ARMa_CNT_LOST (min 1023 (d.countSlots a slLOST)) a).wr
    DISC_ARMa_CNT_BOLTED (min 1023 (d.countSlots a slBOLTED)) a

/-! ## A slot changes its state (R385) -/

/-- What a change into a state raises and sets (Table 11.3); `i` is the slot as it stood. A cell that becomes ACTIVE starts with its credit
(04_tumblers_and_arm_modulation.md R149) and without silent cycles. -/
def Leaf.slotActions (slot old new : Nat) (i : SlotInfo) (d : Leaf) : Leaf :=
  let a := slot / 2048
  if new = slQUARANTINED then
    let d := d.discEvt DISC_EVT_QUAR
    if i.qreason = 4 then d else d.raise 0x2404 .alarm a 0 slot
  else if new = slBOLTED then (d.discEvt DISC_EVT_BOLTED).raise 0x2405 .alarm a 0 slot
  else if new = slLOST then (d.discEvt DISC_EVT_LOST).raise 0x2407 .alarm a 0 slot
  else if new = slJOINED then d.discEvt DISC_EVT_JOINED
  else if new = slACTIVE then
    let d := { d.wr CT_CREDIT (d.rd TUM_BUDGET_DEPTH a * 65536) slot with cyc := { d.cyc with silent := SMap.put 0 d.cyc.silent slot 0 } }
    if old = slJOINED then d.raise 0x2406 .note a 0 slot else d
  else if new = slKNOCKED && old = slLOST && i.sn ≠ i.ans then d.raise 0x2408 .note a 0 slot
  else d

/-- The serial number of a slot after a change: an EMPTY slot has none, an answer brings that of its cell, and a record or silence leaves
it. -/
def SlotInfo.after (i : SlotInfo) (old new : Nat) : SlotInfo :=
  let i := if old = slACTIVE then { i with lastSn := i.sn } else i
  if new = slEMPTY then { i with sn := 0, qreason := 0, answered := false, ans := 0, variant := 0, fw := 0 }
  else if new = slLOST || new = slBYPASSED || !i.answered then i
  else { i with sn := i.ans, qreason := if new = slQUARANTINED then i.qreason else 0 }

/-- The slot takes a state (R385): the actions of Table 11.3, and ELIG in the port entry. -/
def Leaf.setSlot (slot new : Nat) (d : Leaf) : Leaf :=
  let old := d.slotState slot
  if old = new then d
  else
    let i := d.slotInfo slot
    let d := (d.wr CT_SLOT_STATE new slot).setInfo slot (i.after old new)
    let d := match d.key.active.bind (fun im => im.entryOf slot) with
      | some e => d.entryWrite e.conc e.port (if new = slACTIVE then 2 ^ 31 else 0) (2 ^ 31)
      | none => d
    (d.slotActions slot old new i).discShow

/-- An UNJOIN is ordered on a port (Table 11.3). -/
def Leaf.orderUnjoin (n p : Nat) (d : Leaf) : Leaf :=
  let k := n * 256 + p
  { d with disc := { d.disc with unjoin := SMap.put 0 d.disc.unjoin k (SMap.get 0 d.disc.unjoin k + 1) } }

/-- The slot is set EMPTY and its cell is told. -/
def Leaf.emptySlot (im : Option Image) (slot : Nat) (d : Leaf) : Leaf :=
  let d := match im.bind (fun i => i.entryOf slot) with
    | some e => d.orderUnjoin e.conc e.port
    | none => d
  d.setSlot slot slEMPTY

/-- A REPLACE at the boundary (R389): a row with a higher target for the same slot wins over it. -/
def Leaf.replaceAt (h slot : Nat) (d : Leaf) : Leaf :=
  let p := SMap.get 16 d.cyc.member slot
  if !d.active then d.complete h stDONE
  else if p ≠ 16 && slotRank p ≠ 0 then d.complete h stREFUSED_STATE
  else
    let d := (d.emptySlot d.key.active slot)
    ({ d with disc := { d.disc with replaced := (h, slot) :: d.disc.replaced },
              cyc := { d.cyc with member := SMap.erase d.cyc.member slot } }).complete h stDONE

/-! ## The concentrators (R380, 01_architecture.md R25) -/

/-- Bit `n` of a map in two registers. -/
def Leaf.mapBit (d : Leaf) (lo hi : Fld) (n : Nat) : Bool := bitOf (d.rd64 lo hi) n
def Leaf.setMapBit (d : Leaf) (lo hi : Fld) (n : Nat) (b : Bool) : Leaf := d.wr64 lo hi (setBit (d.rd64 lo hi) n b)

/-- The ports of a concentrator under AID_CAP.PORTS (00_scope.md Table 0.4). -/
def portsOfCap (cap : Nat) : Nat := 2 ^ bits cap 15 12

/-- The ports of a concentrator that a leaf has found; 256 while it has not read AID_CAP. -/
def Leaf.portCount (d : Leaf) (n : Nat) : Nat := if SMap.get 0 d.disc.caps n = 0 then 256 else portsOfCap (SMap.get 0 d.disc.caps n)

/-- A fault of R380: its record, and DISC_EVT.CONC. -/
def Leaf.concFault (code : Nat) (cls : FaultClass) (n : Nat) (d : Leaf) : Leaf := (d.raise code cls n).discEvt DISC_EVT_CONC

/-- A concentrator that was found is compared with the topology of the active image (R380). -/
def Leaf.concCheck (n : Nat) (d : Leaf) : Leaf :=
  match d.key.active with
  | none => d
  | some im =>
    if (im.armOf n).isNone then
      if d.mapBit DISC_CONC_UNDECL_LO_MAP DISC_CONC_UNDECL_HI_MAP n then d
      else (d.setMapBit DISC_CONC_UNDECL_LO_MAP DISC_CONC_UNDECL_HI_MAP n true).concFault 0x2401 .note n
    else if im.ports.any (fun e => e.conc = n && d.portCount n ≤ e.port) && !d.mapBit DISC_CONC_SHORT_LO_MAP DISC_CONC_SHORT_HI_MAP n then
      (d.setMapBit DISC_CONC_SHORT_LO_MAP DISC_CONC_SHORT_HI_MAP n true).concFault 0x2403 .alarm n
    else d

/-- Every concentrator that was found is compared again when an image becomes active. -/
def Leaf.concChecks (d : Leaf) : Leaf :=
  ((List.range 48).filter fun n => d.mapBit DISC_CONC_FOUND_LO_MAP DISC_CONC_FOUND_HI_MAP n).foldl (fun d n => d.concCheck n) d

/-- From KEYED_IDLE onward a declared concentrator that has not been found raises one ALARM (R380). -/
def Leaf.concMissing (d : Leaf) : Leaf :=
  if d.conv.st = .unkeyed then d
  else
    (d.declared.filter fun n => !d.mapBit DISC_CONC_FOUND_LO_MAP DISC_CONC_FOUND_HI_MAP n && !d.disc.missing.contains n).foldl
      (fun d n => ({ d with disc := { d.disc with missing := n :: d.disc.missing } }).concFault 0x2402 .alarm n) d

/-- The serial number found on an uplink; 0 while it is not UP. -/
def Leaf.peerSn (d : Leaf) (n : Nat) : Nat := d.rd64 LNKn_PEER_SN_LO_SN LNKn_PEER_SN_HI_SN n

/-- The wiring of an uplink index is wrong: both leaves have found a concentrator on it, and the serial numbers differ (R25). -/
def Leaf.miswired (d : Leaf) (n : Nat) : Bool := d.peerSn n ≠ 0 && SMap.get 0 d.disc.partnerSn n ≠ 0 && d.peerSn n ≠ SMap.get 0 d.disc.partnerSn n

/-- The concentrator on uplink `n` passes R25: its index is not miswired, and neither is the index on which the partner found it. -/
def Leaf.wiringOk (d : Leaf) (n : Nat) : Bool :=
  !d.miswired n && !(List.range 48).any fun m => d.miswired m && (SMap.get 0 d.disc.partnerSn m = d.peerSn n && d.peerSn n ≠ 0)

/-- The serial numbers are compared; a new mismatch raises the ALARM (R25). -/
def Leaf.wiringCheck (d : Leaf) : Leaf :=
  let bad := (List.range 48).filter d.miswired
  let fresh := bad.filter fun n => !d.disc.wiring.contains n
  fresh.foldl (fun d n => d.raise 0x2203 .alarm n) { d with disc := { d.disc with wiring := bad } }

/-- The serial numbers found on the uplinks, for the partner (R25). -/
def Leaf.sendSerials (d : Leaf) : Leaf :=
  d.mirror (.serials (((List.range 48).filter fun n => d.peerSn n ≠ 0).map fun n => (n, d.peerSn n)))

/-- The partner's serial numbers arrive. -/
def Leaf.takeSerials (l : List (Nat × Nat)) (d : Leaf) : Leaf :=
  { d with disc := { d.disc with partnerSn := l.foldl (fun (m : SMap Nat) (e : Nat × Nat) => SMap.put 0 m e.1 e.2) [] } }.wiringCheck

/-! ## The boundary (R43, R379, R385) -/

/-- Every slot that is not EMPTY, with its state and serial number. -/
def Leaf.slotTable (d : Leaf) : List (Nat × Nat × Nat) :=
  d.bank.filterMap fun e =>
    let base := CT_SLOT_STATE.key 0
    if base ≤ e.1 && (e.1 - base) % 1024 = 0 && (e.1 - base) / 1024 < 12288 then
      let s := (e.1 - base) / 1024
      some (s, e.2, (d.slotInfo s).sn)
    else none

/-- The condition of converter state for JOIN and for admission (Table 11.3, R386) (log entry 87, DEDUCED). -/
def Leaf.readmit (d : Leaf) (i : SlotInfo) : Bool :=
  d.conv.st ≠ .deblocked || (d.is DISC_CFG_LIVE_READMIT && i.ans = i.lastSn)
/-- The latest answer meets the admission conditions of R386 (log entry 87, DEDUCED). -/
def Leaf.admits (d : Leaf) (i : SlotInfo) : Bool :=
  i.st = 1 && i.lock && i.hard = d.rd DISC_HARD_HARD && d.rd DISC_HARD_HARD ≠ 0xFFFF &&
  (d.rd DISC_FW_VERSION = 0 || i.fw = d.rd DISC_FW_VERSION) && d.readmit i && d.conv.st ≠ .unkeyed

/-- The JOINED slots whose latest answer meets R386 at this boundary (log entry 87, DEDUCED). -/
def Leaf.admitJoined (d : Leaf) : Leaf :=
  (d.disc.slots.filter fun e => d.slotState e.1 = slJOINED && e.2.answered && d.admits e.2 &&
    (match d.key.active.bind (fun im => im.entryOf e.1) with | some p => d.wiringOk p.conc | none => false)).foldl
    (fun d e => d.propose e.1 slACTIVE) d

/-- Membership changes are applied at the boundary (R43, R385, R389), and the standby is told every slot state (R379). -/
def Leaf.applyMembers (d : Leaf) : Leaf :=
  let rs := d.disc.replace
  let d := { d with disc := { d.disc with replace := [] } }
  let d := rs.foldl (fun d r => d.replaceAt r.1 r.2) d
  let d := d.admitJoined
  let ms := d.cyc.member
  let d := { d with cyc := { d.cyc with member := [] } }
  let d := ms.foldl (fun d m => d.setSlot m.1 m.2) d
  let d := if ms.isEmpty && rs.isEmpty then d else (List.range 6).foldl (fun d a => d.discCount a) d
  if d.active then d.mirror (.slots d.slotTable) else d

/-- A leaf that is not active takes every slot state from the active leaf (R379). -/
def Leaf.takeSlots (l : List (Nat × Nat × Nat)) (d : Leaf) : Leaf :=
  if d.active then d
  else
    let gone := d.slotTable.filter fun s => !l.any (·.1 = s.1)
    let put (d : Leaf) (s : Nat × Nat × Nat) : Leaf :=
      let i := d.slotInfo s.1
      let i := if d.slotState s.1 = slACTIVE && s.2.1 ≠ slACTIVE then { i with lastSn := i.sn } else i
      (d.wr CT_SLOT_STATE s.2.1 s.1).setInfo s.1 { i with sn := s.2.2 }
    let d := (gone.map fun s => (s.1, 0, 0)).foldl put d
    ((List.range 6).foldl (fun d a => d.discCount a) (l.foldl put d)).discShow

end Sys2Proof.Machine
end

