-- ==== Sys2Proof/Machine/Fabric.lean ====
section
/-! DEFINITION. The control fabric: lists, steps, channels, output ports, the cell-table requests, the model watch, the scrubber and the
self-test (05_control_fabric.md R167 to R211). -/

namespace Sys2Proof.Machine
open Reg

/-! ## Lists (R98, R109, R168 to R173) -/

/-- The 85 % of the tile budget, in FCLK cycles (R172) (log entry 15, DESIGN CHOICE). -/
def Leaf.listLimit (d : Leaf) : Nat := d.rd CYC_PERIOD_PERIOD * 80 * 85 / 100

/-- FAB_LOAD shows the longest list time of the last 1,024 cycles. -/
def Leaf.noteLoad (d : Leaf) (t k time : Nat) : Leaf :=
  let l := (d.fab.loads.filter fun e => k < e.1 + 1024) ++ [(k, t, time)]
  let m := l.foldl (fun (m : Nat × Nat) e => if m.2 < e.2.2 then (e.2.1, e.2.2) else m) (0, 0)
  ({ d with fab := { d.fab with loads := l } }.wr FAB_LOAD_TILE m.1).wr FAB_LOAD_MAX m.2

/-- The list of tile `t` for cycle `k` has ended: its time, the reserve of R172, the accumulator as the window shows it (log entry 51, DEDUCED). -/
def Leaf.endList (d : Leaf) (t k : Nat) : Leaf :=
  let x := d.tile t
  let d := d.setTile t { x with run := none, lastDone := some k }
  let d := (d.wr TILE_TIME_LAST x.spent t).wr TILE_TIME_MAX (max (d.rd TILE_TIME_MAX t) x.spent) t
  let d := (d.wr TILE_ACC_LO_ACC (pat 64 x.acc % 2 ^ 32) t).wr TILE_ACC_HI_ACC (pat 64 x.acc / 2 ^ 32) t
  let d := d.noteLoad t k x.spent
  if d.listLimit < x.spent then
    let d' := (d.wr TILE_STATUS_RESERVE 1 t).wr FAB_STATUS_RESERVE 1
    if d.is TILE_STATUS_RESERVE t then d' else d'.raise 0x0401 .note t
  else d

/-- CYC_OVR_LAST.SKIPS counts a skipped or aborted list (R109, R173) (log entry 51, DEDUCED). -/
def Leaf.countSkip (d : Leaf) : Leaf := d.sat CYC_OVR_LAST_SKIPS

/-- The cycle of the list that an idle tile would start: after a list that missed FD the one that follows it (R109), otherwise the one
whose FD(k-1) was reached last (R98) (log entry 51, DEDUCED). -/
def Leaf.nextList (d : Leaf) (x : TileSt) : Option Nat :=
  match d.fab.fdDone with
  | none => none
  | some j => match x.late, x.lastDone with
    | true, some i => if i ≤ j then some (i + 1) else none
    | _, some i => if i ≤ j then some (j + 1) else none
    | _, none => some (j + 1)

/-- A tile starts its list, or skips it where a late list before it has held it back past U(k) (R98, R109) (log entry 51, DEDUCED). -/
def Leaf.listStart (t : Nat) (d : Leaf) : Leaf :=
  let x := d.tile t
  if !x.used || x.run.isSome || !d.is FAB_STATUS_RUN then d
  else match d.nextList x with
    | none => d
    | some k =>
      if k < d.key.runFrom then d
      else if x.late && reached d.fab.delivered k then (d.setTile t { x with lastDone := some k }).countSkip
      else d.setTile t { x with run := some k, pc := 0, spent := 0, late := false, spOld := [] }

def execTileListStart (l : LeafId) (t : Tile) (s : State) : Host.Outcome State Fault Refusal := onLeaf l s (Leaf.listStart t.val)

/-- A list of cycle k that still runs at S(k+2) is aborted; what it has written stays (R173). -/
def Leaf.listAbort (t : Nat) (d : Leaf) : Leaf :=
  let x := d.tile t
  match x.run with
  | some k =>
    if k + 2 ≤ d.tim.cyc then
      ((d.setTile t { x with run := none, lastDone := some k, late := true }).wr TILE_STATUS_ABORT 1 t).countSkip
    else d
  | none => d

def execTileListAbort (l : LeafId) (t : Tile) (s : State) : Host.Outcome State Fault Refusal := onLeaf l s (Leaf.listAbort t.val)

/-! ## Errors (R204, R205) -/

/-- The list's cycle publishes no selected set and counts as an overrun. -/
def Leaf.spoil (d : Leaf) (k : Nat) : Leaf := { d with cyc := { d.cyc with tileLate := k :: d.cyc.tileLate } }

/-- An uncorrectable error in a memory of tile `t` (FAB_ECC.MEM codes; R204). -/
def Leaf.tileUecc (d : Leaf) (t mem : Nat) : Leaf :=
  let d := ((d.wr TILE_STATUS_UECC 1 t).sat TILE_ECC_UNCORR t).wr FAB_STATUS_UECC_SEEN 1
  (((d.sat FAB_ECC_COUNT).wr FAB_ECC_TILE t).wr FAB_ECC_MEM mem).selfDiag 3 0x0406 .trip t 0

/-- A residue mismatch in tile `t` (R205). -/
def Leaf.tileSelfchk (d : Leaf) (t : Nat) : Leaf := ((d.wr TILE_STATUS_SELFCHK 1 t).wr FAB_STATUS_SELFCHK 1).selfDiag 2 0x0407 .trip t 0

/-- What the checks of a step report for the list of cycle `k` (log entry 15, DESIGN CHOICE). -/
def Leaf.stepCheck (d : Leaf) (t k : Nat) : StepCheck → Leaf
  | .ok => d
  | .selfCheck => (d.tileSelfchk t).spoil k
  | .uecc => (d.tileUecc t 0).spoil k

/-! ## Running a step (R168, R169) -/

/-- Tile `t` runs its next step, if a list runs and that step is of operation `op`. `uses` says which of A and B are operands; a step that
must wait uses one FCLK cycle and stays. A step whose check fails works on a free value (log entry 15, DESIGN CHOICE). -/
def Leaf.stepRun (d : Leaf) (t : Nat) (chk : StepCheck) (op cost : Nat) (uses : Nat → Bool × Bool) (body : StepCtx → Leaf → Option Leaf) : Leaf :=
  let x := d.tile t
  match x.run with
  | none => d
  | some k =>
    let w := SMap.get 0 x.steps x.pc
    if stepOp w ≠ op then d
    else
      let u := uses w
      let va := if u.1 then d.opndVal x k (stepA w) else some 0
      let vb := if u.2 then d.opndVal x k (stepB w) else some 0
      let wait := d.setTile t { x with spent := x.spent + 1, spOld := [] }
      match va, vb with
      | some a, some b =>
        let a := if chk = .ok then a else sext 32 d.free
        let d1 := if chk = .ok then d else d.useFree
        match body ⟨t, k, x.pc, w, a, b⟩ d1 with
        | none => wait
        | some e =>
          let y := e.tile t
          let e := e.setTile t { y with pc := x.pc + 1, spent := x.spent + cost + b2n (u.1 && u.2 && twoWords (stepA w) (stepB w)),
                                        spOld := y.spOld.drop x.spOld.length }
          let e := e.stepCheck t k chk
          if e.rd TILE_LIST_STEPS t ≤ x.pc + 1 then e.endList t k else e
      | _, _ => wait

/-- Which fields of a step are operands: none, A, A and B, B. -/
def useNone (_ : Nat) : Bool × Bool := (false, false)
def useA (_ : Nat) : Bool × Bool := (true, false)
def useAB (_ : Nat) : Bool × Bool := (true, true)
def useB (_ : Nat) : Bool × Bool := (false, true)

/-- A step that writes one value to its destination. -/
def Leaf.stepTo (d : Leaf) (t : Nat) (chk : StepCheck) (op cost : Nat) (uses : Nat → Bool × Bool) (f : Int → Int → Int) : Leaf :=
  d.stepRun t chk op cost uses fun c d => some (d.putDst c (f c.a c.b))

def execStepNop (l : LeafId) (t : Tile) (chk : StepCheck) (s : State) : Host.Outcome State Fault Refusal :=
  onLeaf l s fun d => d.stepRun t.val chk 0x00 1 useNone fun _ d => some d

def execStepMov (l : LeafId) (t : Tile) (chk : StepCheck) (s : State) : Host.Outcome State Fault Refusal :=
  onLeaf l s fun d => d.stepTo t.val chk 0x01 1 useA fun a _ => a

def execStepAdd (l : LeafId) (t : Tile) (chk : StepCheck) (s : State) : Host.Outcome State Fault Refusal :=
  onLeaf l s fun d => d.stepTo t.val chk 0x02 1 useAB fun a b => a + b

def execStepSub (l : LeafId) (t : Tile) (chk : StepCheck) (s : State) : Host.Outcome State Fault Refusal :=
  onLeaf l s fun d => d.stepTo t.val chk 0x03 1 useAB fun a b => a - b

def execStepNeg (l : LeafId) (t : Tile) (chk : StepCheck) (s : State) : Host.Outcome State Fault Refusal :=
  onLeaf l s fun d => d.stepTo t.val chk 0x04 1 useA fun a _ => -a

def execStepAbs (l : LeafId) (t : Tile) (chk : StepCheck) (s : State) : Host.Outcome State Fault Refusal :=
  onLeaf l s fun d => d.stepTo t.val chk 0x05 1 useA fun a _ => (a.natAbs : Int)

def execStepMin (l : LeafId) (t : Tile) (chk : StepCheck) (s : State) : Host.Outcome State Fault Refusal :=
  onLeaf l s fun d => d.stepTo t.val chk 0x06 1 useAB fun a b => min a b

def execStepMax (l : LeafId) (t : Tile) (chk : StepCheck) (s : State) : Host.Outcome State Fault Refusal :=
  onLeaf l s fun d => d.stepTo t.val chk 0x07 1 useAB fun a b => max a b

/-- CMP: relation codes 6 and 7 have no stated result, so it is a free bit (log entry 4, DESIGN CHOICE). -/
def Leaf.cmpTo (c : StepCtx) (d : Leaf) : Leaf :=
  match cmpStep (stepMod c.w % 8) c.a c.b with
  | some r => d.putDst c (b2n r : Nat)
  | none => (d.putDst c (d.free % 2 : Nat)).useFree

def execStepCmp (l : LeafId) (t : Tile) (chk : StepCheck) (s : State) : Host.Outcome State Fault Refusal :=
  onLeaf l s fun d => d.stepRun t.val chk 0x08 1 useAB fun c d => some (Leaf.cmpTo c d)

def execStepSel (l : LeafId) (t : Tile) (chk : StepCheck) (s : State) : Host.Outcome State Fault Refusal :=
  onLeaf l s fun d => d.stepRun t.val chk 0x09 1 useAB fun c d =>
    some (d.putDst c (if (d.tile c.t).reg (stepMod c.w) ≠ 0 then c.a else c.b))

/-- LIM: ±|c| with MOD[0] = 0, [B, c] with MOD[0] = 1, where B is an operand. -/
def Leaf.limTo (c : StepCtx) (d : Leaf) : Leaf :=
  let k := d.coefVal c
  d.putDst c (if stepMod c.w % 2 = 0 then clampInt (-(k.natAbs : Int)) k.natAbs c.a else clampInt c.b k c.a)

def execStepLim (l : LeafId) (t : Tile) (chk : StepCheck) (s : State) : Host.Outcome State Fault Refusal :=
  onLeaf l s fun d => d.stepRun t.val chk 0x0A 1 (fun w => (true, decide (stepMod w % 2 = 1))) fun c d => some (Leaf.limTo c d)

/-- MUL: the shifted product saturates to 64 bits (ACC_OVF), the result to 32 (R174, R176). -/
def Leaf.mulTo (c : StepCtx) (d : Leaf) : Leaf :=
  let p := mulShift c.a c.b (sext 6 (stepMod c.w))
  (d.flagIf c p.2 TILE_STATUS_ACC_OVF).putDst c p.1

def execStepMul (l : LeafId) (t : Tile) (chk : StepCheck) (s : State) : Host.Outcome State Fault Refusal :=
  onLeaf l s fun d => d.stepRun t.val chk 0x0B 2 useAB fun c d => some (Leaf.mulTo c d)

def execStepAccout (l : LeafId) (t : Tile) (chk : StepCheck) (s : State) : Host.Outcome State Fault Refusal :=
  onLeaf l s fun d => d.stepRun t.val chk 0x0C 1 useNone fun c d => some (d.putDst c (d.tile c.t).acc)

/-- MAC: MOD[0] clears the accumulator first, MOD[1] subtracts. -/
def Leaf.macTo (c : StepCtx) (d : Leaf) : Leaf :=
  let p := mulShift c.a (d.coefVal c) (d.coefShift c)
  let x := d.tile c.t
  let base := if stepMod c.w % 2 = 1 then 0 else x.acc
  let r := sat64 (if bitOf (stepMod c.w) 1 then base - p.1 else base + p.1)
  (d.setTile c.t { x with acc := r.1 }).flagIf c (p.2 || r.2) TILE_STATUS_ACC_OVF

def execStepMac (l : LeafId) (t : Tile) (chk : StepCheck) (s : State) : Host.Outcome State Fault Refusal :=
  onLeaf l s fun d => d.stepRun t.val chk 0x0D 2 useA fun c d => some (Leaf.macTo c d)

def Leaf.divTo (c : StepCtx) (d : Leaf) : Leaf :=
  let r := divStep c.a c.b (stepMod c.w % 32)
  (d.flagIf c r.2 TILE_STATUS_DIV_ZERO).putDst c r.1

def execStepDiv (l : LeafId) (t : Tile) (chk : StepCheck) (s : State) : Host.Outcome State Fault Refusal :=
  onLeaf l s fun d => d.stepRun t.val chk 0x0E 34 useAB fun c d => some (Leaf.divTo c d)

def Leaf.sqrtTo (c : StepCtx) (d : Leaf) : Leaf :=
  let r := sqrtStep c.a (stepMod c.w % 32)
  (d.flagIf c r.2 TILE_STATUS_SQRT_NEG).putDst c r.1

def execStepSqrt (l : LeafId) (t : Tile) (chk : StepCheck) (s : State) : Host.Outcome State Fault Refusal :=
  onLeaf l s fun d => d.stepRun t.val chk 0x0F 18 useA fun c d => some (Leaf.sqrtTo c d)

def Leaf.sincosTo (c : StepCtx) (d : Leaf) : Leaf :=
  let a := pat 32 c.a
  (d.putReg c c.dstReg (sinStep a)).putReg c (c.dstReg + 1) (cosStep a)

def execStepSincos (l : LeafId) (t : Tile) (chk : StepCheck) (s : State) : Host.Outcome State Fault Refusal :=
  onLeaf l s fun d => d.stepRun t.val chk 0x10 4 useA fun c d => some (Leaf.sincosTo c d)

/-- ABC2AB: the quotients by 3 and √3 to nearest (R182). `c.a` is the value of the first register of the triple. -/
def Leaf.abcTo (c : StepCtx) (d : Leaf) : Leaf :=
  let x := d.tile c.t
  let vb := x.reg (c.aReg + 1)
  let vc := x.reg (c.aReg + 2)
  (d.putReg c c.dstReg (divNear (2 * c.a - vb - vc) 3)).putReg c (c.dstReg + 1) (divRoot3 (vb - vc))

def execStepAbc2ab (l : LeafId) (t : Tile) (chk : StepCheck) (s : State) : Host.Outcome State Fault Refusal :=
  onLeaf l s fun d => d.stepRun t.val chk 0x11 3 useA fun c d => some (Leaf.abcTo c d)

/-- ROT: A names x, y and B names sin, cos in units of 2^-30 (log entry 16, DEDUCED); MOD[0] = 1 is the inverse rotation. -/
def Leaf.rotTo (c : StepCtx) (d : Leaf) : Leaf :=
  let x := d.tile c.t
  let vx := c.a
  let vy := x.reg (c.aReg + 1)
  let si := if stepMod c.w % 2 = 1 then -c.b else c.b
  let co := x.reg (c.bReg + 1)
  (d.putReg c c.dstReg (shiftBy (vx * co + vy * si) (-30))).putReg c (c.dstReg + 1) (shiftBy (vy * co - vx * si) (-30))

def execStepRot (l : LeafId) (t : Tile) (chk : StepCheck) (s : State) : Host.Outcome State Fault Refusal :=
  onLeaf l s fun d => d.stepRun t.val chk 0x12 4 useAB fun c d => some (Leaf.rotTo c d)

/-- DELAY: the line of MOD words at raw address B, taken in turn by the 64-bit cycle count. The place in a line of 0 words is not stated:
a free value (log entry 4, DESIGN CHOICE). -/
def Leaf.delayTo (c : StepCtx) (d : Leaf) : Leaf :=
  let m := stepMod c.w
  let place := if m = 0 then d.free else c.k % m
  let d := if m = 0 then d.useFree else d
  let a := stepB c.w % 4096 + place
  let v := (d.tile c.t).spRead a
  (d.putDst c v).putSp c a c.a

def execStepDelay (l : LeafId) (t : Tile) (chk : StepCheck) (s : State) : Host.Outcome State Fault Refusal :=
  onLeaf l s fun d => d.stepRun t.val chk 0x13 2 useA fun c d => some (Leaf.delayTo c d)

def Leaf.rateLimTo (c : StepCtx) (d : Leaf) : Leaf :=
  let v := (d.tile c.t).reg c.dstReg
  let k : Int := (d.coefVal c).natAbs
  d.putReg c c.dstReg (v + clampInt (-k) k (c.a - v))

def execStepRateLim (l : LeafId) (t : Tile) (chk : StepCheck) (s : State) : Host.Outcome State Fault Refusal :=
  onLeaf l s fun d => d.stepRun t.val chk 0x14 2 useA fun c d => some (Leaf.rateLimTo c d)

def Leaf.filt1To (c : StepCtx) (d : Leaf) : Leaf :=
  let v := (d.tile c.t).reg c.dstReg
  let p := mulShift (d.coefVal c) (c.a - v) (d.coefShift c)
  (d.flagIf c p.2 TILE_STATUS_ACC_OVF).putReg c c.dstReg (v + p.1)

def execStepFilt1 (l : LeafId) (t : Tile) (chk : StepCheck) (s : State) : Host.Outcome State Fault Refusal :=
  onLeaf l s fun d => d.stepRun t.val chk 0x15 3 useA fun c d => some (Leaf.filt1To c d)

/-- A coefficient product in units of 2^-32, so that no shift of a coefficient loses a bit (log entry 16, DEDUCED). -/
def Leaf.fine (d : Leaf) (c : StepCtx) (i : Nat) (v : Int) : Int := shiftBy (d.coefVal c i * v) (d.coefShift c i + 32)

/-- FILT2: y = b0 x + s1, s1 = b1 x - a1 y + s2, s2 = b2 x - a2 y, the written values rounded (R182, log entry 16, DEDUCED). -/
def Leaf.filt2To (c : StepCtx) (d : Leaf) : Leaf :=
  let x := d.tile c.t
  let a := stepB c.w % 4096
  let s1 := x.spRead a * (2 ^ 32 : Nat)
  let s2 := x.spRead (a + 1) * (2 ^ 32 : Nat)
  let y := (sat32 (shiftBy (d.fine c 0 c.a + s1) (-32))).1
  let n1 := shiftBy (d.fine c 1 c.a - d.fine c 3 y + s2) (-32)
  let n2 := shiftBy (d.fine c 2 c.a - d.fine c 4 y) (-32)
  let raw := shiftBy (d.fine c 0 c.a + s1) (-32)
  ((d.putDst c raw).putSp c a n1).putSp c (a + 1) n2

def execStepFilt2 (l : LeafId) (t : Tile) (chk : StepCheck) (s : State) : Host.Outcome State Fault Refusal :=
  onLeaf l s fun d => d.stepRun t.val chk 0x16 6 useA fun c d => some (Leaf.filt2To c d)

/-- The indexed scratchpad address of LOAD and STORE: S[A] plus a raw field, modulo 4,096. -/
def spIndex (a : Int) (raw : Nat) : Nat := ((a + (raw % 4096 : Nat)) % 4096).toNat

def execStepLoad (l : LeafId) (t : Tile) (chk : StepCheck) (s : State) : Host.Outcome State Fault Refusal :=
  onLeaf l s fun d => d.stepRun t.val chk 0x17 1 useA fun c d => some (d.putDst c ((d.tile c.t).spRead (spIndex c.a (stepB c.w))))

def execStepStore (l : LeafId) (t : Tile) (chk : StepCheck) (s : State) : Host.Outcome State Fault Refusal :=
  onLeaf l s fun d => d.stepRun t.val chk 0x18 1 useAB fun c d => some (d.putSp c (spIndex c.a (stepDst c.w)) c.b)

/-! ## The interconnect (R192 to R195) -/

def TileSt.chanOf (x : TileSt) (c : Nat) : List ChanEnt := SMap.get [] x.chan c

/-- The entries of a channel, those on their way to it included: the credit of R195. -/
def TileSt.chanHeld (x : TileSt) (c : Nat) : Nat := (x.chanOf c).length + (x.flight.filter (·.1 = c)).length

/-- SEND: A goes to channel DST[2:0] of tile DST[11:4], and waits while that channel is full. -/
def Leaf.sendTo (c : StepCtx) (d : Leaf) : Option Leaf :=
  let ch := stepDst c.w % 8
  let dest := bits (stepDst c.w) 11 4
  let y := d.tile dest
  if 4 ≤ y.chanHeld ch then none else some (d.setTile dest { y with flight := y.flight ++ [(ch, ⟨c.k % 4, pat 32 c.a⟩)] })

def execStepSend (l : LeafId) (t : Tile) (chk : StepCheck) (s : State) : Host.Outcome State Fault Refusal :=
  onLeaf l s fun d => d.stepRun t.val chk 0x19 1 useA Leaf.sendTo

/-- The oldest entry on its way to a channel arrives (R192). -/
def Leaf.chanArrival (t ch : Nat) (d : Leaf) : Leaf :=
  let x := d.tile t
  match x.flight.find? (·.1 = ch) with
  | some e => d.setTile t { x with flight := x.flight.erase e, chan := SMap.put [] x.chan ch (x.chanOf ch ++ [e.2]) }
  | none => d

def execChannelEntryArrival (l : LeafId) (t : Tile) (ch : Fin 8) (s : State) : Host.Outcome State Fault Refusal :=
  onLeaf l s (Leaf.chanArrival t.val ch.val)

/-- The entries of a channel for a RECV of cycle `k` (R194): how many earlier ones go, and what is left from the first other one on. -/
def dropEarlier (k : Nat) : List ChanEnt → Nat × List ChanEnt
  | [] => (0, [])
  | e :: r => if 2 ≤ (e.tag + 4 - k % 4) % 4 then let y := dropEarlier k r; (y.1 + 1, y.2) else (0, e :: r)

/-- Entries discarded under R194, counted. -/
def Leaf.discards (d : Leaf) (t n : Nat) : Leaf := d.wr TILE_IC_DISCARD (min (d.rd TILE_IC_DISCARD t + n) 65535) t

/-- RECV: earlier entries are discarded at once; the entry of this cycle is taken; otherwise the step waits. -/
def Leaf.recv (t : Nat) (chk : StepCheck) (d : Leaf) : Leaf :=
  let x := d.tile t
  match x.run with
  | none => d
  | some k =>
    let w := SMap.get 0 x.steps x.pc
    if stepOp w ≠ 0x1A then d
    else
      let ch := stepMod w % 8
      let y := dropEarlier k (x.chanOf ch)
      let d := (d.setTile t { x with chan := SMap.put [] x.chan ch y.2 }).discards t y.1
      d.stepRun t chk 0x1A 1 useNone fun c d =>
        let x := d.tile t
        match x.chanOf ch with
        | e :: r => if e.tag = c.k % 4 then some ((d.setTile t { x with chan := SMap.put [] x.chan ch r }).putDst c (sext 32 e.value)) else none
        | [] => none

def execStepRecv (l : LeafId) (t : Tile) (chk : StepCheck) (s : State) : Host.Outcome State Fault Refusal :=
  onLeaf l s (Leaf.recv t.val chk)

/-! ## Output ports (R189, R191) -/

/-- The class of a protection line (06_keying_image.md Table 6.9). -/
def Leaf.lineClass (d : Leaf) (j : Nat) : Option FaultClass :=
  match d.key.active with
  | some im => routeClass (bits im.prot.lineClass (2 * j + 1) (2 * j))
  | none => none

/-- A write to protection line `j` (R191). -/
def Leaf.lineWrite (d : Leaf) (j v : Nat) : Leaf :=
  let old := SMap.get 0 d.fab.lines j
  let d := { d with fab := { d.fab with lines := SMap.put 0 d.fab.lines j v } }
  if old = 0 && v ≠ 0 then
    match d.lineClass j with
    | some c => d.raise (0x0480 + j) c j
    | none => d
  else d

/-- OUT: the port is written in the bank of the list's cycle. -/
def Leaf.outTo (c : StepCtx) (d : Leaf) : Leaf :=
  let p := stepDst c.w % 1024
  let v := pat 32 c.a
  let f := d.fab
  let f := if c.k % 2 = 0 then { f with out0 := SMap.put 0 f.out0 p v } else { f with out1 := SMap.put 0 f.out1 p v }
  let d := { d with fab := { f with outCyc := SMap.put 0 f.outCyc p (c.k + 1) } }
  if 0x080 ≤ p && p ≤ 0x09F then d.lineWrite (p - 0x080) v else d

def execStepOut (l : LeafId) (t : Tile) (chk : StepCheck) (s : State) : Host.Outcome State Fault Refusal :=
  onLeaf l s fun d => d.stepRun t.val chk 0x1B 1 useA fun c d => some (Leaf.outTo c d)

/-! ## Cell-table access (R196 to R198) -/

/-- A request joins those of the tile. -/
def Leaf.request (d : Leaf) (t : Nat) (q : CtReq) : Leaf := let x := d.tile t; d.setTile t { x with reqs := x.reqs ++ [q] }

def execStepCtld (l : LeafId) (t : Tile) (chk : StepCheck) (s : State) : Host.Outcome State Fault Refusal :=
  onLeaf l s fun d => d.stepRun t.val chk 0x1C 1 useA fun c d =>
    some (d.request c.t ⟨c.k, false, pat 32 c.a, stepMod c.w % 8, stepDst c.w % 4⟩)

def execStepCtst (l : LeafId) (t : Tile) (chk : StepCheck) (s : State) : Host.Outcome State Fault Refusal :=
  onLeaf l s fun d => d.stepRun t.val chk 0x1D 1 useAB fun c d => some (d.request c.t ⟨c.k, true, pat 32 c.a, 5, pat 32 c.b⟩)

/-- The fields of a cell-table entry (04_tumblers_and_arm_modulation.md Table 4.1). -/
def ctFields : List Fld :=
  [CT_VCAP, CT_VPRED_CELL, CT_STALE, CT_CELL_STATE, CT_OV_HARD, CT_OV_WARN, CT_UV, CT_OVT, CT_DESAT, CT_TEMP, CT_UPL_SEQ, CT_AUX, CT_SAMPLE_CYC,
   CT_STAT_AUX, CT_SLOT_STATE, CT_TYPE, CT_EXCL, CT_MISMATCH, CT_LATCH_OFS, CT_C_EST, CT_LEARN_N, CT_CMD_LAST, CT_CMD_PREV, CT_F_LAST, CT_F_PREV,
   CT_TRANS, CT_CREDIT]

/-- Word `w` of the entry of a slot. -/
def Leaf.ctWord (d : Leaf) (slot w : Nat) : Nat := wordAt ctFields (fun f => d.rd f slot) (0x400000 + 4 * w)

/-- One request is served (R196 to R198): an unmapped slot delivers 0 and takes no write; a host write of the same cycle stands. -/
def Leaf.serve (t : Nat) (d : Leaf) (q : CtReq) : Leaf :=
  if q.store then
    if d.slotMapped q.slot && !d.cyc.hostCt.contains q.slot then
      (d.ctWrite CT_C_EST q.slot (q.arg / 65536)).ctWrite CT_LEARN_N q.slot (q.arg % 65536)
    else d
  else
    let x := d.tile t
    d.setTile t { x with mb := SMap.put 0 x.mb q.arg (if d.slotMapped q.slot then d.ctWord q.slot q.word else 0) }

/-- The bank of arm `a` serves a request: slots that belong to no arm are served with those of arm 0. -/
def CtReq.ofArm (q : CtReq) (a : Nat) : Bool := (if q.slot / 2048 < 6 then q.slot / 2048 else 0) = a

/-- After P(k) the bank of an arm serves the requests of the lists up to cycle k, tile by tile in the order of their steps (R196). -/
def Leaf.serviceArm (a : Nat) (d : Leaf) : Leaf :=
  d.tiles.foldl (fun d e =>
    let mine (q : CtReq) := q.ofArm a && q.cycle ≤ d.pubCycle
    let d := (e.2.reqs.filter mine).foldl (Leaf.serve e.1) d
    let x := d.tile e.1
    d.setTile e.1 { x with reqs := x.reqs.filter fun q => !mine q }) d

def execCellTableRequestService (l : LeafId) (a : Arm) (s : State) : Host.Outcome State Fault Refusal := onLeaf l s (Leaf.serviceArm a.val)

/-! ## Model watch (R199 to R202) -/

def Leaf.mwOf (d : Leaf) (u : Nat) : Mw := SMap.get {} d.fab.mw u
def Leaf.setMw (d : Leaf) (u : Nat) (m : Mw) : Leaf := { d with fab := { d.fab with mw := SMap.put {} d.fab.mw u m } }

/-- The input ports of a unit for cycle `k`, and whether both were written in it. -/
def Leaf.mwIn (d : Leaf) (u k i : Nat) : Int := sext 32 (d.fab.port k (0x020 + 2 * u + i))
def Leaf.mwWritten (d : Leaf) (u k : Nat) : Bool :=
  SMap.get 0 d.fab.outCyc (0x020 + 2 * u) = k + 1 && SMap.get 0 d.fab.outCyc (0x021 + 2 * u) = k + 1

/-- E_MODEL after a counted cycle (R199): the power over one cycle, rounded to 1 mJ (log entry 17, DEDUCED), and the leak. -/
def mwEnergy (e meas p : Int) (period leak : Nat) : Int :=
  e + divNear (p * period) 10 + (if leak = 0 then 0 else divNear (1000 * meas - e) (2 ^ leak))

/-- The runs of a unit after a counted cycle with residual `r` (R201, R202) (log entry 17, DEDUCED). -/
def Mw.count (m : Mw) (r alarm trip alarmP : Nat) : Mw :=
  let aOut := alarm < r
  let tOut := trip < r
  let inRun := if aOut then 0 else m.inRun + 1
  { m with aRun := if aOut then m.aRun + 1 else 0, tRun := if tOut then m.tRun + 1 else 0, inRun := inRun,
           alarmed := m.alarmed && decide (inRun < alarmP), tripped := m.tripped && tOut }

/-- A unit in cycle `k` (R199 to R202): odd units are current watches. A value of E_MODEL beyond 64 bits is not stated: a free value (log entry 4, DESIGN CHOICE; log entry 17, DEDUCED; log entry 38, DEDUCED). -/
def Leaf.mwCycle (d : Leaf) (k u : Nat) : Leaf :=
  let m := d.mwOf u
  let i0 := d.mwIn u k 0
  if d.conv.st ≠ .deblocked then d.setMw u { m with e := 1000 * i0, aRun := 0, tRun := 0, inRun := 0 }
  else if !d.mwWritten u k then d
  else
    let i1 := d.mwIn u k 1
    let e := if u % 2 = 1 then m.e else mwEnergy m.e i0 i1 (d.rd CYC_PERIOD_PERIOD) (d.rd FAB_MWu_CTL_LEAK u)
    let big := (sat64 e).2
    let e := if big then sext 64 d.free else e
    let d := if big then d.useFree else d
    let r := (sat32 (if u % 2 = 1 then i0 - i1 else i0 - divNear e 1000)).1
    let n := min r.natAbs 2147483647
    (d.wr FAB_MWu_RES_R (pat 32 r) u).setMw u
      { (m.count n (d.rd FAB_MWu_ALARM_BAND u) (d.rd FAB_MWu_TRIP_BAND u) (d.rd FAB_MWu_CTL_ALARM_P u)) with e := e }

/-- The ALARM of a unit whose run has reached ALARM_P (R201, R202). -/
def Leaf.mwAlarm (u : Nat) (d : Leaf) : Leaf :=
  let m := d.mwOf u
  if d.rd FAB_MWu_CTL_ALARM_P u ≤ m.aRun && !m.alarmed then
    ((d.setMw u { m with alarmed := true }).wr FAB_MWu_CTL_ALARMED 1 u).raise 0x0409 .alarm u
  else d

def execModelWatchAlarm (l : LeafId) (u : Fin 12) (s : State) : Host.Outcome State Fault Refusal := onLeaf l s (Leaf.mwAlarm u.val)

/-- The TRIP of a unit whose run has reached TRIP_P (R201). -/
def Leaf.mwTrip (u : Nat) (d : Leaf) : Leaf :=
  let m := d.mwOf u
  if d.rd FAB_MWu_CTL_TRIP_P u ≤ m.tRun && !m.tripped then
    ((d.setMw u { m with tripped := true }).wr FAB_MWu_CTL_TRIPPED 1 u).raise 0x040A .trip u
  else d

def execModelWatchTrip (l : LeafId) (u : Fin 12) (s : State) : Host.Outcome State Fault Refusal := onLeaf l s (Leaf.mwTrip u.val)

/-! ## Scrub and self-test (R203 to R207) -/

/-- FAB_ECC.MEM of a memory, and its words. -/
def fabMemCode : FabMem → Nat
  | .scratchpad => 0
  | .coeff => 1
  | .stepActive => 2
  | .stepShadow => 2
  | .stateReg => 3
def fabMemWords : FabMem → Nat
  | .scratchpad => 4096
  | .coeff => 512
  | .stepActive => 512
  | .stepShadow => 512
  | .stateReg => 64

/-- The key of a scrubbed word. -/
def scrubKey (t : Nat) (m : FabMem) (a : Nat) : Nat :=
  t * 32768 + (match m with | .scratchpad => 0 | .coeff => 4096 | .stepActive => 8192 | .stepShadow => 12288 | .stateReg => 16384) + a

/-- A pass is complete once every protected word of every used tile has been visited (R203). -/
def Leaf.notePass (d : Leaf) : Leaf :=
  if d.fab.scrubbed.length = 5696 * (d.tiles.filter (·.2.used)).length then
    ({ d with fab := { d.fab with scrubbed := [] },
              hng := { d.hng with fabricOk := !d.is FAB_STATUS_UECC_SEEN && !d.is FAB_STATUS_SELFCHK } }).sat FAB_SCRUB_PASSES
  else d

/-- The scrubber visits a word of a used tile (R203, R204). -/
def Leaf.scrub (t : Nat) (m : FabMem) (a : Nat) (r : EccResult) (d : Leaf) : Leaf :=
  if !(d.tile t).used || fabMemWords m ≤ a then d
  else
    let d := match r with
      | .clean => d
      | .corrected => (d.sat TILE_ECC_CORR t).sat FAB_SCRUB_CORR
      | .uncorrectable => d.tileUecc t (fabMemCode m)
    { d with fab := { d.fab with scrubbed := SMap.put 0 d.fab.scrubbed (scrubKey t m a) 1 } }.notePass

def execScrub (l : LeafId) (t : Tile) (mem : FabMem) (addr : Nat) (res : EccResult) (s : State) : Host.Outcome State Fault Refusal :=
  onLeaf l s (Leaf.scrub t.val mem addr res)

/-- The first spare tile at or after `t`, going round. -/
def Leaf.spareFrom (d : Leaf) (t : Nat) : Option Nat :=
  ((List.range 256).map fun i => (t + i) % 256).find? fun i => !(d.tile i).used

/-- A self-test run ends (R206). The tile under test is the one FAB_STEST shows, or the next spare one. -/
def Leaf.selfTest (pass : Bool) (d : Leaf) : Leaf :=
  if !d.is FAB_CFG_STEST_EN then d
  else match d.spareFrom (d.rd FAB_STEST_TILE) with
    | none => d
    | some t =>
      let d := (d.wr TILE_STATUS_STEST 0 t).inc FAB_STEST_RUNS
      let d := if pass || d.is TILE_STATUS_FAILED t then d
        else ((d.wr TILE_STATUS_FAILED 1 t).sat FAB_STEST_FAILED).raise 0x0408 .alarm t
      match d.spareFrom (t + 1) with
      | some n => (d.wr FAB_STEST_TILE n).wr TILE_STATUS_STEST 1 n
      | none => d

def execTileSelfTest (l : LeafId) (pass : Bool) (s : State) : Host.Outcome State Fault Refusal := onLeaf l s (Leaf.selfTest pass)

/-! ## Host access to a tile (R185) -/

/-- A host write that the fabric ignores while the converter is moving. -/
def Leaf.hostTileWrite (d : Leaf) (f : Leaf → Leaf) : Leaf :=
  if !d.writable then d else if d.moving then d.wr FAB_STATUS_HOST_WR_REFUSED 1 else f d

/-- An access to TILE_SP_DATA at TILE_SP_ADDR; a read is answered at any time. -/
def Leaf.spData (t : Nat) (w : Option Word) (d : Leaf) : Leaf :=
  let a := d.rd TILE_SP_ADDR_ADDR t
  match w with
  | none => { d with rdata := SMap.get 0 (d.tile t).sp a }
  | some v => d.hostTileWrite fun d => let x := d.tile t; d.setTile t { x with sp := SMap.put 0 x.sp a v.toNat }

def execTileSpDataAccess (l : LeafId) (t : Tile) (w : Option Word) (s : State) : Host.Outcome State Fault Refusal :=
  onLeaf l s (Leaf.spData t.val w)

def Leaf.snWrite (t n : Nat) (v : Word) (d : Leaf) : Leaf :=
  d.hostTileWrite fun d => let x := d.tile t; d.setTile t { x with s := SMap.put 0 x.s n v.toNat }

def execTileSnWrite (l : LeafId) (t : Tile) (n : Fin 64) (val : Word) (s : State) : Host.Outcome State Fault Refusal :=
  onLeaf l s (Leaf.snWrite t.val n.val val)

end Sys2Proof.Machine
end

