-- ==== Sys2Proof/Machine/Keying.lean ====
section
/-! DEFINITION. The keying engine: loads, swaps, fallback, the floor and the KEY commands (06_keying_image.md R212 to R246). -/

namespace Sys2Proof.Machine
open Reg

/-- The recorder and the safety block are present (00_scope.md Table 0.2). -/
def Leaf.hasRec (d : Leaf) : Bool := d.ident.variant ≠ 3
def Leaf.hasSaf (d : Leaf) : Bool := d.ident.variant ≠ 3

/-- Cells per arm of a variant (00_scope.md Table 0.2). -/
def Leaf.armLimit (d : Leaf) : Nat := if d.ident.variant = 1 then 2048 else if d.ident.variant = 2 then 1024 else 512

/-- The deadlines and the period are judged against R96 for an image: all terms, with the period that will stand. -/
def Leaf.budgetOk (d : Leaf) (x : Delays) (im : Image) (per : Nat) : Bool :=
  per * 80 > d.rd CYC_SAMPLE_OFS_VALUE &&
  orderOk per (d.rd CYC_SAMPLE_OFS_VALUE) (d.rd CYC_UPL_DL_VALUE) (d.rd CYC_PUB_DL_VALUE) (d.rd CYC_SEL_ALLOW_VALUE)
    (im.arms.foldl (fun a r => max a r.cells) 0) im.critPath &&
  0 ≤ marginUp (d.rd CYC_UPL_DL_VALUE) x && 0 ≤ marginDown per (d.rd CYC_PUB_DL_VALUE) x

/-! ## Loading (R220 to R223) -/

def Leaf.loadEnv (d : Leaf) : LoadEnv where
  variant := d.ident.variant
  limit := d.armLimit
  recorder := d.hasRec
  saf := d.hasSaf
  floor := d.rd KEY_FLOOR_FLOOR
  failed := (List.range 256).filter fun t => d.is TILE_STATUS_FAILED t

/-- A coefficient-page group holds uncommitted shadow writes (R222). -/
def Leaf.openCoef (d : Leaf) : Bool := d.cyc.opened.any fun o => !(d.groupTiles o.1).isEmpty

/-- A LOAD begins: SHADOW is LOADING, and uncommitted shadow pages are lost (R220, R222). -/
def Leaf.loadStart (j : LoadJob) (d : Leaf) : Leaf :=
  let d := if d.openCoef then d.wr KEY_STATUS_SHADOW_LOST 1 else d
  ({ d with key := { d.key with load := some j, staged := none, waitPartner := none } }.wr KEY_STATUS_SHD_STATE 1).wr KEY_STATUS_HITLESS 0

/-- The shadow coefficient pages of an image. -/
def coefPage (im : Image) (t : Nat) : SMap Nat :=
  (im.coefs.filter (·.tile = t)).foldl (fun m c =>
    c.entries.foldl (fun m e => SMap.put 0 m e.index (e.value + (e.shift % 64) * 2 ^ 32)) m) []

/-- A staged image: SHADOW and its registers (R220). -/
def Leaf.stage (im : Image) (ward : Bool) (d : Leaf) : Leaf :=
  let hit : Bool := match d.key.active with | some a => decide (a.stateHash = im.stateHash) | none => false
  let d := { d with key := { d.key with staged := some im, stagedWard := ward, load := none } }
  let d := im.tiles.foldl (fun d b => d.setTile b.tile { d.tile b.tile with coefShadow := coefPage im b.tile }) d
  (((d.wr KEY_STATUS_SHD_STATE 2).wr KEY_STATUS_HITLESS (b2n hit)).wr KEY_SHD_VER_VALUE im.version).wr KEY_SHD_SEC_VALUE im.secCtr

/-- A failed check (R220) (log entry 44, DEDUCED). -/
def Leaf.loadFailed (e : LoadErr) (d : Leaf) : Leaf :=
  let d := { d with key := { d.key with load := none, staged := none } }
  (((((d.wr KEY_STATUS_SHD_STATE 3).wr KEY_ERR_VALID 1).wr KEY_ERR_CHECK e.check).wr KEY_ERR_SECTION e.sect).wr KEY_ERR_OFS_OFFSET e.ofs)

/-- SHADOW becomes EMPTY. -/
def Leaf.shadowEmpty (d : Leaf) : Leaf :=
  ((({ d with key := { d.key with staged := none, load := none, waitPartner := none } }.wr KEY_STATUS_SHD_STATE 0).wr KEY_STATUS_HITLESS 0).wr KEY_SHD_VER_VALUE
    0).wr KEY_SHD_SEC_VALUE 0

/-- A leaf is present as partner: the mirror link is UP and the partner is ACTIVE or STANDBY (R225). -/
def Leaf.partnerPresent (d : Leaf) : Bool :=
  d.is HNG_STATUS_PARTNER_UP && (match d.hng.partner.ident with | some i => i.role = 1 || i.role = 2 | none => false)

/-- SHADOW is STAGED on every present leaf with the same image hash. -/
def Leaf.stagedAll (d : Leaf) : Bool :=
  match d.key.staged with
  | some im => !d.partnerPresent || d.key.partnerStaged = some im.hash
  | none => false

/-! ## Swaps (R224 to R234) -/

/-- The states that allow a swap (Table 6.13). -/
def swapAllowed (st : Conv) (hitless : Bool) : Bool :=
  match st with
  | .unkeyed => true
  | .keyedIdle => true
  | .blockedReady => true
  | .tripped => true
  | .charging => hitless
  | .deblocked => hitless
  | .deadbolted => false

/-- The first eight bytes of an image hash, byte 0 on top (R234). -/
def expectOf (hash : Nat) : Nat := hash / 2 ^ 320

/-- A swap of the staged image is hitless. -/
def Leaf.hitless (d : Leaf) : Bool := d.is KEY_STATUS_HITLESS

/-- The refusals of R224 and R225 for a swap to period `np` (0: keep) (log entry 18, DEDUCED). -/
def Leaf.swapRefused (d : Leaf) (x : Delays) (np : Nat) : Bool :=
  match d.key.staged with
  | none => true
  | some im =>
    let per := if np = 0 then d.rd CYC_PERIOD_PERIOD else np
    !swapAllowed d.conv.st d.hitless || !d.stagedAll || d.key.pend.isSome || per < im.period || !d.budgetOk x im per ||
      (np ≠ 0 && d.hitless && d.moving)

/-- The slots that an image maps. -/
def Image.slots (i : Image) : List Nat := i.ports.filterMap fun e => i.slotAt e.conc e.port

/-- The slots of an image, none where there is none. -/
def slotsOf (i : Option Image) : List Nat :=
  match i with
  | some i => i.slots
  | none => []

/-- A slot's port-map entry is the same in two images. -/
def sameEntry (old : Option Image) (im : Image) (slot : Nat) : Bool :=
  match old with
  | some o => o.entryOf slot = im.entryOf slot
  | none => (im.entryOf slot).isNone

/-- The map page that a concentrator does not use (R230). -/
def Leaf.idlePage (d : Leaf) (x : Delays) (n : Nat) : Nat :=
  match x.tags.find? (·.1 = n), d.key.active with
  | some t, some im => if t.2.1 = im.mapTag then 1 else 0
  | _, _ => 0

/-- A port's entry on a map page (10_flenor_links.md Table 10.13) under an image. -/
def Leaf.mapWord (d : Leaf) (im : Image) (n p : Nat) : Nat :=
  match im.ports.find? (fun e => e.conc = n && e.port = p), im.slotAt n p with
  | some e, some s =>
    b2n (d.slotState s = slACTIVE && sameEntry d.key.active im s) * 2 ^ 31 + e.type * 2 ^ 29 + e.pos * 65536 + d.rd CT_LATCH_OFS s
  | _, _ => 0

/-- Before a clearing swap the active leaf writes the new port map, and its tag, into each concentrator's idle map page (R230). -/
def Leaf.writeMaps (x : Delays) (im : Image) (d : Leaf) : Leaf :=
  ((List.range 48).filter fun n => (im.armOf n).isSome && d.uplinkUp n).foldl (fun d n =>
    let g := d.idlePage x n
    let d := (List.range (d.portCount n)).foldl (fun d p => d.concWrite n (0x4028 + 4 * g + 64 * p) (d.mapWord im n p) 0xFFFFFFFF) d
    d.concWrite n (0x488 + 4 * g) im.mapTag 0xFFFFFFFF) d

/-- The swap is scheduled for cycle c + 4 (R226). -/
def Leaf.scheduleSwap (x : Delays) (p : SwapPend) (d : Leaf) : Leaf :=
  let d := match d.key.staged with
    | some im => if d.active && !p.hitless then d.writeMaps x im else d
    | none => d
  ({ d with key := { d.key with pend := some { p with j := d.tim.cyc + 4 } } }.wr KEY_STATUS_SWAP_PEND 1)

/-- The refusals of activation that the update rules give (17_updates.md R531) (log entry 18, DEDUCED). -/
def Leaf.activationStop (d : Leaf) : Option Nat :=
  if d.is UPD_HASP_SET then some stREFUSED_HASP else if d.is PWR_STATUS_AUX_LOW then some stREFUSED_AUX else none

/-- The activation refusal with its mark (17_updates.md R531) (log entry 18, DEDUCED). -/
def Leaf.refuseAct (d : Leaf) (h : Handle) (st : Nat) : Leaf :=
  (if st = stREFUSED_AUX then d.wr UPD_STATUS_AUX_LOW 1 else d).complete h st

/-- LOAD (Table 6.14). -/
def Leaf.keyLoad (h : Handle) (d : Leaf) : Leaf :=
  d.runCmd h 3 1 fun c d =>
    let w := c.par 0 8
    if 1 < w then d.complete h stINVALID
    else
      let ward := w = 1
      if d.rd KEY_STATUS_SHD_STATE = 1 || d.key.pend.isSome || d.wardBusy ward || !d.wardOk ward then d.complete h stREFUSED_STATE
      else if d.rd KEY_STATUS_SHD_STATE = 2 && d.key.staged.map (·.hash) = (d.keyWard ward).hash && d.stagedAll then d.complete h stDONE
      else d.loadStart { handle := h, ward := ward }

def execKeyLoad (l : LeafId) (h : Handle) (s : State) : Host.Outcome State Fault Refusal := onLeaf l s (Leaf.keyLoad h)

/-- A FALLBACK goes on from its load to its swap, or completes with the refusal; SHADOW then stays STAGED (R242).
An automatic one waits (R243), and the hasp does not hold it back (17_updates.md). -/
def Leaf.fallbackSwap (x : Delays) (h : Handle) (ward auto : Bool) (d : Leaf) : Leaf :=
  match (if auto then none else d.activationStop) with
  | some st => d.refuseAct h st
  | none =>
    if d.swapRefused x 0 then (if auto then { d with key := { d.key with fallbackWait := true } } else d.complete h stREFUSED_STATE)
    else d.scheduleSwap x { handle := h, j := 0, hitless := d.hitless, period := 0, ward := ward, fallback := true, fellBack := auto }

/-- A LOAD or FALLBACK whose image is staged on every present leaf goes on (Table 6.14). -/
def Leaf.loadGoesOn (x : Delays) (j : LoadJob) (d : Leaf) : Leaf :=
  if d.stagedAll then
    let d := { d with key := { d.key with waitPartner := none } }
    if j.fallback then d.fallbackSwap x j.handle j.ward (j.handle = 0) else d.complete j.handle stDONE
  else { d with key := { d.key with waitPartner := some j } }

/-- The checks of a LOAD have finished (R220, R235, R239). A start-up load that fails takes the other ward, and the leaf stays UNKEYED when
both fail; one that succeeds schedules its swap. -/
def Leaf.keyLoadDone (x : Delays) (d : Leaf) : Leaf :=
  match d.key.load with
  | none => d
  | some j =>
    let w := d.keyWard j.ward
    match loadCheck d.loadEnv w.hash w.body with
    | some e =>
      let d := (d.loadFailed e).mirror (.keyStaged none true)
      if !j.startUp then d.complete j.handle stINVALID
      else if j.second then ({ d with pwr := { d.pwr with step := 8 } }.wr PWR_STATUS_STAGE 5).raise 0x2002 .alarm
      else (d.raise 0x2001 .alarm).loadStart { handle := 0, ward := !j.ward, startUp := true, second := true }
    | none =>
      let im := imageOf w.body
      let d := (d.stage im j.ward).mirror (.keyStaged (some im.hash) false)
      if j.startUp then
        let keep := d.key.keptState = some im.stateHash
        ({ d with pwr := { d.pwr with step := 8 } }.wr PWR_STATUS_STAGE 5).scheduleSwap x
          { handle := 0, j := 0, hitless := keep, period := 0, ward := j.ward, startUp := true, fellBack := j.second }
      else d.loadGoesOn x j

def execKeyLoadDone (l : LeafId) (s : State) : Host.Outcome State Fault Refusal :=
  onLeaf l s (Leaf.keyLoadDone ((s.leaf l).delays (s.leaf l.other) s.concs))

/-- SWAP (Table 6.14, R224, R225, R232, R234) (log entry 18, DEDUCED). -/
def Leaf.keySwap (x : Delays) (h : Handle) (d : Leaf) : Leaf :=
  d.runCmd h 3 2 fun c d =>
    let expect := c.par 0 64
    let np := c.par 64 8
    match d.activationStop with
    | some st => d.refuseAct h st
    | none =>
      if np ≠ 0 && (np < 16 || 200 < np) then d.complete h stINVALID
      else if d.key.active.map (fun i => expectOf i.hash) = some expect then d.complete h stDONE
      else if d.key.staged.map (fun i => expectOf i.hash) ≠ some expect then d.complete h stINVALID
      else if d.swapRefused x np then d.complete h stREFUSED_STATE
      else d.scheduleSwap x { handle := h, j := 0, hitless := d.hitless, period := np, ward := d.key.stagedWard }

def execKeySwap (l : LeafId) (h : Handle) (s : State) : Host.Outcome State Fault Refusal :=
  onLeaf l s (Leaf.keySwap ((s.leaf l).delays (s.leaf l.other) s.concs) h)

/-- DISCARD (R223): a LOAD that runs ends with it (log entry 18, DEDUCED). -/
def Leaf.keyDiscard (h : Handle) (d : Leaf) : Leaf :=
  d.runCmd h 3 3 fun _ d =>
    if d.key.pend.isSome then d.complete h stREFUSED_STATE
    else
      let d := match d.key.load with | some j => d.complete j.handle stINCOMPLETE | none => d
      let d := match d.key.waitPartner with | some j => d.complete j.handle stINCOMPLETE | none => d
      let d := d.tiles.foldl (fun d t => d.setTile t.1 { d.tile t.1 with coefShadow := (d.tile t.1).coef }) d.shadowEmpty
      (d.mirror (.keyStaged none false)).complete h stDONE

def execKeyDiscard (l : LeafId) (h : Handle) (s : State) : Host.Outcome State Fault Refusal := onLeaf l s (Leaf.keyDiscard h)

/-- FALLBACK (R234, R242, Table 6.14). -/
def Leaf.keyFallback (h : Handle) (d : Leaf) : Leaf :=
  d.runCmd h 3 4 fun c d =>
    let expect := c.par 0 64
    let ward := !d.keyPtr
    match d.activationStop with
    | some st => d.refuseAct h st
    | none =>
      if d.key.active.map (fun i => expectOf i.hash) = some expect then d.complete h stDONE
      else if (d.keyWard ward).hash.map expectOf ≠ some expect || !d.wardOk ward || leAt (d.keyWard ward).body 0x0C 4 < d.rd KEY_FLOOR_FLOOR then
        d.complete h stINVALID
      else if d.rd KEY_STATUS_SHD_STATE = 1 || d.key.pend.isSome then d.complete h stREFUSED_STATE
      else d.loadStart { handle := h, ward := ward, fallback := true }

def execKeyFallback (l : LeafId) (h : Handle) (s : State) : Host.Outcome State Fault Refusal := onLeaf l s (Leaf.keyFallback h)

/-- RAISE_FLOOR (R241, Table 6.14). -/
def Leaf.keyRaiseFloor (h : Handle) (d : Leaf) : Leaf :=
  d.runCmd h 3 5 fun c d =>
    let v := c.par 0 32
    if d.is UPD_HASP_SET then d.complete h stREFUSED_HASP
    else if d.rd KEY_ACT_SEC_VALUE < v then d.complete h stINVALID
    else if v ≤ d.rd KEY_FLOOR_FLOOR then d.complete h stDONE
    else if d.rd KEY_FLOOR_LEFT_LEFT = 0 then d.complete h stREFUSED_STATE
    else ((d.wr KEY_FLOOR_FLOOR v).wr KEY_FLOOR_LEFT_LEFT (d.rd KEY_FLOOR_LEFT_LEFT - 1)).complete h stDONE

def execKeyRaiseFloor (l : LeafId) (h : Handle) (s : State) : Host.Outcome State Fault Refusal := onLeaf l s (Leaf.keyRaiseFloor h)

/-! ## The swap itself (R226 to R231) -/

/-- Applied and shadow copies of a register field. -/
def Leaf.both (d : Leaf) (f : Fld) (v : Nat) (i : Nat) : Leaf := (d.wr f v i).wrShadow f v i

/-- The tiles take the plane and the coefficient pages of an image. -/
def Leaf.loadPlane (im : Image) (d : Leaf) : Leaf :=
  (List.range 256).foldl (fun d t =>
    let x := d.tile t
    let d := d.setTile t { x with steps := [], used := false, coef := [], coefShadow := [] }
    let d := ((d.wr TILE_LIST_STEPS 0 t).wr TILE_LIST_WCET 0 t).wr TILE_STATUS_USED 0 t
    match im.tiles.find? (·.tile = t) with
    | none => d
    | some b =>
      let steps := (indexed b.steps).foldl (fun m w => SMap.put 0 m w.2 w.1) []
      let page := coefPage im t
      let d := d.setTile t { d.tile t with steps := steps, used := true, coef := page, coefShadow := page }
      ((d.wr TILE_LIST_STEPS b.steps.length t).wr TILE_LIST_WCET b.wcet t).wr TILE_STATUS_USED 1 t) d

/-- The tumbler policy of an arm, from its register images (Table 6.8) (log entry 88, DEDUCED). -/
def Leaf.loadPolicy (p : TumPol) (a : Nat) (d : Leaf) : Leaf :=
  let d := tumFields.foldl (fun d f => if f = TUM_SPARE_WARN then d.both f p.warn a
    else d.both f (bits (p.regs.getD ((f.off - 0x30004) / 4) 0) (f.lo + f.w - 1) f.lo) a) d
  d.wr TUM_STANDSTILL_MODE p.ssMode a

/-- The model-watch registers of a unit (Table 6.9). -/
def Leaf.loadMw (m : MwRec) (u : Nat) (d : Leaf) : Leaf :=
  ((((d.both FAB_MWu_ALARM_BAND m.alarm u).both FAB_MWu_TRIP_BAND m.trip u).both FAB_MWu_CTL_ALARM_P m.alarmP u).both FAB_MWu_CTL_TRIP_P m.tripP u).both
    FAB_MWu_CTL_LEAK m.leak u

/-- The fabric is cleared, and the words that the state map names take their initial values (R210, R219). -/
def Leaf.initFabric (im : Image) (d : Leaf) : Leaf :=
  let d := d.tiles.foldl (fun d t =>
    d.setTile t.1 { t.2 with sp := [], s := [], acc := 0, in0 := [], in1 := [], mb := [], reqs := [], chan := [], flight := [], spOld := [],
                             run := none, pc := 0, spent := 0, lastDone := none, late := false }) d
  let d := { d with fab := { d.fab with out0 := [], out1 := [], outCyc := [], lines := [], mw := [], scrubbed := [] },
                    hng := { d.hng with fabricOk := false } }
  im.smap.foldl (fun d e =>
    if e.space = 3 then d.setMw e.tile { d.mwOf e.tile with e := sext 32 e.init }
    else
      let x := d.tile e.tile
      let fill (m : SMap Nat) := (List.range e.words).foldl (fun m i => SMap.put 0 m (e.addr + i) e.init) m
      d.setTile e.tile (match e.space with
        | 0 => { x with s := fill x.s }
        | 1 => { x with sp := fill x.sp }
        | _ => { x with acc := sext 32 e.init })) d

/-- The slots of a clearing swap whose entry changed: EMPTY again, UNJOIN on the old port, and no learned capacitance (R229;
11_discovery_and_membership.md Table 11.3). -/
def Leaf.resetSlots (old : Option Image) (im : Image) (d : Leaf) : Leaf :=
  let slots := slotsOf old ++ im.slots
  (slots.filter fun s => !sameEntry old im s).foldl (fun (d : Leaf) (s : Nat) =>
    let d : Leaf := if d.active then (if d.slotState s = slEMPTY then d else d.emptySlot old s) else d
    (d.wr CT_C_EST 0 s).wr CT_LEARN_N 0 s) d

/-- Every slot takes its TYPE from the image (Table 4.1). -/
def Leaf.loadTypes (old : Option Image) (im : Image) (d : Leaf) : Leaf :=
  let d := (slotsOf old).foldl (fun d s => d.wr CT_TYPE 0 s) d
  im.ports.foldl (fun d e => match im.slotAt e.conc e.port with | some s => d.wr CT_TYPE e.type s | none => d) d

/-- Everything an image loads, beside what a swap clears (R212, R227). -/
def Leaf.loadImage (im : Image) (d : Leaf) : Leaf :=
  let d := (d.loadTypes d.key.active im).loadPlane im
  let d := (indexed im.pols).foldl (fun d p => d.loadPolicy p.1 p.2) d
  let d := (indexed im.arms).foldl (fun d r => d.wr TUM_SPARE_N_REQ r.1.nReq r.2) d
  let d := (indexed im.prot.mw).foldl (fun d m => d.loadMw m.1 m.2) d
  let r := im.prot.fabRoute
  let d := (((d.wr FAB_ROUTE_SAT (bits r 1 0)).wr FAB_ROUTE_ACC_OVF (bits r 3 2)).wr FAB_ROUTE_DIV_ZERO (bits r 5 4)).wr FAB_ROUTE_SQRT_NEG (bits r 7 6)
  let d := (d.wr FLT_STATUS_MODE im.prot.fltVcp).fltRefresh
  let d := { d with tum := SMap.mapv {} (fun t : Tum => { t with prevHealthy := none }) d.tum }
  ((((d.wr KEY_ACT_VER_VALUE im.version).wr KEY_ACT_SEC_VALUE im.secCtr).wr KEY_MAP_TAG_TAG im.mapTag).wr KEY_STATUS_KEYED 1).wr FAB_STATUS_RUN 1

/-- The keying pointer after a swap: TRIAL, or CONFIRMED for a fallback; a start-up swap writes it only where it took the other ward (R238,
R239; 17_updates.md R535, R536). -/
def Leaf.pointAfter (p : SwapPend) (d : Leaf) : Leaf :=
  let trial := !p.fallback && !p.startUp
  if trial || d.keyPtr ≠ p.ward then
    let d := d.writeKptr (ptrCopy p.ward trial p.fellBack (d.keyWard p.ward))
    if (d.sessOf 2).st = 4 then (d.setSess 2 {}).showSess 2 else d
  else d

/-- The active leaf sets the reporting mode of each declared concentrator (14_faults.md; Table 6.9) (log entry 88, DEDUCED). -/
def Leaf.writeModes (im : Image) (d : Leaf) : Leaf :=
  if d.active then (im.arms.flatMap (·.concs)).foldl (fun d n => d.concWrite n 0x700 (b2n (bitOf im.prot.fltConc n)) 1) d else d

/-- The staged image becomes active (R226 to R231). -/
def Leaf.swapIn (p : SwapPend) (im : Image) (d : Leaf) : Leaf :=
  let old : Option Image := d.key.active
  let lost := d.cyc.opened.any (2 ≤ ·.1)
  let d := if p.hitless then d else (d.resetSlots old im)
  let d := (d.loadImage im).writeModes im
  let d := if p.hitless then d else
    let d := d.initFabric im
    { d with key := { d.key with runFrom := p.j + (299 + d.rd CYC_PERIOD_PERIOD) / d.rd CYC_PERIOD_PERIOD } }.wr FAB_STATUS_CLEARING 1
  let d := if lost then d.wr KEY_STATUS_SHADOW_LOST 1 else d
  let d := { d with cyc := { d.cyc with opened := d.cyc.opened.filter (·.1 < 2) } }
  let d := if p.period = 0 then d else d.both CYC_PERIOD_PERIOD p.period 0
  let d := { d with key := { d.key with active := some im, pend := none, keptState := none,
                                        firstSums := if d.conv.st = Conv.unkeyed then some p.j else d.key.firstSums } }
  let d := d.shadowEmpty.wr KEY_STATUS_SWAP_PEND 0
  let d := ((d.wr KEY_SWAP_CYCLE p.j).wr KEY_SWAP_KIND (b2n !p.hitless)).wr KEY_SWAP_VALID 1
  let d := (d.wr KEY_STATUS_ACT_WARD (b2n p.ward)).pointAfter p
  d.concChecks.discShow.showPtrs.complete p.handle stDONE

/-- A pending swap that R224 no longer allows is given up (R232, R233). -/
def Leaf.swapCancel (p : SwapPend) (d : Leaf) : Leaf :=
  ({ d with key := { d.key with pend := none } }.wr KEY_STATUS_SWAP_PEND 0).complete p.handle stREFUSED_STATE

/-- At cycle j the staged image becomes active. -/
def Leaf.planeSwap (d : Leaf) : Leaf :=
  match d.key.pend, d.key.staged with
  | some p, some im =>
    if d.tim.cyc < p.j then d
    else if !p.startUp && !swapAllowed d.conv.st p.hitless then d.swapCancel p
    else d.swapIn p im
  | _, _ => d

def execPlaneSwap (l : LeafId) (s : State) : Host.Outcome State Fault Refusal := onLeaf l s Leaf.planeSwap

/-! ## A joining leaf (R236) -/

/-- The container with its LENGTH bytes as pieces of a store. -/
def storeOfImage (b : List Byte) : Store where
  hdr := List.replicate 0x14 0 ++ leBytes 4 b.length ++ leBytes 4 ((b.length + 4095) / 4096) ++ List.replicate 484 0
  pieces := (List.range ((b.length + 4095) / 4096)).map fun i => (i, sliceOf b (4096 * i) 4096)
  hash := some (Config.sha384 b)

/-- A leaf that is not active receives the active image into the ward its keying pointer does not name, and activates it by a clearing swap
of its own; an image below its floor keeps it out of the pair (R236). -/
def Leaf.imageTransfer (b : List Byte) (d : Leaf) : Leaf :=
  if d.active || !d.running || !d.is HNG_STATUS_PARTNER_UP then d
  else
    let ward := !d.keyPtr
    let st := storeOfImage b
    let d := ({ d with upd := if ward then { d.upd with keyB := st } else { d.upd with keyA := st } }).showWards
    if leAt b 0x0C 4 < d.rd KEY_FLOOR_FLOOR then d.raise 0x2003 .alarm
    else match loadCheck d.loadEnv st.hash b with
      | some e => d.loadFailed e
      | none => (d.stage (imageOf b) ward).scheduleSwap { up := 0, down := 0 } { handle := 0, j := 0, hitless := false, period := 0, ward := ward, startUp := true }

def execImageTransfer (l : LeafId) (image : List Byte) (s : State) : Host.Outcome State Fault Refusal := onLeaf l s (Leaf.imageTransfer image)

/-! ## What the partner has staged (R225, R235) -/

/-- The partner reports what it has staged: a failure or a different hash is a mismatch on both leaves. -/
def Leaf.partnerKey (x : Delays) (hash : Option Nat) (failed : Bool) (d : Leaf) : Leaf :=
  let d := { d with key := { d.key with partnerStaged := hash } }
  let differs := match hash, d.key.staged with | some h, some im => h ≠ im.hash | _, _ => false
  let d := if failed || differs then d.wr KEY_STATUS_PARTNER_MISMATCH 1 else d
  match d.key.waitPartner with
  | some j =>
    if failed then ({ d with key := { d.key with waitPartner := none } }).complete j.handle stINVALID
    else if differs && !j.fallback then ({ d with key := { d.key with waitPartner := none } }).complete j.handle stDONE
    else if d.stagedAll then d.loadGoesOn x j
    else d
  | none => d

end Sys2Proof.Machine
end

