-- ==== Sys2Proof/Machine/Lanes.lean ====
section
/-! DEFINITION. Flenor lanes: bring-up, loss, test facilities, retransmission and clock-domain crossings (10_flenor_links.md R366 to R378,
02_clocks_and_time.md R56, R58). -/

namespace Sys2Proof.Machine
open Reg

/-! ## The lane register set (Tables 10.8 and 10.12) -/

/-- A field of the lane register set at `base`. -/
def lnRd (b : SMap Nat) (base : Nat) (f : Fld) : Nat := bankRd b (f.at base) 0
def lnWr (base : Nat) (f : Fld) (v : Nat) (b : SMap Nat) : SMap Nat := bankWr b (f.at base) v 0
def lnSat (base : Nat) (f : Fld) (b : SMap Nat) : SMap Nat := lnWr base f (satInc f.w (lnRd b base f)) b

def lnState (b : SMap Nat) (base : Nat) : Nat := lnRd b base XX_STATE_STATE

/-- The lane takes a state; DOWN_SEEN is set when it leaves UP. -/
def lnGo (base st : Nat) (b : SMap Nat) : SMap Nat :=
  let b' := lnWr base XX_STATE_STATE st b
  if lnState b base = 7 && st ≠ 7 then lnWr base XX_STATE_DOWN_SEEN 1 b' else b'

/-- The row of Table 10.8 from one state to another. -/
def lnFrom (st : Nat) (base next : Nat) (b : SMap Nat) : SMap Nat := if lnState b base = st then lnGo base next b else b

/-- A timeout (R368): in DETECT it is only counted; from LOCK to TRAIN_DONE the lane returns to DETECT and LAST_FAIL names the state. -/
def lnTimeout (base : Nat) (b : SMap Nat) : SMap Nat :=
  let st := lnState b base
  if st = 1 then lnSat base XX_STATE_TIMEOUTS b
  else if 2 ≤ st && st ≤ 6 then lnGo base 1 (lnWr base XX_STATE_LAST_FAIL st (lnSat base XX_STATE_TIMEOUTS b))
  else b

/-- RETRAIN clears the counters of its lane (R378). -/
def lnClear (base : Nat) (b : SMap Nat) : SMap Nat :=
  [XX_ERR_CORR, XX_ERR_BAD, XX_DROP_RETX, XX_DROP_CTRL_BAD, XX_DROP_GIVEUP, XX_STATE_TIMEOUTS, XX_CDC_OVF, XX_CDC_TIMEOUT, XX_CDC_RESYNC,
   XX_CDC_DISCARD].foldl (fun b f => lnWr base f 0 b) b

/-- A PRBS selection that runs a pattern, and a LOOP or an injection MODE that acts (Table 10.12). -/
def prbsOn (v : Nat) : Bool := 1 ≤ v && v ≤ 4
def loopOn (v : Nat) : Bool := v = 1 || v = 2
def injOn (v : Nat) : Bool := 1 ≤ v && v ≤ 3

/-- A test facility of the lane is enabled. -/
def lnTesting (base : Nat) (b : SMap Nat) : Bool :=
  prbsOn (lnRd b base XX_CTL_PRBS_CHK) || prbsOn (lnRd b base XX_CTL_PRBS_GEN) || loopOn (lnRd b base XX_CTL_LOOP) || injOn (lnRd b base XX_INJ_MODE)

/-- The lane enters or leaves TEST with its facilities (Table 10.8). -/
def lnTest (base : Nat) (b : SMap Nat) : SMap Nat :=
  let st := lnState b base
  if lnTesting base b then (if 1 ≤ st && st ≤ 7 then lnGo base 8 b else b) else if st = 8 then lnGo base 1 b else b

/-- A write of xx_CTL. `moving`: R371 refuses an enabling write; `refuse`: RETRAIN of an uplink or mirror lane is refused with it; `cell`:
PRECODE is read-only 0 on a cell lane. -/
def lnCtl (moving refuse cell : Bool) (base v : Nat) (b : SMap Nat) : SMap Nat :=
  let chk := bits v 15 12
  let gen := bits v 11 8
  let loop := bits v 7 6
  let enables := (prbsOn chk && lnRd b base XX_CTL_PRBS_CHK ≠ chk) || (prbsOn gen && lnRd b base XX_CTL_PRBS_GEN ≠ gen) ||
    (loopOn loop && lnRd b base XX_CTL_LOOP ≠ loop)
  if moving && (enables || (refuse && bitOf v 3)) then lnWr base XX_STATE_REFUSED 1 b
  else
    let b := lnWr base XX_CTL_PRBS_CHK chk (lnWr base XX_CTL_PRBS_GEN gen (lnWr base XX_CTL_LOOP loop b))
    let b := lnWr base XX_PRBS_ERRORS 0 (if cell then b else lnWr base XX_CTL_PRECODE (bits v 5 5) b)
    let b := lnWr base XX_CTL_EN (bits v 0 0) b
    if !bitOf v 0 then lnGo base 0 b
    else
      let b := lnFrom 0 base 1 b
      let b := if bitOf v 3 && lnState b base = 7 then lnGo base 1 (lnClear base b) else b
      lnTest base b

/-- A write of xx_INJ (Table 10.12). -/
def lnInj (moving : Bool) (base v : Nat) (b : SMap Nat) : SMap Nat :=
  if moving && injOn (bits v 31 28) then lnWr base XX_STATE_REFUSED 1 b
  else
    let b := lnWr base XX_INJ_MODE (bits v 31 28) b
    let b := lnWr base XX_INJ_BURST (XX_INJ_BURST.fix.apply 0 (bits v 23 16)) b
    lnTest base (lnWr base XX_INJ_RATE (XX_INJ_RATE.fix.apply 0 (bits v 5 0)) b)

/-! ## The retransmission queue (R366, R367) -/

/-- As many waiting frames as the 16 allow go out: the sender, and the frames sent. -/
def LaneQ.fill (q : LaneQ) : LaneQ × List Out :=
  let n := 16 - q.unacked.length
  ({ q with unacked := q.unacked ++ q.waiting.take n, waiting := q.waiting.drop n }, q.waiting.take n)

/-- After a lane returns to UP the unacknowledged frames go first, numbered from TSEQ 0 (R367). -/
def LaneQ.restart (q : LaneQ) : LaneQ × List Out :=
  let r := { q with base := 0, tries := 0, ups := q.ups + 1 }.fill
  (r.1, q.unacked ++ r.2)

/-- A cumulative acknowledgement up to `seq`. -/
def LaneQ.ack (q : LaneQ) (seq : Nat) : LaneQ × List Out :=
  let n := (seq + 256 - q.base) % 256 + 1
  if q.unacked.length < n then (q, []) else { q with base := (q.base + n) % 256, unacked := q.unacked.drop n, tries := 0 }.fill

/-- What a LINK_ACK or a timeout does to a sender: the sender, what is sent, retransmissions, and a give-up. -/
structure Resend where
  q : LaneQ
  sent : List Out := []
  count : Nat := 0
  giveUp : Bool := false
  deriving DecidableEq, Repr

/-- A retransmission from the oldest unacknowledged frame; after 8 of one frame the sender gives up (log entry 59, DEDUCED). -/
def LaneQ.resend (q : LaneQ) : Resend :=
  if q.unacked.isEmpty then { q := q }
  else if 8 ≤ q.tries then { q := { q with tries := 0 }, giveUp := true }
  else { q := { q with tries := q.tries + 1 }, sent := q.unacked, count := q.unacked.length }

/-- A LINK_ACK: the acknowledged frames leave; a NAK asks for the others again (log entry 59, DEDUCED). -/
def LaneQ.onAck (q : LaneQ) (seq : Nat) (nak : Bool) : Resend :=
  let a := q.ack seq
  if nak then a.1.resend else { q := a.1, sent := a.2 }

/-! ## One command on each kind of end -/

/-- The outcome of a command on a lane end. -/
def onLane (e : LaneEnd) (s : State) (f : Leaf → Leaf) (g : Conc → Concentrator → Concentrator) (h : CellId → Cell → Cell) :
    Host.Outcome State Fault Refusal :=
  match e with
  | .uplinkLeaf l _ => onLeaf l s f
  | .mirror l _ => onLeaf l s f
  | .uplinkConc n _ => onConc n s (g n)
  | .port n _ => onConc n s (g n)
  | .cell c => onCell c s (h c)

/-- A concentrator takes part in the converter: its firmware runs (19_power_reset_startup.md R584). -/
def Concentrator.moving (d : Concentrator) : Bool := d.sw.conv = 2 || d.sw.conv = 4
def Cell.moving (d : Cell) : Bool := d.conv = 2 || d.conv = 4

def Leaf.sender (d : Leaf) (e : LaneEnd) : LaneQ := SMap.get {} d.lanes (laneKey e)
def Leaf.setSender (d : Leaf) (e : LaneEnd) (q : LaneQ) : Leaf := { d with lanes := SMap.put {} d.lanes (laneKey e) q }
def Concentrator.sender (d : Concentrator) (e : LaneEnd) : LaneQ := SMap.get {} d.lanes (laneKey e)
def Concentrator.setSender (d : Concentrator) (e : LaneEnd) (q : LaneQ) : Concentrator :=
  { d with lanes := SMap.put {} d.lanes (laneKey e) q }
def Cell.sender (d : Cell) : LaneQ := SMap.get {} d.lanes 0
def Cell.setSender (d : Cell) (q : LaneQ) : Cell := { d with lanes := SMap.put {} d.lanes 0 q }

/-! ## The root of a concentrator (02_clocks_and_time.md R56) -/

/-- The uplink the root should follow: 0 none, else the uplink number plus 1. -/
def Concentrator.rootWant (d : Concentrator) (n : Conc) : Nat :=
  let up (u : Nat) : Bool := d.laneUp (.uplinkConc n (if u = 0 then .leaf0 else .leaf1))
  let g := d.rd AGRT_STATUS_GRANT
  let cur := d.rd ATIM_STATUS_REF
  let first := if g ≤ 1 then g else if cur = 2 then 1 else 0
  if up first then first + 1 else if up (1 - first) then 2 - first else 0

/-- The root follows (R56). -/
def Concentrator.followRoot (n : Conc) (d : Concentrator) : Concentrator :=
  let cur := d.rd ATIM_STATUS_REF
  let want := d.rootWant n
  if want = cur then d
  else
    let d := (d.wr ATIM_STATUS_REF want).wr ATIM_STATUS_LOCK (b2n (want ≠ 0))
    if want = 0 then (d.wr ATIM_STATUS_HOLD_SEEN 1).raise n 0x5502 .alarm
    else if cur ≠ 0 then (d.wr ATIM_STATUS_REF_SWITCHED 1).raise n 0x5501 .note
    else d

/-! ## What a lane that leaves UP takes with it (R369, R370) -/

/-- The mirror link is no longer UP. A STANDBY keeps MIR_ALIGN for ALIGN_HOLD_MS (13_the_hinge.md R430). -/
def Leaf.mirrorDown (d : Leaf) : Leaf :=
  let d := ((d.wr MIR_STATUS_UP 0).wr HNG_STATUS_PARTNER_UP 0).wr HNG_STATUS_PARTNER_STANDING 0
  if d.active || d.hng.role = .standby then d else d.wr TIM_CLK_STATUS_MIR_ALIGN 0

/-- `fault`: the lane was lost, and not taken out of UP by a write (log entry 55, DEDUCED). -/
def Leaf.laneDown (e : LaneEnd) (fault : Bool) (d : Leaf) : Leaf :=
  match e with
  | .uplinkLeaf _ n =>
    let d := d.wr64 LNKn_PEER_SN_LO_SN LNKn_PEER_SN_HI_SN 0 n.val
    if fault then d.raise 0x2201 .alarm n.val else d
  | .mirror _ i =>
    let d := if d.is HNG_STATUS_PARTNER_UP then d.mirrorDown else d
    if fault then d.raise 0x2301 .alarm i.val else d
  | _ => d

def Concentrator.laneDown (n : Conc) (e : LaneEnd) (fault : Bool) (d : Concentrator) : Concentrator :=
  match e with
  | .uplinkConc _ u => (if fault then d.raise n 0x5401 .alarm u.num else d).followRoot n
  | .port _ p => if fault then d.raise n 0x5801 .note p.val else d
  | _ => d

def Cell.laneDown (c : CellId) (fault : Bool) (d : Cell) : Cell :=
  let d := { d with sw := { d.sw with laneMarked := false } }
  if fault then d.raise c 0x8701 .note else d

/-- A change of the lane registers with what it takes with it when the lane leaves UP. -/
def Leaf.laneStep (e : LaneEnd) (fault : Bool) (f : SMap Nat → SMap Nat) (d : Leaf) : Leaf :=
  let d' := { d with bank := f d.bank }
  if d.laneUp e && !d'.laneUp e then d'.laneDown e fault else d'
def Concentrator.laneStep (e : LaneEnd) (fault : Bool) (f : SMap Nat → SMap Nat) (n : Conc) (d : Concentrator) : Concentrator :=
  let d' := { d with bank := f d.bank }
  if d.laneUp e && !d'.laneUp e then d'.laneDown n e fault else d'
def Cell.laneStep (fault : Bool) (f : SMap Nat → SMap Nat) (c : CellId) (d : Cell) : Cell :=
  let d' := { d with bank := f d.bank }
  if d.laneUp && !d'.laneUp then d'.laneDown c fault else d'

/-- A lane event that changes only the lane registers and what depends on UP. A cell's lane runs while the cell runs. -/
def laneEvent (e : LaneEnd) (fault : Bool) (f : SMap Nat → SMap Nat) (s : State) : Host.Outcome State Fault Refusal :=
  onLane e s (Leaf.laneStep e fault f) (Concentrator.laneStep e fault f) (fun c d => d.runs (Cell.laneStep fault f c))

/-! ## Bring-up (Table 10.8) -/

/-- EN is set: DISABLED to DETECT, and the training starts anew. -/
def execLaneEnable (e : LaneEnd) (s : State) : Host.Outcome State Fault Refusal :=
  laneEvent e false (fun b => lnFrom 0 (laneBase e) 1 (lnWr (laneBase e) XX_CTL_EN 1 b)) s

/-- EN is cleared: DISABLED from every state. -/
def execLaneDisable (e : LaneEnd) (s : State) : Host.Outcome State Fault Refusal :=
  laneEvent e false (fun b => lnGo (laneBase e) 0 (lnWr (laneBase e) XX_CTL_EN 0 b)) s

def execSignalDetected (e : LaneEnd) (s : State) : Host.Outcome State Fault Refusal := laneEvent e false (lnFrom 1 (laneBase e) 2) s
def execPhaseLocked (e : LaneEnd) (s : State) : Host.Outcome State Fault Refusal := laneEvent e false (lnFrom 2 (laneBase e) 3) s
def execCommaAligned (e : LaneEnd) (s : State) : Host.Outcome State Fault Refusal := laneEvent e false (lnFrom 3 (laneBase e) 4) s

/-- The comma is upright or inverted: POL_INV, and LANE_ORDER on the mirror link. -/
def polarity (e : LaneEnd) (inverted : Bool) (b : SMap Nat) : SMap Nat :=
  let base := laneBase e
  if lnState b base ≠ 4 then b
  else
    let next := match e with | .mirror _ _ => 5 | _ => 6
    lnGo base next (lnWr base XX_STATE_POL_INV (b2n inverted) b)

/-- The key of a lane's delay measurements in its part. -/
def measKey : LaneEnd → Nat
  | .mirror _ i => 48 + i.val
  | e => laneKey e

/-- The measurements of a training start anew. -/
def Leaf.clearMeas (e : LaneEnd) (d : Leaf) : Leaf := { d with tim := { d.tim with meas := SMap.erase d.tim.meas (measKey e) } }
def Concentrator.clearMeas (e : LaneEnd) (d : Concentrator) : Concentrator := { d with meas := SMap.erase d.meas (measKey e) }

def execPolarityFound (e : LaneEnd) (inverted : Bool) (s : State) : Host.Outcome State Fault Refusal :=
  onLane e s (fun d => (if lnState d.bank (laneBase e) = 4 then d.clearMeas e else d).laneStep e false (polarity e inverted))
    (fun n d => (if lnState d.bank (laneBase e) = 4 then d.clearMeas e else d).laneStep e false (polarity e inverted) n)
    (fun c d => d.runs (Cell.laneStep false (polarity e inverted) c))

/-- The LANE fields of all four mirror lanes are read (R370): the two orders go on, a skew above 256 symbols keeps LANE_ORDER, any other
order is a timeout. -/
def Leaf.laneOrder (order : List (Fin 4)) (skew : Bool) (d : Leaf) : Leaf :=
  let lane (i : Nat) := 0x230100 + 64 * i
  if !(List.range 4).all (fun i => lnState d.bank (lane i) = 5) then d
  else
    let ns := order.map (·.val)
    let each (f : Nat → SMap Nat → SMap Nat) : Leaf := { d with bank := (List.range 4).foldl (fun b i => f (lane i) b) d.bank }
    if ns = [0, 1, 2, 3] || ns = [3, 2, 1, 0] then
      if skew then d else each fun base b => lnGo base 6 (lnWr base XX_STATE_LANE_REV (b2n (ns = [3, 2, 1, 0])) b)
    else each lnTimeout

def execLaneOrderRead (l : LeafId) (order : List (Fin 4)) (skew : Bool) (s : State) : Host.Outcome State Fault Refusal :=
  onLeaf l s (Leaf.laneOrder order skew)

/-- A lane of step 5 of start-up has come UP or timed out (19_power_reset_startup.md Table 19.4) (log entry 55, DEDUCED). -/
def Leaf.settle (e : LaneEnd) (d : Leaf) : Leaf :=
  let k := match e with | .mirror _ i => 48 + i.val | _ => laneKey e
  if d.pwr.step < 8 && !d.pwr.settled.contains k then { d with pwr := { d.pwr with settled := k :: d.pwr.settled } } else d

/-- Every enabled lane has settled: step 5 ends (19_power_reset_startup.md Table 19.4) (log entry 55, DEDUCED). -/
def Leaf.stepLanes (d : Leaf) : Leaf :=
  let up := (List.range 48).all fun n => lnRd d.bank (0x220000 + 1024 * n) XX_CTL_EN = 0 || d.pwr.settled.contains n
  let mir := (List.range 4).all fun i => lnRd d.bank (0x230100 + 64 * i) XX_CTL_EN = 0 || d.pwr.settled.contains (48 + i)
  if d.pwr.step = 5 && up && mir then { d with pwr := { d.pwr with step := 6 } }.wr PWR_STATUS_STAGE 4 else d

def execLaneStateTimeout (e : LaneEnd) (s : State) : Host.Outcome State Fault Refusal :=
  onLane e s (fun d => ((d.laneStep e false (lnTimeout (laneBase e))).settle e).stepLanes)
    (Concentrator.laneStep e false (lnTimeout (laneBase e))) (fun c d => d.runs (Cell.laneStep false (lnTimeout (laneBase e)) c))

/-! ## UP -/

/-- ID_CAP of a variant (00_scope.md Tables 0.2 and 0.3). -/
def idCapOf (variant : Nat) : Nat :=
  if variant = 1 then 0x0100B203 else if variant = 2 then 0x0200A103 else 0x03009000

/-- What a leaf says of itself over the mirror link (13_the_hinge.md R424, 11_discovery_and_membership.md). -/
def Leaf.identity (d : Leaf) : Identity where
  leaf := d.ident.leaf
  idCap := idCapOf d.ident.variant
  role := d.hng.role.code
  conv := d.conv.st.code
  cyc := d.tim.cyc
  imageTag := d.imageTag
  floor := d.rd KEY_FLOOR_FLOOR
  fwVersion := d.rd ID_FW_VER_VERSION
  trial := d.upd.boot.newest.trial

/-- The sixteen round trips of Table 10.8 have been measured (log entry 59, DEDUCED). -/
def LinkMeas.trained (m : LinkMeas) : Bool := 16 ≤ m.trips

/-- A list in rising order with a number put in its place. -/
def insertNat (x : Nat) : List Nat → List Nat
  | [] => [x]
  | y :: r => if x ≤ y then x :: y :: r else y :: insertNat x r

/-- The median of measured delays: the mean of the middle two of an even number. -/
def medianOf (l : List Nat) : Nat :=
  let s := l.foldr insertNat []
  let n := s.length
  (s.getD ((n - 1) / 2) 0 + s.getD (n / 2) 0) / 2

/-- The lane enters UP: the state, and at the upstream end the initial D. -/
def lnUp (base : Nat) (d : Option Nat) (b : SMap Nat) : SMap Nat :=
  let b := lnWr base XX_STATE_STATE 7 b
  match d with | some v => lnWr base XX_DELAY_D v b | none => b

/-- The upstream end of a lane: the leaf on an uplink, the concentrator on a port, the active leaf on the mirror link. -/
def Leaf.upstream (d : Leaf) (e : LaneEnd) : Bool :=
  match e with
  | .uplinkLeaf _ _ => true
  | .mirror _ _ => d.active
  | _ => false

/-- The sender starts again (R367). -/
def Leaf.laneRestart (e : LaneEnd) (d : Leaf) : Leaf :=
  let r := (d.sender e).restart
  r.2.foldl Leaf.log (d.setSender e r.1)
def Concentrator.laneRestart (e : LaneEnd) (d : Concentrator) : Concentrator :=
  let r := (d.sender e).restart
  r.2.foldl Concentrator.log (d.setSender e r.1)
def Cell.laneRestart (d : Cell) : Cell :=
  let r := d.sender.restart
  r.2.foldl Cell.log (d.setSender r.1)

/-- An uplink is UP: the concentrator behind it is found and checked (R380; 01_architecture.md R25). -/
def Leaf.uplinkFound (n sn cap : Nat) (d : Leaf) : Leaf :=
  let d := (d.wr64 LNKn_PEER_SN_LO_SN LNKn_PEER_SN_HI_SN sn n).setMapBit DISC_CONC_FOUND_LO_MAP DISC_CONC_FOUND_HI_MAP n true
  let d := { d with disc := { d.disc with caps := SMap.put 0 d.disc.caps n cap } }
  (d.concCheck n).sendSerials.wiringCheck

/-- The mirror link is UP once its four lanes are (R370): the leaves exchange their identities. -/
def Leaf.mirrorUp (e : LaneEnd) (d : Leaf) : Leaf :=
  if (List.range 4).all fun i => lnState d.bank (0x230100 + 64 * i) = 7 then
    let d := ((d.wr MIR_STATUS_UP 1).wr HNG_STATUS_PARTNER_UP 1).laneRestart e
    (d.mirror (.identity d.identity)).sendSerials
  else d

/-- A leaf's lane enters UP. -/
def Leaf.linkUp (e : LaneEnd) (sn cap : Nat) (d : Leaf) : Leaf :=
  let m := SMap.get {} d.tim.meas (measKey e)
  if lnState d.bank (laneBase e) ≠ 6 || !m.trained then d
  else
    let d := { d with bank := lnUp (laneBase e) (if d.upstream e then some (medianOf m.last) else none) d.bank }
    let d := match e with
      | .uplinkLeaf _ n => (d.laneRestart e).uplinkFound n.val sn cap
      | _ => d.mirrorUp e
    (d.settle e).stepLanes

/-- A concentrator's lane enters UP. -/
def Concentrator.linkUp (e : LaneEnd) (n : Conc) (d : Concentrator) : Concentrator :=
  let m := SMap.get {} d.meas (measKey e)
  if lnState d.bank (laneBase e) ≠ 6 || !m.trained then d
  else
    let up := match e with | .port _ _ => some (medianOf m.last) | _ => none
    let d := ({ d with bank := lnUp (laneBase e) up d.bank }).laneRestart e
    match e with | .uplinkConc _ _ => { d with sw := { d.sw with linked := true } }.followRoot n | _ => d

/-- A cell's lane enters UP (log entry 59, DEDUCED). -/
def Cell.linkUp (d : Cell) : Cell :=
  if lnState d.bank 0x400 ≠ 6 then d
  else { d with bank := lnUp 0x400 none d.bank, sw := { d.sw with laneMarked := false } }.laneRestart

def execLinkUp (e : LaneEnd) (sn : Nat) (cap : Word) (s : State) : Host.Outcome State Fault Refusal :=
  onLane e s (Leaf.linkUp e sn cap.toNat) (Concentrator.linkUp e) (fun _ d => d.runs Cell.linkUp)

/-- A lane is lost (Table 10.8): loss of signal or lock, missing markers, or a give-up. -/
def execLinkDown (e : LaneEnd) (_cause : LaneDown) (s : State) : Host.Outcome State Fault Refusal :=
  laneEvent e true (lnFrom 7 (laneBase e) 1) s

/-! ## RETRAIN and the test facilities (R371, R372) -/

/-- A write of a lane's xx_CTL. RETRAIN of a cell port is never refused. -/
def laneCtl (e : LaneEnd) (v : Nat) (s : State) : Host.Outcome State Fault Refusal :=
  onLane e s (fun d => if d.writable then d.laneStep e false (lnCtl d.moving true false (laneBase e) v) else d)
    (fun n d => if d.is AFLT_STATUS_DEADBOLT then d else d.laneStep e false (lnCtl d.moving (!cellLane e) (cellLane e) (laneBase e) v) n)
    (fun c d => d.takes (Cell.laneStep false (lnCtl d.moving false true 0x400 v) c))

/-- A write of xx_CTL that sets RETRAIN. -/
def execRetrain (e : LaneEnd) (val : Word) (s : State) : Host.Outcome State Fault Refusal := laneCtl e (setBit val.toNat 3 true) s

/-- A write of xx_CTL that enables a test facility, and one that disables them. -/
def execTestFacilityEnable (e : LaneEnd) (val : Word) (s : State) : Host.Outcome State Fault Refusal := laneCtl e val.toNat s
def execTestFacilityDisable (e : LaneEnd) (val : Word) (s : State) : Host.Outcome State Fault Refusal :=
  laneCtl e (val.toNat - bits val.toNat 15 6 * 64) s

/-! ## Acknowledgements and retransmission (R366) -/

/-- What a sender's answer does to the lane registers: retransmissions are counted, and a give-up takes the lane out of UP. -/
def lnResend (base : Nat) (r : Resend) (b : SMap Nat) : SMap Nat :=
  let b := lnWr base XX_DROP_RETX (min 65535 (lnRd b base XX_DROP_RETX + r.count)) b
  if r.giveUp then lnFrom 7 base 1 (lnSat base XX_DROP_GIVEUP b) else b

def Leaf.applyResend (e : LaneEnd) (r : Resend) (d : Leaf) : Leaf :=
  (r.sent.foldl Leaf.log (d.setSender e r.q)).laneStep e true (lnResend (laneBase e) r)
def Concentrator.applyResend (e : LaneEnd) (r : Resend) (n : Conc) (d : Concentrator) : Concentrator :=
  (r.sent.foldl Concentrator.log (d.setSender e r.q)).laneStep e true (lnResend (laneBase e) r) n
def Cell.applyResend (r : Resend) (c : CellId) (d : Cell) : Cell :=
  (r.sent.foldl Cell.log (d.setSender r.q)).laneStep true (lnResend 0x400 r) c

def execLinkAck (e : LaneEnd) (seq : Nat) (nak : Bool) (s : State) : Host.Outcome State Fault Refusal :=
  onLane e s (fun d => if d.laneUp e then d.applyResend e ((d.sender e).onAck seq nak) else d)
    (fun n d => if d.laneUp e then d.applyResend e ((d.sender e).onAck seq nak) n else d)
    (fun c d => d.runs fun d => if d.laneUp then d.applyResend (d.sender.onAck seq nak) c else d)

def execRetransmitTimeout (e : LaneEnd) (s : State) : Host.Outcome State Fault Refusal :=
  onLane e s (fun d => if d.laneUp e then d.applyResend e (d.sender e).resend else d)
    (fun n d => if d.laneUp e then d.applyResend e (d.sender e).resend n else d)
    (fun c d => d.runs fun d => if d.laneUp then d.applyResend d.sender.resend c else d)

/-! ## Clock-domain crossings (R376, R377) -/

/-- A counter of the lane registers with entries added, saturating. -/
def lnAdd (base : Nat) (f : Fld) (n : Nat) (b : SMap Nat) : SMap Nat := lnWr base f (min (2 ^ f.w - 1) (lnRd b base f + n)) b

/-- The entries that stood in a crossing of 16, a free value (log entry 4, DESIGN CHOICE). -/
def flushed (free : Nat) : Nat := free % 17

/-- The far clock made no progress (R376). The spec gives no code for the crossings of a cell lane (log entry 29, DEDUCED). -/
def Leaf.cdcTimeout (e : LaneEnd) (d : Leaf) : Leaf :=
  let n := flushed d.free
  let d := { d.useFree with bank := lnAdd (laneBase e) XX_CDC_DISCARD n (lnSat (laneBase e) XX_CDC_TIMEOUT d.bank) }
  match e with
  | .uplinkLeaf _ n => d.raise 0x2202 .alarm n.val
  | .mirror _ i => d.raise 0x2302 .alarm i.val
  | _ => d
/-- Log entry 29, DEDUCED. -/
def Concentrator.cdcTimeout (e : LaneEnd) (n : Conc) (d : Concentrator) : Concentrator :=
  let k := flushed d.free
  let d := { d.useFree with bank := lnAdd (laneBase e) XX_CDC_DISCARD k (lnSat (laneBase e) XX_CDC_TIMEOUT d.bank) }
  match e with
  | .uplinkConc _ u => d.raise n 0x5402 .alarm u.num
  | _ => d
/-- Log entry 29, DEDUCED. -/
def Cell.cdcTimeout (d : Cell) : Cell :=
  { d.useFree with bank := lnAdd 0x400 XX_CDC_DISCARD (flushed d.free) (lnSat 0x400 XX_CDC_TIMEOUT d.bank) }

def execCdcTimeout (e : LaneEnd) (s : State) : Host.Outcome State Fault Refusal :=
  onLane e s (Leaf.cdcTimeout e) (Concentrator.cdcTimeout e) (fun _ d => d.runs Cell.cdcTimeout)

/-- The two sides have reset their pointers (R377). -/
def lnResync (base free : Nat) (b : SMap Nat) : SMap Nat := lnAdd base XX_CDC_DISCARD (flushed free) (lnSat base XX_CDC_RESYNC b)

def execCdcResync (e : LaneEnd) (s : State) : Host.Outcome State Fault Refusal :=
  onLane e s (fun d => { d.useFree with bank := lnResync (laneBase e) d.free d.bank })
    (fun _ d => { d.useFree with bank := lnResync (laneBase e) d.free d.bank })
    (fun _ d => d.runs fun d => { d.useFree with bank := lnResync 0x400 d.free d.bank })

end Sys2Proof.Machine
end

