-- ==== Sys2Proof/Machine/Recorder.lean ====
section
/-! DEFINITION. The disturbance recorder and the sensor decimators (15_disturbance_recorder.md R469 to R493). -/

namespace Sys2Proof.Machine
open Reg

/-! ## Decimators of a concentrator (R469 to R472) -/

/-- A frame on both uplinks of a concentrator. -/
def Concentrator.sendUp (d : Concentrator) (n : Conc) (type : Nat) (payload : List Nat) : Concentrator :=
  (d.emit (.frame (.uplinkConc n .leaf0) type payload)).emit (.frame (.uplinkConc n .leaf1) type payload)

/-- Two samples per word, the earlier in the upper half; an odd last half is 0. -/
def pairWords : List Nat → List Nat
  | [] => []
  | [x] => [x * 65536]
  | x :: y :: r => (x * 65536 + y) :: pairWords r

/-- The DECIM frame of the samples held goes out (R471, Table 15.1). -/
def Concentrator.sendDecim (c : Concentrator) (n : Conc) (d : Nat) : Concentrator :=
  let x := SMap.get {} c.dec d
  if x.samples = [] then c
  else
    let w1 := d * 2 ^ 29 + c.rd ADSD_CTLd_RATE d * 2 ^ 26 + x.samples.length * 65536 + x.cycle
    { c.sendUp n 0xB (w1 :: (x.tick * 65536 + b2n x.ovr) :: pairWords x.samples) with dec := SMap.put {} c.dec d {} }

/-- A decimator delivers a sample: a frame holds the samples of one cycle, at most 60 (R471); an overload is flagged and raised (R472). -/
def Concentrator.decimSample (n : Conc) (d : Nat) (v : Nat) (ovr : Bool) (cycle tick : Nat) (c : Concentrator) : Concentrator :=
  if c.ident.variant ≠ 1 || !c.is ADSD_CTLd_EN d then c
  else
    let c := if (SMap.get {} c.dec d).cycle = cycle then c else c.sendDecim n d
    let x := SMap.get {} c.dec d
    let x := if x.samples = [] then { x with cycle := cycle, tick := tick } else x
    let c := { c with dec := SMap.put {} c.dec d { x with samples := x.samples ++ [v], ovr := x.ovr || ovr } }
    let c := if 60 ≤ x.samples.length + 1 then c.sendDecim n d else c
    if ovr then (c.wr ADSD_STATUS_OVR (setBit (c.rd ADSD_STATUS_OVR) d true)).raise n 0x5A01 .note d else c

def execDecimatorSample (n : Conc) (d : Fin 8) (sample : BitVec 16) (ovr : Bool) (cycle : BitVec 16) (tick : BitVec 16) (s : State) :
    Host.Outcome State Fault Refusal :=
  onConc n s (Concentrator.decimSample n d.val sample.toNat ovr cycle.toNat tick.toNat)

/-! ## Layout (R475, R476) -/

/-- The recorder memory in bytes (00_scope.md Table 0.2). -/
def Leaf.recBytes (d : Leaf) : Nat := if d.ident.variant = 1 then 2 ^ 25 else if d.ident.variant = 2 then 2 ^ 24 else 0

/-- The sample period of a decimator in 0.625 ns, from the RATE of its last frame. -/
def Leaf.decPeriod (d : Leaf) (conc dec : Nat) : Nat := 256 * 2 ^ SMap.get 0 d.rcd.rates (8 * conc + dec)

/-- REC_SEG.SIZE, whose reset value is 512 on a KV-6080 (Table 15.11). -/
def Leaf.segSizeFld (d : Leaf) : Fld := if d.ident.variant = 2 then { REC_SEG_SIZE with rst := 512 } else REC_SEG_SIZE
def Leaf.segSize (d : Leaf) : Nat := d.rd d.segSizeFld

/-- The layout that the registers give. -/
def Leaf.recGeo (d : Leaf) : RecGeo :=
  let tc := d.rd CYC_PERIOD_PERIOD * 160
  let fast := ((List.range 32).filter (bitOf (d.rd REC_FMASK_MASK))).map fun f => (f, d.decPeriod (d.rd REC_FCHf_CONC f) (d.rd REC_FCHf_DECIM f))
  let slow := (List.range 256).filter fun s => bitOf (d.rd REC_SMASKn_MASK (s / 32)) (s % 32)
  let evs := (List.range 8).filter (bitOf (d.rd REC_EMASK_GROUPS))
  let maxf := fast.foldl (fun a f => max a ((tc + f.2 - 1) / f.2)) 0
  let rowBytes := (4 + 4 * slow.length + 4 * evs.length + 2 * fast.length * maxf + 3) / 4 * 4
  { fast := fast, slow := slow, evs := evs, fmask := d.rd REC_FMASK_MASK, smask := (List.range 8).map (d.rd REC_SMASKn_MASK ·), maxf := maxf,
    cap := (d.segSize * 4096 - 512) / rowBytes, size := d.segSize, tc := tc,
    meas := (List.range 8).map fun m => d.rd REC_MEASn_EN m * 2 ^ 31 + d.rd REC_MEASn_KIND m * 2 ^ 24 + d.rd REC_MEASn_INDEX m }

def RecGeo.rowWords (g : RecGeo) : Nat := 1 + g.slow.length + g.evs.length + (g.fast.length * g.maxf + 1) / 2

/-- The first word of a segment, and of a row of it. -/
def RecGeo.segWord (g : RecGeo) (seg : Nat) : Nat := seg * g.size * 1024
def RecGeo.rowWord (g : RecGeo) (seg slot : Nat) : Nat := g.segWord seg + 128 + slot * g.rowWords

/-- Segment states: 0 FREE, 1 CAPTURING, 2 READY; the second number is the record held. -/
def Leaf.segOf (d : Leaf) (s : Nat) : Nat × Nat := SMap.get (0, 0) d.rcd.segs s
def Leaf.setSeg (d : Leaf) (s : Nat) (v : Nat × Nat) : Leaf := { d with rcd := { d.rcd with segs := SMap.put (0, 0) d.rcd.segs s v } }

/-- The registers that show the recorder: row and segment sizes, and the free segments. -/
def Leaf.recShow (d : Leaf) : Leaf :=
  let g := d.recGeo
  let used := (d.rcd.segs.filter fun s => s.2.1 ≠ 0 && s.1 < d.rd REC_SEG_COUNT).length
  (((d.wr REC_ROW_MAXF (min 255 g.maxf)).wr REC_ROW_ROW_BYTES (4 * g.rowWords)).wr REC_CAP_CAP g.cap).wr REC_SEGSTAT_FREE
    (d.rd REC_SEG_COUNT - used)

/-- A sticky recorder flag rises: vector 5 (12_host_interface_and_handles.md Table 12.2, log entry 21, DEDUCED). -/
def Leaf.recFlag (d : Leaf) (f : Fld) : Leaf := if d.is f then d else (d.wr f 1).msix 5

/-- The capture states of Table 15.6 as REC_STATUS shows them. -/
def recSTOPPED : Nat := 0
def recPRE : Nat := 1
def recPOST : Nat := 2
def recREARM : Nat := 3
def Leaf.recSt (d : Leaf) : Nat := d.rd REC_STATUS_STATE
def Leaf.setRecSt (d : Leaf) (v : Nat) : Leaf := d.wr REC_STATUS_STATE v

/-! ## The values of a row (R473 to R475, Tables 15.3 and 15.4) -/

/-- The word of a cell-table entry. -/
def Leaf.ctWordNow (d : Leaf) (slot w : Nat) : Nat :=
  wordAt [CT_VCAP, CT_VPRED_CELL, CT_STALE, CT_CELL_STATE, CT_OV_HARD, CT_OV_WARN, CT_UV, CT_OVT, CT_DESAT, CT_TEMP, CT_UPL_SEQ, CT_AUX, CT_SAMPLE_CYC,
    CT_STAT_AUX, CT_SLOT_STATE, CT_TYPE, CT_EXCL, CT_MISMATCH, CT_LATCH_OFS, CT_C_EST, CT_LEARN_N, CT_CMD_LAST, CT_CMD_PREV, CT_F_LAST, CT_F_PREV,
    CT_TRANS, CT_CREDIT] (d.rd · slot) (0x400000 + 4 * w)

/-- The value of slow channel `s` in the row of cycle `k`; a KIND or FIELD that Table 15.11 calls invalid has no stated value (log
entry 4, DESIGN CHOICE) (log entry 73, DEDUCED). -/
def Leaf.slowValue (d : Leaf) (k s : Nat) : Nat :=
  let w := d.ctWordNow (d.rd REC_SCHs_SLOT s) (d.rd REC_SCHs_WORD s)
  match d.rd REC_SCHs_KIND s, d.rd REC_SCHs_FIELD s with
  | 0, _ => d.fab.port k (0x100 + s)
  | 1, 0 => w
  | 1, 1 => w / 65536
  | 1, 2 => w % 65536
  | _, _ => Config.freeValue (d.freeIdx + s) % 2 ^ 32

/-- A record of a class was raised in cycle `k`. -/
def Leaf.raisedIn (d : Leaf) (k cls : Nat) : Bool := d.flt.recs.any fun x => x.r.cycle = k % 65536 && x.r.cls.code = cls && x.r.part = 0

/-- The leaf that is active, as this leaf knows it: 0 or 1. -/
def Leaf.activeLeaf (d : Leaf) : Nat := if d.active then d.ident.leaf else 1 - d.ident.leaf

/-- The overrun of cycle `k`. -/
def Leaf.overran (d : Leaf) (k : Nat) : Bool := d.cyc.tileLate.contains k || d.cyc.tumLate.contains k

/-- An event line of the row of cycle `k` (Table 15.3). -/
def Leaf.eventLine (d : Leaf) (k n : Nat) : Bool :=
  if n < 7 then d.conv.st.code = n
  else if n = 7 then d.active
  else if n = 8 then d.overran k
  else if n = 9 then d.hng.roleCycle = some k
  else if n < 16 then false
  else if n < 22 then d.is TUM_STATUS_SHORTFALL (n - 16)
  else if n < 28 then (d.tumOf (n - 22)).clamped
  else if n < 32 then false
  else if n < 40 then bitOf (d.rd FLT_LINES_LEVEL) (n - 32)
  else if n < 44 then d.raisedIn k (n - 40)
  else if n < 56 then decide (d.rd FAB_MWu_ALARM_BAND (n - 44) < min (sext 32 (d.rd FAB_MWu_RES_R (n - 44))).natAbs 2147483647)
  else if n < 64 then bitOf (d.rd SAF_OUT_ON) (n - 56)
  else if n < 112 then (SMap.get {} d.hng.grantOwn (n - 64)).grant = d.activeLeaf
  else if n < 128 then false
  else bitOf (d.slowValue k (252 + (n - 128) / 32)) (n % 32)

/-- A group of 32 event lines as a word (log entry 73, DEDUCED). -/
def Leaf.eventWord (d : Leaf) (k g : Nat) : Nat := (List.range 32).foldl (fun a i => a + b2n (d.eventLine k (32 * g + i)) * 2 ^ i) 0

/-- The sample instants of a period that fall in cycle `k` (R470): how many, and the offset of the first. -/
def instantsIn (tc period k : Nat) : Nat := ((k + 1) * tc + period - 1) / period - (k * tc + period - 1) / period
def firstInstant (tc period k : Nat) : Nat := (k * tc + period - 1) / period * period - k * tc

/-- The sample of a fast channel in slot `j` of the row of cycle `k`, once it has come. -/
def Leaf.fastSlot (d : Leaf) (k f j : Nat) : Option Nat :=
  ((SMap.get [] d.rcd.samples f).find? fun x => x.1 = k && x.2.1 = j).map (·.2.2)

/-- The slots of a fast channel in the row of cycle `k`; a missing one is 0x8000. -/
def Leaf.fastSlots (d : Leaf) (g : RecGeo) (k f : Nat) : List Nat := (List.range g.maxf).map fun j => (d.fastSlot k f j).getD 0x8000

/-- Halves packed into words, the earlier lower. -/
def halfWords : List Nat → List Nat
  | [] => []
  | [x] => [0x8000 * 65536 + x]
  | x :: y :: r => (y * 65536 + x) :: halfWords r

/-- The row of cycle `k` (Table 15.4) (log entry 73, DEDUCED). -/
def Leaf.rowOf (d : Leaf) (g : RecGeo) (k : Nat) : List Nat :=
  let counts := g.fast.map fun f => instantsIn g.tc f.2 k
  let missing := g.fast.any fun f => (List.range (instantsIn g.tc f.2 k)).any fun j => (d.fastSlot k f.1 j).isNone
  let w0 := k % 65536 * 65536 + (counts.foldl max 0) % 256 * 256 + d.rd TIM_STATUS_UNSET * 4 + b2n (d.overran k) * 2 + b2n missing
  (w0 :: g.slow.map (d.slowValue k)) ++ g.evs.map (d.eventWord k) ++ halfWords (g.fast.flatMap fun f => d.fastSlots g k f.1)

/-! ## Trigger units (R478 to R480) -/

/-- What one sample makes of a unit: the unit, and for a true output that interpolates, FRAC and the instant. -/
structure UnitStep where
  u : TrigU
  frac : Nat
  at_ : Int
  deriving DecidableEq, Repr

/-- The settings of a unit. -/
structure UnitCfg where
  kind : Nat
  src : Nat
  sense : Nat
  outside : Bool
  index : Nat
  a : Int
  b : Int
  hyst : Int
  wmin : Nat
  wmax : Nat
  deriving DecidableEq, Repr

def Leaf.unitCfg (d : Leaf) (u : Nat) : UnitCfg :=
  ⟨d.rd REC_TRGu_CTL_KIND u, d.rd REC_TRGu_CTL_SRC u, d.rd REC_TRGu_CTL_SENSE u, d.is REC_TRGu_CTL_OUTSIDE u, d.rd REC_TRGu_CTL_INDEX u,
   sext 32 (d.rd REC_TRGu_A_LEVEL u), sext 32 (d.rd REC_TRGu_B_LEVEL u), (d.rd REC_TRGu_HYST_HYST u : Nat), d.rd REC_TRGu_WMIN_SAMPLES u,
   d.rd REC_TRGu_WMAX_SAMPLES u⟩

/-- FRAC of the crossing of level `l` between the samples `a` and `b` (R480). -/
def fracAt (l a b : Int) : Nat := if a = b then 0 else min 15 (Int.fdiv (16 * (l - a)) (b - a)).toNat

/-- A sample `x` at instant `t` (R478, Table 15.5). SENSE 1 mirrors the values. -/
def UnitCfg.step (c : UnitCfg) (u : TrigU) (t x : Int) : UnitStep :=
  let sg : Int := if c.sense = 1 then -1 else 1
  let x := sg * x
  let a := sg * c.a
  let b := sg * c.b
  let up := u.low && a ≤ x
  let dn := u.high && x ≤ a
  let width := if up then some 0 else u.width.map (· + 1)
  let w := width.getD 0
  let inside := c.wmin ≤ w && w ≤ c.wmax
  let since := if up || dn then 0 else satInc 24 u.since
  let wasB := if up then false else u.reachedB
  let out := match c.kind with
    | 0 => decide (a < x)
    | 1 => up || (c.sense = 2 && dn)
    | 2 => width.isSome && (if dn then (if c.outside then decide (w < c.wmin) else inside) else (c.outside && w = c.wmax))
    | 3 => dn && width.isSome && !(wasB || decide (b ≤ x))
    | 4 => c.wmin ≤ since
    | _ => width.isSome && !dn && !wasB && decide (b ≤ x) && (inside != c.outside)
  let crosses := out && c.src ≠ 2 && (match c.kind with | 1 => true | 2 => dn | 3 => true | 5 => true | _ => false)
  let l := if c.kind = 5 then b else a
  let f := match crosses, u.prev with
    | true, some p => fracAt l (sg * p.2) x
    | _, _ => 0
  let inst := match crosses, u.prev with
    | true, some p => p.1 + (t - p.1) * f / 16
    | _, _ => t
  ⟨{ prev := some (t, sg * x), low := if up then false else u.low || decide (x ≤ a - c.hyst && x < a),
     high := if dn then false else u.high || decide (a + c.hyst ≤ x && a < x), since := since, width := if dn then none else width,
     reachedB := wasB || decide (b ≤ x), out := out }, f, inst⟩

/-- The units that are true, as bits; a unit that is not enabled is false. -/
def Leaf.unitsTrue (d : Leaf) : Nat :=
  (List.range 8).foldl (fun a u => if d.is REC_TRGu_CTL_EN u && (SMap.get {} d.rcd.units u).out then a + 2 ^ u else a) 0

/-- The trigger condition (R479). -/
def Leaf.trigCond (d : Leaf) (units : Nat) : Bool :=
  (List.range 4).any fun t =>
    d.rd REC_COMBt_USE t ≠ 0 &&
      (List.range 8).all fun u => !bitOf (d.rd REC_COMBt_USE t) u || bitOf units u != bitOf (d.rd REC_COMBt_INV t) u

/-- A trigger that is taken: the recorder enters POST; its row is not before the next row to be closed (log entry 73, DEDUCED). -/
def Leaf.takeTrigger (d : Leaf) (inst : Int) (frac row : Nat) (forced : Bool) : Leaf :=
  let next := match d.rcd.lastRow with | some k => k + 1 | none => row
  { d with rcd := { d.rcd with trig := some ⟨inst, frac, d.unitsTrue, max row next, forced, d.is TIM_STATUS_UNSET⟩, p := none, post := 0 } }.setRecSt
    recPOST

/-- A missed trigger (R483). -/
def Leaf.missTrigger (d : Leaf) (inst : Int) (cycle : Nat) : Leaf :=
  let h := d.rd REC_MISS_IDX_HEAD % 64
  let d := { d with rcd := { d.rcd with miss := SMap.ins d.rcd.miss h (toTs96 inst, cycle % 65536, d.unitsTrue) } }
  (((d.wr REC_MISS_IDX_HEAD ((h + 1) % 64)).sat REC_MISS_IDX_COUNT).recFlag REC_STATUS_MISSED).raise 0x2802 .note

/-- The units in `us` take a sample of cycle `k`, which started at `start`; then the condition is formed, and a rise of it acts by the
state (log entry 73, DEDUCED). -/
def Leaf.sampleUnits (d : Leaf) (us : List Nat) (k : Nat) (start t : Int) (val : Nat → Int) : Leaf :=
  let steps : List (Nat × UnitStep) := us.map fun u => (u, (d.unitCfg u).step (SMap.get {} d.rcd.units u) t (val u))
  let d := { d with rcd := { d.rcd with units := steps.foldl (fun (m : SMap TrigU) (x : Nat × UnitStep) => SMap.put {} m x.1 x.2.u) d.rcd.units } }
  let c := d.trigCond d.unitsTrue
  let rose := c && !d.rcd.cond
  let d := { d with rcd := { d.rcd with cond := c } }
  if !rose then d
  else
    let x : Int × Nat := match steps.find? (fun x : Nat × UnitStep => x.2.u.out) with | some x => (x.2.at_, x.2.frac) | none => (t, 0)
    let row := if x.1 < start then k - 1 else k
    if d.recSt = recPRE then d.takeTrigger x.1 x.2 row false
    else if d.recSt = recPOST then { d with rcd := { d.rcd with retrig := satInc 16 d.rcd.retrig } }
    else if d.recSt = recREARM then d.missTrigger x.1 row
    else d

/-- The enabled units whose source satisfies `p`. -/
def Leaf.unitsOn (d : Leaf) (p : UnitCfg → Bool) : List Nat := (List.range 8).filter fun u => d.is REC_TRGu_CTL_EN u && p (d.unitCfg u)

/-- The recorder watches its triggers: it is not STOPPED. -/
def Leaf.recWatching (d : Leaf) : Bool := d.recSt ≠ recSTOPPED && d.ident.variant ≠ 3

/-- The start of cycle `k` in station time, as the grid gave it; of an unknown cycle, the present time (log entry 89, DEDUCED). -/
def Leaf.cycStart (d : Leaf) (k : Nat) : Int := match d.tim.starts.find? (·.1 = k) with | some s => s.2 | none => d.now

/-! ## The close of a row (R474, R477, R479) -/

/-- A row enters the segment at a slot. -/
def Leaf.writeRow (d : Leaf) (slot k : Nat) (row : List Nat) : Leaf :=
  let base := d.rcd.geo.rowWord d.rcd.seg slot
  { d with rcd := { d.rcd with mem := (indexedFrom base row).foldl (fun m w => SMap.put 0 m w.1 w.2) d.rcd.mem,
                               marks := SMap.put {} d.rcd.marks slot ⟨k, d.cycStart k⟩ } }
where
  /-- Words with their addresses. -/
  indexedFrom (b : Nat) (ws : List Nat) : List (Nat × Nat) := (List.range ws.length).map (b + ·) |>.zip ws

/-- The row of cycle `k` is closed: the slow and event sources are sampled, then the row is stored by the state. -/
def Leaf.closeRow (k : Nat) (d : Leaf) : Leaf :=
  if !d.recWatching || reached d.rcd.lastRow k then d
  else
    let st := d.cycStart k
    let us := d.unitsOn (·.src ≠ 0)
    let d := d.sampleUnits us k st st fun u =>
      let c := d.unitCfg u
      if c.src = 1 then sext 32 (d.slowValue k c.index) else (b2n (d.eventLine k c.index) : Nat)
    let g := d.rcd.geo
    let row := d.rowOf g k
    let pre := d.rd REC_PRE_ROWS
    let early := d.recSt = recPRE || (d.recSt = recPOST && d.rcd.p.isNone && (match d.rcd.trig with | some t => decide (k < t.row) | none => false))
    let d := if early then
        if pre = 0 then d
        else { (d.writeRow (d.rcd.pre % pre) k row) with rcd := { (d.writeRow (d.rcd.pre % pre) k row).rcd with pre := d.rcd.pre + 1 } }
      else if d.recSt = recPOST && d.rcd.post < d.rcd.postN then
        let p := match d.rcd.p with | some p => p | none => min pre d.rcd.pre
        let d := d.writeRow (p + d.rcd.post) k row
        { d with rcd := { d.rcd with p := some p, post := d.rcd.post + 1 } }
      else d
    { d with rcd := { d.rcd with lastRow := some k, samples := SMap.mapv [] (fun l => l.filter (k < ·.1)) d.rcd.samples },
             freeIdx := d.freeIdx + 256 }

/-! ## DECIM frames at a leaf -/

/-- The cycle number nearest to the present one with the given low 16 bits. -/
def Leaf.cycleNear (d : Leaf) (c16 : Nat) : Nat :=
  let base := d.tim.cyc + 32768 - (d.tim.cyc + 32768 - c16) % 65536
  base

/-- One sample of decimator `dec` of concentrator `n`: it is kept for the fast channels that name it, and their units see it. -/
def Leaf.fastSample (n dec k slot : Nat) (t start : Int) (v : Nat) (d : Leaf) : Leaf :=
  let chans := (List.range 32).filter fun f => d.rd REC_FCHf_CONC f = n && d.rd REC_FCHf_DECIM f = dec
  let d := chans.foldl (fun d f =>
    if bitOf (d.rd REC_FMASK_MASK) f then
      { d with rcd := { d.rcd with samples := SMap.put [] d.rcd.samples f (SMap.get [] d.rcd.samples f ++ [(k, slot, v)]) } }
    else d) d
  let us := d.unitsOn fun c => c.src = 0 && chans.contains c.index
  if us = [] then d else d.sampleUnits us k start t fun _ => sext 16 v

/-- The samples of a DECIM frame are kept for the input distributor, for four cycles (05_control_fabric.md R188). -/
def Leaf.keepSamples (i k tick period : Nat) (vals : List Nat) (d : Leaf) : Leaf :=
  let new : List (Nat × Nat × Nat) := ((List.range vals.length).zip vals).map fun x => (k, tick + x.1 * period, x.2)
  let old := (SMap.get [] d.fab.decs i).filter fun x => d.tim.cyc ≤ x.1 + 3
  { d with fab := { d.fab with decs := SMap.put [] d.fab.decs i (old ++ new) } }

/-- A DECIM frame (Table 15.1): samples of a cycle whose row is closed are discarded (R474). -/
def Leaf.decim (n : Nat) (words : List Word) (d : Leaf) : Leaf :=
  match words.map (·.toNat) with
  | w1 :: w2 :: r =>
    let dec := bits w1 31 29
    let rate := bits w1 28 26
    let count := bits w1 25 16
    let k := d.cycleNear (w1 % 65536)
    let tick := w2 / 65536
    let d := { d with rcd := { d.rcd with rates := SMap.put 0 d.rcd.rates (8 * n + dec) rate } }
    let d := d.keepSamples (8 * n + dec) k tick (256 * 2 ^ rate) ((r.flatMap fun w => [w / 65536, w % 65536]).take count)
    if !d.recWatching || reached d.rcd.lastRow k then d
    else
      let period := 256 * 2 ^ rate
      let vals := (r.flatMap fun w => [w / 65536, w % 65536]).take count
      let start := d.cycStart k
      ((List.range vals.length).zip vals).foldl (fun d x =>
        let tk := tick + x.1 * period
        d.fastSample n dec k (tk / period) (start + (tk * 40960 : Nat)) start x.2) d
  | _ => d

def execDecim (l : LeafId) (n : Conc) (_d : Fin 8) (words : List Word) (s : State) : Host.Outcome State Fault Refusal :=
  onLeaf l s (Leaf.decim n.val words)

/-! ## Capture states (R481, R482, Table 15.6) -/

/-- AUTO_MS in PRE: the recorder triggers at the next row, marked FORCED. -/
def Leaf.autoTrigger (d : Leaf) : Leaf :=
  let ms := d.rd REC_CFG_AUTO_MS
  if d.recWatching && d.recSt = recPRE && ms ≠ 0 && d.rcd.preAt + ms * 800000 ≤ d.tim.c then d.takeTrigger d.now 0 d.tim.cyc true else d

def execAutoTrigger (l : LeafId) (s : State) : Host.Outcome State Fault Refusal := onLeaf l s Leaf.autoTrigger

/-- The recorder enters PRE in the segment NEXT names. -/
def Leaf.enterPre (d : Leaf) : Leaf :=
  let seg := d.rd REC_SEGSTAT_NEXT
  let d := (d.setSeg seg (1, d.rd REC_RECNO_NEXT)).wr REC_SEGSTAT_NEXT ((seg + 1) % d.rd REC_SEG_COUNT)
  ({ d with rcd := { d.rcd with seg := seg, pre := 0, marks := [], trig := none, p := none, post := 0, retrig := 0, preAt := d.tim.c } }.setRecSt
    recPRE).recShow

/-- The record that runs is closed: its header is now in the making. -/
def Leaf.closeRecord (d : Leaf) (overflow trunc : Bool) : Leaf :=
  match d.rcd.trig with
  | none => d
  | some t =>
    let pre := d.rd REC_PRE_ROWS
    let p := match d.rcd.p with | some p => p | none => min pre d.rcd.pre
    let first := if d.rcd.pre ≤ pre then 0 else d.rcd.pre % pre
    let oldest := SMap.get {} d.rcd.marks (if p = 0 then 0 else first)
    let hinge := match d.hng.roleCycle with | some c => decide (oldest.cycle ≤ c) | none => false
    let no := d.rd REC_RECNO_NEXT
    let rc : RecClose := ⟨d.rcd.seg, no, p, d.rcd.post, first, d.rcd.retrig, t, oldest, decide (p < pre), d.rcd.clamped, overflow, trunc, hinge,
      d.rcd.geo⟩
    { d with rcd := { d.rcd with closing := d.rcd.closing ++ [rc], trig := none, p := none } }.inc REC_RECNO_NEXT

/-- The post-trigger rows are complete. -/
def Leaf.postRowsComplete (d : Leaf) : Leaf :=
  if !d.recWatching || d.recSt ≠ recPOST || d.rcd.post < d.rcd.postN then d
  else if !d.is REC_STATUS_MODE then (d.closeRecord false false).setRecSt recSTOPPED
  else if (d.segOf (d.rd REC_SEGSTAT_NEXT)).1 = 0 then (d.closeRecord false false).setRecSt recREARM
  else (((d.closeRecord true false).setRecSt recSTOPPED).recFlag REC_STATUS_OVERFLOW).raise 0x2801 .note

def execPostRowsComplete (l : LeafId) (s : State) : Host.Outcome State Fault Refusal := onLeaf l s Leaf.postRowsComplete

/-- The next segment is prepared. -/
def Leaf.rearmComplete (d : Leaf) : Leaf := if d.recWatching && d.recSt = recREARM then d.enterPre else d

def execRearmComplete (l : LeafId) (s : State) : Host.Outcome State Fault Refusal := onLeaf l s Leaf.rearmComplete

/-- STOP, or a warm reset (Table 15.6) (log entry 73, DEDUCED). -/
def Leaf.recHalt (d : Leaf) : Leaf :=
  if d.recSt = recPRE then
    (((d.setSeg d.rcd.seg (0, 0)).wr REC_SEGSTAT_NEXT d.rcd.seg).setRecSt recSTOPPED).recShow
  else if d.recSt = recPOST then (d.closeRecord false true).setRecSt recSTOPPED
  else d.setRecSt recSTOPPED

/-! ## Measurements (R490, Table 15.8) -/

/-- The slots of a record in time order. -/
def RecClose.slots (c : RecClose) : List Nat :=
  (List.range (c.p - c.first)).map (c.first + ·) ++ List.range (min c.first c.p) ++ (List.range c.post).map (c.p + ·)

/-- The valid samples of fast channel `f` (KIND 0), or slow channel (KIND 1), with their times from the start of the oldest row in
0.625 ns. -/
def RecClose.samples (c : RecClose) (mem : SMap Nat) (kind idx : Nat) : List (Nat × Int) :=
  let rows := (List.range c.slots.length).zip c.slots
  let g := c.geo
  if kind = 1 then
    match g.slow.findIdx? (· = idx) with
    | some i => rows.map fun r => (r.1 * g.tc, sext 32 (SMap.get 0 mem (g.rowWord c.seg r.2 + 1 + i)))
    | none => []
  else
    match g.fast.findIdx? (·.1 = idx) with
    | some i =>
      let per := match g.fast[i]? with | some x => x.2 | none => 256
      rows.flatMap fun r => (List.range g.maxf).filterMap fun j =>
        let h := i * g.maxf + j
        let w := SMap.get 0 mem (g.rowWord c.seg r.2 + 1 + g.slow.length + g.evs.length + h / 2)
        let v := if h % 2 = 0 then w % 65536 else w / 65536
        if v = 0x8000 then none else some (r.1 * g.tc + firstInstant g.tc per (c.oldest.cycle + r.1) + j * per, sext 16 v)
    | none => []

/-- The rising crossings of level `l2 / 2` with hysteresis `h20 / 20`, as times. -/
def risings (l2 h20 : Int) : Bool → List (Nat × Int) → List Nat
  | _, [] => []
  | low, x :: r =>
    if low && l2 ≤ 2 * x.2 then x.1 :: risings l2 h20 false r
    else risings l2 h20 (low || decide (20 * x.2 ≤ 10 * l2 - h20 && 2 * x.2 < l2)) r

/-- The time at which the samples rise through `num / den` first, interpolated to a sixteenth of the period, and the samples from there. -/
def riseThrough (num : Int) (den : Nat) : List (Nat × Int) → Option (Nat × List (Nat × Int))
  | [] => none
  | [_] => none
  | x :: y :: r =>
    if x.2 * den < num && num ≤ y.2 * den then
      some (x.1 + (y.1 - x.1) * fracAt num (x.2 * den) (y.2 * den) / 16, x :: y :: r)
    else riseThrough num den (y :: r)

/-- Rounded quotient, halves up (log entry 73, DEDUCED). -/
def nearDiv (a : Int) (b : Nat) : Int := divNear a (max 1 b)

/-- The entry of one measurement; word `i` that R490 leaves open is the free value `free + i` (log entry 4, DESIGN CHOICE) (log entry 73, DEDUCED). -/
def measEntry (kind idx free trig : Nat) (xs : List (Nat × Int)) : List Nat :=
  let n := xs.length
  let open_ (i : Nat) : Nat := Config.freeValue (free + i)
  if n = 0 then (kind * 2 ^ 24 + idx) :: (List.range 9).map fun i => open_ (i + 1) % 2 ^ 32
  else
    let vs := xs.map (·.2)
    let mn := vs.foldl min (vs.headD 0)
    let mx := vs.foldl max (vs.headD 0)
    let sum : Int := vs.foldl (· + ·) 0
    let hi := vs.filter fun v => mn + mx < 2 * v
    let lo := vs.filter fun v => 2 * v ≤ mn + mx
    let sh : Int := hi.foldl (· + ·) 0
    let sl : Int := lo.foldl (· + ·) 0
    let den := hi.length * lo.length
    let num : Int := sh * lo.length - sl * hi.length
    let ampl := if den = 0 then (open_ 4 : Int) else nearDiv num den
    let sq : Nat := vs.foldl (fun a v => a + (v * v).toNat) 0
    let ups := risings (mn + mx) (mx - mn) false xs
    let perOk := 2 ≤ ups.length
    let per := if perOk then (nearDiv (((ups.getLastD 0 - ups.headD 0) * 5 : Nat)) (8 * (ups.length - 1))).toNat else open_ 7
    let later := xs.filter fun x => trig ≤ x.1
    let rise := if den = 0 then none else
      match riseThrough (10 * sl * hi.length + num) (10 * den) later with
      | some (t1, r) => (riseThrough (10 * sl * hi.length + 9 * num) (10 * den) r).map fun t2 => (t2.1 - t1) * 10
      | none => none
    let flags := 2 ^ 31 + b2n (!perOk) * 2 ^ 30 + b2n rise.isNone * 2 ^ 29 + kind * 2 ^ 24 + idx
    [flags, pat 32 mn, pat 32 mx, pat 32 (mx - mn), pat 32 ampl, pat 32 (nearDiv sum n), min (2 ^ 32 - 1) (isqrt (sq / n)), per % 2 ^ 32,
     (if perOk && per ≠ 0 then 10 ^ 12 / per else open_ 8) % 2 ^ 32, (rise.getD (open_ 9)) % 2 ^ 32]

/-! ## The record header (R489, Table 15.7) -/

/-- The words of the header. -/
def RecClose.header (c : RecClose) (mem : SMap Nat) (free : Nat) : List Nat :=
  let g := c.geo
  let flags := c.recno * 65536 + b2n c.trunc * 256 + b2n c.hinge * 128 + b2n c.trig.unset * 64 + b2n c.overflow * 32 + b2n c.clamped * 16 +
    b2n c.shortPre * 8 + b2n c.trig.forced * 4 + 2 + 1
  let trigTick := ((c.trig.at_ - c.oldest.start) / 40960).toNat
  let meas := (List.range 8).flatMap fun m =>
    let w := g.meas.getD m 0
    if bitOf w 31 then measEntry (bits w 25 24) (w % 256) (free + 10 * m) trigTick (c.samples mem (bits w 25 24) (w % 256))
    else List.replicate 10 0
  let ws := [flags, g.fast.length * 2 ^ 24 + g.maxf * 65536 + 4 * g.rowWords, g.slow.length * 65536 + g.evs.length, c.p, c.post, c.first,
    c.retrig * 65536 + c.trig.units * 256 + c.trig.frac] ++ leWords 3 (toTs96 c.trig.at_) ++ leWords 3 (toTs96 c.oldest.start) ++
    [c.trig.row % 65536, 0, 0, g.fmask] ++ g.smask ++ [g.evs.foldl (fun a e => a + 2 ^ e) 0] ++ List.replicate 6 0 ++ meas ++ List.replicate 15 0
  ws ++ [crc32c (ws.flatMap (leBytes 4))]

/-- The header of the oldest record in the making is complete, and its segment READY (R484). -/
def Leaf.recordClosed (d : Leaf) : Leaf :=
  match d.rcd.closing with
  | [] => d
  | c :: r =>
    let ws := c.header d.rcd.mem d.freeIdx
    let mem := ((List.range ws.length).zip ws).foldl (fun m w => SMap.put 0 m (c.geo.segWord c.seg + w.1) w.2) d.rcd.mem
    (({ d with rcd := { d.rcd with closing := r, mem := mem }, freeIdx := d.freeIdx + 80 }.setSeg c.seg (2, c.recno))).recShow.msix 5

def execRecordClosed (l : LeafId) (s : State) : Host.Outcome State Fault Refusal := onLeaf l s Leaf.recordClosed

/-! ## REC commands (R485 to R488, Table 15.9) -/

/-- A unit that ARM does not admit. -/
def UnitCfg.bad (c : UnitCfg) : Bool :=
  5 < c.kind || 2 < c.src || (c.src = 0 && 32 ≤ c.index) || (c.src = 2 && !(c.kind = 0 || c.kind = 1 || c.kind = 2 || c.kind = 4))

/-- What R485 turns away (log entry 39, DEDUCED). -/
def Leaf.armInvalid (d : Leaf) : Bool :=
  let g := d.recGeo
  let decl := d.declared
  decide (d.recBytes < d.rd REC_SEG_COUNT * g.size * 4096) || decide (g.cap < d.rd REC_PRE_ROWS + 1) ||
    decide (d.recBytes < d.rd REC_POST_ROWS * 4 * g.rowWords) || decide (255 < g.maxf) ||
    g.fast.any (fun f => let n := d.rd REC_FCHf_CONC f.1; !decl.contains n || SMap.get 0 d.disc.caps n % 16 = 0) ||
    (List.range 8).any (fun u => d.is REC_TRGu_CTL_EN u && (d.unitCfg u).bad) ||
    g.meas.any (fun w => bitOf w 31 && (match bits w 25 24 with
      | 0 => !g.fast.any (·.1 = w % 256)
      | 1 => !g.slow.contains (w % 256)
      | _ => true))

/-- ARM (log entry 39, DEDUCED). -/
def Leaf.recArm (h : Handle) (d : Leaf) : Leaf :=
  d.runCmd h 5 1 fun c d =>
    if 1 < c.par 0 32 then d.complete h stINVALID
    else if d.recSt ≠ recSTOPPED || (d.segOf (d.rd REC_SEGSTAT_NEXT)).1 ≠ 0 then d.complete h stREFUSED_STATE
    else if d.armInvalid then d.complete h stINVALID
    else
      let g := d.recGeo
      let post := d.rd REC_POST_ROWS
      let room := g.cap - d.rd REC_PRE_ROWS
      let d := { d with rcd := { d.rcd with geo := g, postN := min post room, clamped := decide (room < post), units := [], cond := false,
                                            samples := [], lastRow := none } }
      ((d.wr REC_STATUS_MODE (c.par 0 32)).enterPre).complete h stDONE

def execRecArm (l : LeafId) (h : Handle) (s : State) : Host.Outcome State Fault Refusal := onLeaf l s (Leaf.recArm h)

/-- STOP. -/
def Leaf.recStop (h : Handle) (d : Leaf) : Leaf := d.runCmd h 5 2 fun _ d => d.recHalt.complete h stDONE

def execRecStop (l : LeafId) (h : Handle) (s : State) : Host.Outcome State Fault Refusal := onLeaf l s (Leaf.recStop h)

/-- FORCE (R481). -/
def Leaf.recForce (h : Handle) (d : Leaf) : Leaf :=
  d.runCmd h 5 3 fun _ d =>
    if d.recSt ≠ recPRE then d.complete h stREFUSED_STATE else (d.takeTrigger d.now 0 d.tim.cyc true).complete h stDONE

def execRecForce (l : LeafId) (h : Handle) (s : State) : Host.Outcome State Fault Refusal := onLeaf l s (Leaf.recForce h)

/-- DRAIN: bytes of a READY record go to host memory. -/
def Leaf.recDrain (h : Handle) (d : Leaf) : Leaf :=
  d.runOuter h 5 4 false fun c d =>
    let seg := c.par 0 12
    let off := c.par 28 32
    let len := c.par 60 32
    if d.segOf seg ≠ (2, c.par 12 16) then d.complete h stREFUSED_STATE
    else if len % 4 ≠ 0 || off % 4 ≠ 0 || d.segSize * 4096 < off + len then d.complete h stINVALID
    else
      let base := (seg * d.segSize * 4096 + off) / 4
      (d.emit (.dma (c.par 92 64) ((List.range (len / 4)).map fun i => SMap.get 0 d.rcd.mem (base + i)))).complete h stDONE len 0

def execRecDrain (l : LeafId) (h : Handle) (s : State) : Host.Outcome State Fault Refusal := onLeaf l s (Leaf.recDrain h)

/-- RELEASE acts only on the record it names (R492) (log entry 39, DEDUCED). -/
def Leaf.recRelease (h : Handle) (d : Leaf) : Leaf :=
  d.runCmd h 5 5 fun c d =>
    let seg := c.par 0 12
    if (d.segOf seg).1 = 0 then d.complete h stDONE
    else if d.segOf seg = (2, c.par 12 16) then ((d.setSeg seg (0, 0)).recShow).complete h stDONE
    else d.complete h stREFUSED_STATE

def execRecRelease (l : LeafId) (h : Handle) (s : State) : Host.Outcome State Fault Refusal := onLeaf l s (Leaf.recRelease h)

/-- A write to a configuration register is taken only in STOPPED (R487). -/
def Leaf.recLocked (d : Leaf) : Bool := d.recSt ≠ recSTOPPED

end Sys2Proof.Machine
end

