-- ==== Sys2Proof/Machine/SafetyBlock.lean ====
section
/-! DEFINITION. The personnel-safety block (16_personnel_safety.md R494 to R521). Its two channels compute the same functions of the same
samples, so one evaluation stands for both; what makes them differ is the event CHANNEL_DISAGREEMENT (log entry 20, DESIGN CHOICE). -/

namespace Sys2Proof.Machine
open Reg

/-! ## Presence and demand (R497, R511, R519) -/

/-- The block is present (ID_CAP.SAF). -/
def Leaf.safHas (d : Leaf) : Bool := d.ident.variant ≠ 3

/-- The block works: present, and the leaf is out of its reset. -/
def Leaf.safOn (d : Leaf) : Bool := d.safHas && 3 ≤ d.pwr.step

def Leaf.safRunning (d : Leaf) : Bool := d.is SAF_STATUS_RUNNING

/-- Group states: 0 DEMAND, 1 WAIT_RESET, 2 RUN, 3 DISCREPANT. -/
def Leaf.grpState (d : Leaf) (g : Nat) : Nat := bits (d.rd SAF_GRP_STATE_STATE) (2 * g + 1) (2 * g)
def Leaf.setGrpState (d : Leaf) (g v : Nat) : Leaf :=
  let x := d.rd SAF_GRP_STATE_STATE
  d.wr SAF_GRP_STATE_STATE (setBit (setBit x (2 * g) (bitOf v 0)) (2 * g + 1) (bitOf v 1))

/-- This leaf's own demand: an enabled group with BLOCK_EN is not RUN, or the block is not RUNNING. -/
def Leaf.ownDemand (d : Leaf) : Bool :=
  d.safHas && (!d.safRunning || (List.range 16).any fun g => d.is SAF_GRPg_CFG_EN g && d.is SAF_GRPg_CFG_BLOCK_EN g && d.grpState g ≠ 2)

/-- A block order is in force on a leaf (R511). -/
def Leaf.blockOrder (d : Leaf) : Bool := d.safHas && (d.ownDemand || d.hng.partner.demand)

/-- A sticky flag of SAF_STATUS rises: vector 6 (12_host_interface_and_handles.md Table 12.2). -/
def Leaf.safFlag (d : Leaf) (f : Fld) : Leaf := if d.is f then d else (d.wr f 1).msix 6

/-! ## Outputs (R509, R510) -/

/-- An output is commanded on: RUNNING, no fault of its own, and its MODE's condition. -/
def Leaf.outputOn (d : Leaf) (n : Nat) : Bool :=
  d.safOn && d.safRunning && !bitOf (d.rd SAF_OUT_FAULT) n &&
    (match d.rd SAF_OUTn_CFG_MODE n with
     | 1 => (List.range 16).all fun g => !bitOf (d.rd SAF_OUTn_CFG_GROUPS n) g || d.grpState g = 2
     | 2 => bitOf d.saf.permitted n
     | _ => false)

/-- The outputs follow: both balls of each pair take its command; SAF_STATUS.DEMAND shows the order. -/
def Leaf.safOutputs (d : Leaf) : Leaf :=
  let d := (List.range 8).foldl (fun (d : Leaf) n =>
    let on := d.outputOn n
    if on = bitOf (d.rd SAF_OUT_ON) n then d
    else ((d.wr SAF_OUT_ON (setBit (d.rd SAF_OUT_ON) n on)).wr SAF_OUT_READBACK (setBit (d.rd SAF_OUT_READBACK) n on)).emit (.safeOut n on)) d
  d.wr SAF_STATUS_DEMAND (b2n d.blockOrder)

/-- Fault 0x2905 with a CAUSE bit (R495 to R497, R510, 19_power_reset_startup.md R573): the block is no longer RUNNING (log entry 20, DESIGN CHOICE). -/
def Leaf.chanFault (d : Leaf) (bit : Nat) : Leaf :=
  if !d.safHas then d
  else (((d.wr SAF_STATUS_CHAN_FAULT 1).wr SAF_STATUS_RUNNING 0).safOutputs).raise 0x2905 .deadbolt 0 (2 ^ bit)

/-! ## Inputs (R499 to R502) -/

def Leaf.safPair (d : Leaf) (i : Nat) : SafPair := SMap.get {} d.saf.pairs i
def Leaf.setSafPair (d : Leaf) (i : Nat) (p : SafPair) : Leaf := { d with saf := { d.saf with pairs := SMap.put {} d.saf.pairs i p } }

/-- The filtered channels of a pair show their run level (Table 16.2): B of an ANTIV pair runs low. -/
def Leaf.runA (d : Leaf) (i : Nat) : Bool := bitOf (d.rd SAF_IN_A_LEVEL) i
def Leaf.runB (d : Leaf) (i : Nat) : Bool := bitOf (d.rd SAF_IN_B_LEVEL) i != decide (d.rd SAF_INn_CFG_TYPE i = 2)

/-- A pair is RUN (R499, R502). -/
def Leaf.pairRun (d : Leaf) (i : Nat) : Bool :=
  d.rd SAF_INn_CFG_TYPE i ≠ 0 && d.runA i && d.runB i && !bitOf (d.rd SAF_IN_DISC_MAP) i

/-- A pair takes its raw levels at a tick: the OSSD filter (R500), then the run of disagreement and the end of a discrepancy (R501,
R502). -/
def Leaf.samplePair (a b : Nat) (d : Leaf) (i : Nat) : Leaf :=
  let ra := bitOf a i
  let rb := bitOf b i
  let p := d.safPair i
  let t := d.rd SAF_INn_CFG_TYPE i
  let fa := if t = 3 && !ra && rb then bitOf (d.rd SAF_IN_A_LEVEL) i else ra
  let fb := if t = 3 && ra && !rb then bitOf (d.rd SAF_IN_B_LEVEL) i else rb
  let p := { p with demA := if t = 3 && !ra then p.demA + 1 else 0, demB := if t = 3 && !rb then p.demB + 1 else 0 }
  let d := (d.wr SAF_IN_A_LEVEL (setBit (d.rd SAF_IN_A_LEVEL) i fa)).wr SAF_IN_B_LEVEL (setBit (d.rd SAF_IN_B_LEVEL) i fb)
  let p := { p with disagree := if t ≠ 0 && d.runA i != d.runB i then p.disagree + 1 else 0 }
  let d := if !d.runA i && !d.runB i then d.wr SAF_IN_DISC_MAP (setBit (d.rd SAF_IN_DISC_MAP) i false) else d
  d.setSafPair i p

/-! ## Groups (R503 to R505, Table 16.3) -/

/-- The pairs a group names in INMASK. -/
def Leaf.grpPairs (d : Leaf) (g : Nat) : List Nat := (List.range 32).filter (bitOf (d.rd SAF_GRPg_INMASK_PAIRS g))

/-- A TWO_HAND group names no reset pair. -/
def Leaf.twoHand (d : Leaf) (g : Nat) : Bool := d.rd SAF_GRPg_CFG_KIND g = 2

/-- The reset pair of a group. -/
def Leaf.resetPair (d : Leaf) (g : Nat) : Option Nat := if d.twoHand g then none else some (d.rd SAF_GRPg_CFG_RESET g)

/-- A named pair of a group, its reset pair included, is discrepant. -/
def Leaf.grpDiscrepant (d : Leaf) (g : Nat) : Bool :=
  let m := d.rd SAF_IN_DISC_MAP
  (d.grpPairs g).any (bitOf m) || (match d.resetPair g with | some i => bitOf m i | none => false)

/-- Every Hasp connection a group names is OK and delivers its interlock bit. -/
def Leaf.haspHolds (d : Leaf) (g : Nat) : Bool :=
  (List.range 16).all fun c => !bitOf (d.rd SAF_GRPg_XMASK_HASP g) c || (d.is SAF_HASPc_STAT_OK c && bitOf (d.rd SAF_HASPc_DATA_INTERLOCK c) g)

/-- The conditions of a group hold (R503); a trip order acts by itself (R517). -/
def Leaf.grpHolds (d : Leaf) (g : Nat) : Bool := (d.grpPairs g).all d.pairRun && d.haspHolds g

/-- A trip order is sent: its first copy at once on both networks (R515, Table 16.6). -/
def ordFrame (ident mac src seq rep group issued : Nat) : List Byte :=
  let be (n v : Nat) := (leBytes n v).reverse
  let body := be 4 ident ++ be 4 seq ++ [1, BitVec.ofNat 8 rep, BitVec.ofNat 8 group, 0] ++ be 12 issued
  let f := be 6 mac ++ be 6 src ++ be 2 0x88B6 ++ body ++ be 4 (crc32c body)
  f ++ List.replicate (60 - f.length) 0

/-- A frame on both safety networks. -/
def Leaf.sendNets (d : Leaf) (f : List Byte) : Leaf := (d.emit (.net 0 f)).emit (.net 1 f)

def Leaf.sendOrder (d : Leaf) (o : OrdTx) : Leaf :=
  d.sendNets (ordFrame (d.rd SAF_ORD_TX_IDENT) (d.rd SAF_ORD_TXMAC_LO_MAC + 2 ^ 32 * d.rd SAF_ORD_TXMAC_HI_MAC) d.ident.mac o.seq o.next o.group
    o.issued)

/-- Log entry 75, DEDUCED. -/
def Leaf.newOrder (d : Leaf) (g : Nat) : Leaf :=
  let o : OrdTx := ⟨(d.saf.ordSeq + 1) % 2 ^ 32, g, toTs96 d.now, 0⟩
  { d.sendOrder o with saf := { d.saf with ordSeq := o.seq, tx := d.saf.tx ++ [{ o with next := 1 }] } }

/-- A group takes a state; leaving RUN it orders what it is configured to (R505). A press that runs can no longer reset a group that left
WAIT_RESET (R506, Table 16.8). -/
def Leaf.grpTo (d : Leaf) (g v : Nat) : Leaf :=
  let was := d.grpState g
  let d := d.setGrpState g v
  let pairs := if v = 1 then d.saf.pairs else SMap.mapv {} (fun p : SafPair => { p with waiting := setBit p.waiting g false }) d.saf.pairs
  let d := { d with saf := { d.saf with twoHand := SMap.put none d.saf.twoHand g none, pairs := pairs } }
  if was = 2 && v ≠ 2 then
    let d := if d.is SAF_GRPg_CFG_BLOCK_EN g then d.raise 0x2901 .trip g else d
    if d.is SAF_GRPg_CFG_SEND_EN g then d.newOrder g else d
  else d

/-- The pairs whose press ends at this tick as a valid one, by group (R506): `ended` gives pair, length and the groups that waited. -/
def resetFor (ended : List (Nat × Nat × Nat)) (pair : Option Nat) (g : Nat) : Bool :=
  match pair with
  | some i => ended.any fun e => e.1 = i && 5000 ≤ e.2.1 && e.2.1 ≤ 200000 && bitOf e.2.2 g
  | none => false

/-- One group at a tick (Table 16.3); the flag says that it took a valid reset. -/
def Leaf.stepGroup (ended : List (Nat × Nat × Nat)) (d : Leaf) (g : Nat) : Leaf × Bool :=
  if !d.is SAF_GRPg_CFG_EN g then (d, false)
  else
    let holds := d.grpHolds g
    let st := d.grpState g
    if st ≠ 3 && d.grpDiscrepant g then (d.grpTo g 3, false)
    else match st with
    | 3 => (if d.grpDiscrepant g then d else d.grpTo g 0, false)
    | 0 =>
      if d.twoHand g then (if (d.grpPairs g).all (fun i => !d.pairRun i) then d.grpTo g 1 else d, false)
      else if holds then (d.grpTo g (if d.rd SAF_GRPg_CFG_KIND g = 3 && d.is SAF_GRPg_CFG_AUTO g then 2 else 1), false)
      else (d, false)
    | 1 =>
      if d.twoHand g then
        let n := match SMap.get none d.saf.twoHand g with
          | some n => some (n + 1)
          | none => if (d.grpPairs g).any d.pairRun then some 0 else none
        if holds && n.getD 0 ≤ 50000 then (d.grpTo g 2, false)
        else ({ d with saf := { d.saf with twoHand := SMap.put none d.saf.twoHand g n } }, false)
      else if !holds then (d.grpTo g 0, false)
      else if resetFor ended (d.resetPair g) g then (d.grpTo g 2, true)
      else (d, false)
    | _ => (if holds then d else d.grpTo g 0, false)

/-- The groups that a press of pair `i` could reset now. -/
def Leaf.waitingFor (d : Leaf) (i : Nat) : Nat :=
  (List.range 16).foldl (fun m g => if d.is SAF_GRPg_CFG_EN g && d.resetPair g = some i && d.grpState g = 1 then m + 2 ^ g else m) 0

/-- A pair is the reset pair of an enabled group. -/
def Leaf.isReset (d : Leaf) (i : Nat) : Bool := (List.range 16).any fun g => d.is SAF_GRPg_CFG_EN g && d.resetPair g = some i

/-- The presses at a tick (R506 to R508): `was` are the pairs RUN before it. -/
def Leaf.stepPress (was : Nat) (r : Leaf × List (Nat × Nat × Nat)) (i : Nat) : Leaf × List (Nat × Nat × Nat) :=
  let d := r.1
  let p := d.safPair i
  if !d.isReset i then r
  else if d.pairRun i then
    if bitOf was i then (d.setSafPair i { p with press := p.press + 1 }, r.2)
    else (d.setSafPair i { p with press := 1, waiting := d.waitingFor i, heldRaised := false }, r.2)
  else if bitOf was i then (d.setSafPair i { p with press := 0, waiting := 0, heldRaised := false }, r.2 ++ [(i, p.press, p.waiting)])
  else r

/-- Presses that ended without a valid reset, and were not held too long, are refused (R508). -/
def Leaf.refusePress (valid : List Nat) (ended : List (Nat × Nat × Nat)) (d : Leaf) : Leaf :=
  ended.foldl (fun (d : Leaf) e =>
    if valid.contains e.1 || 200001 ≤ e.2.1 then d else (d.safFlag SAF_STATUS_RESET_REFUSED).sat SAF_CNT_REFUSED) d

/-- The groups take one evaluation; the pairs whose press reset a group come with the leaf. -/
def Leaf.stepGroups (ended : List (Nat × Nat × Nat)) (d : Leaf) : Leaf × List Nat :=
  (List.range 16).foldl (fun (r : Leaf × List Nat) g =>
    let x := r.1.stepGroup ended g
    (x.1, if x.2 then r.2 ++ (x.1.resetPair g).toList else r.2)) (d, [])

/-- The pairs RUN, as bits. -/
def Leaf.runMap (d : Leaf) : Nat := (List.range 32).foldl (fun m i => if d.pairRun i then m + 2 ^ i else m) 0

/-- The safety tick (R495) (log entry 20, DESIGN CHOICE). -/
def Leaf.safetyTick (a b : Nat) (d : Leaf) : Leaf :=
  if !d.safOn then d
  else
    let was := d.rd SAF_IN_RUN_MAP
    let d := (List.range 32).foldl (Leaf.samplePair a b) d
    let d := d.wr SAF_IN_RUN_MAP d.runMap
    let idle := if d.conv.st = .unkeyed || d.conv.st = .keyedIdle then d.saf.idle + 1 else 0
    let permitted := (List.range 8).foldl (fun m n =>
      if bitOf d.saf.permitted n && d.pairRun (d.rd SAF_OUTn_CFG_PERMIT n) && idle ≠ 0 then m + 2 ^ n else m) 0
    let d := { d with saf := { d.saf with idle := idle, permitted := permitted } }
    if !d.safRunning then d.safOutputs
    else
      let r := (List.range 32).foldl (Leaf.stepPress was) (d, [])
      let x := r.1.stepGroups r.2
      let d := x.2.foldl (fun (d : Leaf) _ => d.sat SAF_CNT_RESETS) x.1
      (d.refusePress x.2 r.2).safOutputs

def execSafetyTick (l : LeafId) (a : BitVec 32) (b : BitVec 32) (s : State) : Host.Outcome State Fault Refusal :=
  onLeaf l s (Leaf.safetyTick a.toNat b.toNat)

/-- A tick interval outside 8.5 µs to 11.5 µs (R495). -/
def Leaf.tickWatchdog (ns : Nat) (d : Leaf) : Leaf := if d.safOn && (ns < 8500 || 11500 < ns) then d.chanFault 2 else d

/-- Log entry 20, DESIGN CHOICE. -/
def execTickWatchdog (l : LeafId) (ns : Nat) (s : State) : Host.Outcome State Fault Refusal := onLeaf l s (Leaf.tickWatchdog ns)

/-- The channels have differed at 100 consecutive ticks (R496). -/
def Leaf.channelDisagreement (d : Leaf) : Leaf := if d.safOn then d.chanFault 0 else d

/-- Log entry 20, DESIGN CHOICE. -/
def execChannelDisagreement (l : LeafId) (s : State) : Host.Outcome State Fault Refusal := onLeaf l s Leaf.channelDisagreement

/-- What an event between ticks changed is evaluated. -/
def Leaf.safReact (d : Leaf) : Leaf :=
  let d := d.wr SAF_IN_RUN_MAP d.runMap
  if d.safRunning then (d.stepGroups []).1.safOutputs else d.safOutputs

/-- One OSSD channel (`ch` false A, true B) has stood at its demand level for 100 ticks (R500). -/
def Leaf.ossdDemand (i : Nat) (ch : Bool) (d : Leaf) : Leaf :=
  let p := d.safPair i
  if !d.safOn || d.rd SAF_INn_CFG_TYPE i ≠ 3 || (if ch then p.demB else p.demA) < 100 then d
  else
    let f := if ch then SAF_IN_B_LEVEL else SAF_IN_A_LEVEL
    (d.wr f (setBit (d.rd f) i false)).safReact

def execOssdDemand (l : LeafId) (i : Fin 32) (ch : Bool) (s : State) : Host.Outcome State Fault Refusal := onLeaf l s (Leaf.ossdDemand i.val ch)

/-- The channels of a pair have disagreed for 100 · T_d ticks (R501). -/
def Leaf.discrepancy (i : Nat) (d : Leaf) : Leaf :=
  if !d.safOn || bitOf (d.rd SAF_IN_DISC_MAP) i || (d.safPair i).disagree < 100 * d.rd SAF_INn_CFG_TD i then d
  else
    let d := (d.wr SAF_IN_DISC_MAP (setBit (d.rd SAF_IN_DISC_MAP) i true)).sat SAF_CNT_DISCREP
    ((d.safFlag SAF_STATUS_DISCREP).safReact).raise 0x2902 .alarm i

def execDiscrepancy (l : LeafId) (i : Fin 32) (s : State) : Host.Outcome State Fault Refusal := onLeaf l s (Leaf.discrepancy i.val)

/-- 50,000 ticks after the first pair of a TWO_HAND group. -/
def Leaf.twoHandTimeout (g : Nat) (d : Leaf) : Leaf :=
  match SMap.get none d.saf.twoHand g with
  | some n => if d.safOn && d.safRunning && d.twoHand g && d.grpState g = 1 && 50000 ≤ n then (d.grpTo g 0).safOutputs else d
  | none => d

def execTwoHandTimeout (l : LeafId) (g : Fin 16) (s : State) : Host.Outcome State Fault Refusal := onLeaf l s (Leaf.twoHandTimeout g.val)

/-- A press at its 200,001st tick (R507). -/
def Leaf.resetHeld (i : Nat) (d : Leaf) : Leaf :=
  let p := d.safPair i
  if !d.safOn || p.press < 200001 || p.heldRaised then d
  else ((d.setSafPair i { p with heldRaised := true }).safFlag SAF_STATUS_RESET_HELD).raise 0x2904 .note i

def execResetButtonHeld (l : LeafId) (i : Fin 32) (s : State) : Host.Outcome State Fault Refusal := onLeaf l s (Leaf.resetHeld i.val)

/-- A RELEASE output whose permit is RUN, after RELEASE_S seconds of UNKEYED or KEYED_IDLE (R509). -/
def Leaf.releasePermit (n : Nat) (d : Leaf) : Leaf :=
  if d.safOn && d.rd SAF_OUTn_CFG_MODE n = 2 && d.pairRun (d.rd SAF_OUTn_CFG_PERMIT n) && d.rd SAF_OUTn_CFG_RELEASE_S n * 100000 ≤ d.saf.idle &&
      (d.conv.st = .unkeyed || d.conv.st = .keyedIdle) then
    { d with saf := { d.saf with permitted := setBit d.saf.permitted n true } }.safOutputs
  else d

def execReleaseOutputPermit (l : LeafId) (n : Fin 8) (s : State) : Host.Outcome State Fault Refusal := onLeaf l s (Leaf.releasePermit n.val)

/-- The readback of an energised output: `readback`, still energised during its test pulse; `low`, low for 1 ms while energised (R510). -/
def Leaf.outputTest (n : Nat) (readback low : Bool) (d : Leaf) : Leaf :=
  if !d.safOn || !bitOf (d.rd SAF_OUT_ON) n then d
  else
    let d := if readback && d.is SAF_OUTn_CFG_TEST_EN n then d.chanFault 1 else d
    if low then (((d.wr SAF_OUT_FAULT (setBit (d.rd SAF_OUT_FAULT) n true)).msix 6).safOutputs) else d

def execOutputTestPulse (l : LeafId) (n : Fin 8) (readback : Bool) (low : Bool) (s : State) : Host.Outcome State Fault Refusal :=
  onLeaf l s (Leaf.outputTest n.val readback low)

/-! ## The Hasp layer (R513, R514, Table 16.5) -/

def Leaf.hasp (d : Leaf) (c : Nat) : HaspConn := SMap.get {} d.saf.hasp c
def Leaf.setHasp (d : Leaf) (c : Nat) (x : HaspConn) : Leaf := { d with saf := { d.saf with hasp := SMap.put {} d.saf.hasp c x } }
def Leaf.haspMac (d : Leaf) (c : Nat) : Nat := d.rd SAF_HASPc_MAC_LO_MAC c + 2 ^ 32 * d.rd SAF_HASPc_MAC_HI_MAC c

/-- The connection is configured, locked and enabled in a direction. -/
def Leaf.haspOpen (d : Leaf) (c dir : Nat) : Bool :=
  d.safOn && d.is SAF_STATUS_LOCKED && d.is SAF_HASPc_CFG_EN c && d.rd SAF_HASPc_CFG_DIR c = dir

/-- A producing connection sends its frame (R513). -/
def Leaf.haspProduce (c : Nat) (d : Leaf) : Leaf :=
  if !d.haspOpen c 1 then d
  else
    let be (n v : Nat) := (leBytes n v).reverse
    let x := d.hasp c
    let seq := (x.last + 1) % 2 ^ 32
    let il := (List.range 16).foldl (fun m g => if d.grpState g = 2 && bitOf (d.rd SAF_HASPc_CFG_INTERLOCK_SRC c) g then m + 2 ^ g else m) 0
    let body := be 4 (d.rd SAF_HASPc_IDENT_IDENT c) ++ be 4 seq ++ [1, BitVec.ofNat 8 (b2n d.safRunning + 2 * b2n d.blockOrder)] ++ be 2 il ++
      be 4 (d.rd SAF_GRP_STATE_STATE) ++ [BitVec.ofNat 8 (d.rd SAF_OUT_ON)] ++ List.replicate 7 0
    let f := be 6 (d.haspMac c) ++ be 6 d.ident.mac ++ be 2 0x88B5 ++ body ++ be 4 (crc32c body)
    let d := (d.setHasp c { x with last := seq }).sendNets (f ++ List.replicate (60 - f.length) 0)
    ((d.wr SAF_HASPc_STAT_OK 1 c).wr SAF_HASPc_STAT_SEQ seq c).wr SAF_HASPc_DATA_INTERLOCK il c

def execHaspProduce (l : LeafId) (c : Fin 16) (s : State) : Host.Outcome State Fault Refusal := onLeaf l s (Leaf.haspProduce c.val)

/-- Bytes `off` to `off + n - 1` of a frame as a number, most significant first. -/
def beNum (f : List Byte) (off n : Nat) : Nat := ((f.drop off).take n).foldl (fun a b => a * 256 + b.toNat) 0

/-- A network port takes an untagged frame of an EtherType addressed to its own address or to a group address (log entry 75, DEDUCED). -/
def Leaf.netTakes (d : Leaf) (f : List Byte) (etype : Nat) : Bool :=
  d.safOn && 42 ≤ f.length && beNum f 12 2 = etype && (beNum f 0 6 = d.ident.mac || beNum f 0 1 % 2 = 1)

/-- A consuming connection judges a frame (R513, R514) (log entry 75, DEDUCED). -/
def Leaf.haspTake (f : List Byte) (d : Leaf) (c : Nat) : Leaf :=
  if !d.haspOpen c 0 || !(d.haspMac c = 0 || d.haspMac c = beNum f 6 6) then d
  else if crc32c ((f.drop 14).take 24) ≠ beNum f 38 4 then d.sat SAF_HASPc_ERR_CRC c
  else if beNum f 14 4 ≠ d.rd SAF_HASPc_IDENT_IDENT c then d.sat SAF_HASPc_ERR_IDENT c
  else if beNum f 22 1 ≠ 1 then d
  else
    let x := d.hasp c
    let seq := beNum f 18 4
    let diff := (seq + 2 ^ 32 - x.last) % 2 ^ 32
    if !x.resync && diff = 0 then d
    else if !x.resync && 2 ^ 31 < diff then d.sat SAF_HASPc_ERR_REPEAT c
    else
      let gap := !x.resync && diff ≠ 1
      let d := if gap then d.sat SAF_HASPc_ERR_GAP c else d
      let good := if x.resync || gap then 1 else min 3 (x.good + 1)
      let d := d.setHasp c ⟨seq, false, good, some d.tim.c⟩
      let d := (d.wr SAF_HASPc_STAT_SEQ seq c).wr SAF_HASPc_DATA_INTERLOCK (beNum f 24 2) c
      let d := if 3 ≤ good then d.wr SAF_HASPc_STAT_OK 1 c else d
      d

def Leaf.haspFrame (f : List Byte) (d : Leaf) : Leaf :=
  if d.netTakes f 0x88B5 then (List.range 16).foldl (Leaf.haspTake f) d else d

def execHaspFrame (l : LeafId) (_net : Fin 2) (frame : List Byte) (s : State) : Host.Outcome State Fault Refusal :=
  onLeaf l s (Leaf.haspFrame frame)

/-- The time expectation of a connection runs out, at the earliest 0.95 · T_EXP after its last accepted frame (R514). -/
def Leaf.haspExpired (c : Nat) (d : Leaf) : Leaf :=
  match (d.hasp c).timing with
  | some t =>
    if d.haspOpen c 0 && t + d.rd SAF_HASPc_CFG_TIME c * 760000 ≤ d.tim.c then
      let d := (d.setHasp c { d.hasp c with resync := true, good := 0, timing := none }).wr SAF_HASPc_STAT_OK 0 c
      ((d.safFlag SAF_STATUS_HASP_FAIL).raise 0x2903 .alarm c).safReact
    else d
  | none => d

def execHaspTimeExpectation (l : LeafId) (c : Fin 16) (s : State) : Host.Outcome State Fault Refusal := onLeaf l s (Leaf.haspExpired c.val)

/-! ## Trip orders (R515 to R517, Table 16.6) -/

/-- The repeats of the orders being sent. -/
def Leaf.orderRepeat (d : Leaf) : Leaf :=
  if !d.safOn then d
  else
    let d := d.saf.tx.foldl Leaf.sendOrder d
    { d with saf := { d.saf with tx := (d.saf.tx.map fun o => { o with next := o.next + 1 }).filter (·.next ≤ 2) } }

def execTripOrderRepeat (l : LeafId) (s : State) : Host.Outcome State Fault Refusal := onLeaf l s Leaf.orderRepeat

/-- Log entry 75, DEDUCED. -/
def Leaf.ordRx (d : Leaf) (r : Nat) : OrdRx := SMap.get {} d.saf.rx r
def Leaf.setRx (d : Leaf) (r : Nat) (x : OrdRx) : Leaf := { d with saf := { d.saf with rx := SMap.put {} d.saf.rx r x } }

/-- An order is executed: every group that names the receiver goes to DEMAND, except from DISCREPANT (R517). -/
def Leaf.execOrder (d : Leaf) (r seq : Nat) : Leaf :=
  let d := ((d.setRx r { d.ordRx r with last := some seq }).sat SAF_ORDr_STAT_EXECUTED r).safFlag SAF_STATUS_ORD_RX
  let d := (List.range 16).foldl (fun (d : Leaf) g =>
    if d.is SAF_GRPg_CFG_EN g && bitOf (d.rd SAF_GRPg_XMASK_ORDERS g) r && d.grpState g ≠ 3 then d.grpTo g 0 else d) d
  d.safOutputs

/-- An order mismatch at a receiver. -/
def Leaf.ordMismatch (d : Leaf) (r : Nat) : Leaf := (d.sat SAF_ORDr_STAT_MISMATCH r).safFlag SAF_STATUS_ORD_MISMATCH

/-- A copy reaches receiver `r` (R516, R517) (log entry 75, DEDUCED). -/
def Leaf.orderTake (net : Nat) (f : List Byte) (d : Leaf) (r : Nat) : Leaf :=
  if !d.is SAF_STATUS_LOCKED || !d.is SAF_ORDr_CFG_EN r || beNum f 14 4 ≠ d.rd SAF_ORDr_IDENT_IDENT r then d
  else if crc32c ((f.drop 14).take 24) ≠ beNum f 38 4 || beNum f 22 1 ≠ 1 then d.sat SAF_ORDr_STAT_ERRORS r
  else
    let seq := beNum f 18 4
    let body := (f.drop 14).take 9 ++ (f.drop 24).take 14
    let x := d.ordRx r
    let two := d.is SAF_ORDr_CFG_TWO_OF_TWO r
    let fresh := match x.last with
      | some q => let diff := (seq + 2 ^ 32 - q) % 2 ^ 32
        decide (1 ≤ diff) && decide (diff ≤ 2 ^ 31)
      | none => true
    match x.first with
    | some c =>
      if c.seq = seq then
        if c.body ≠ body then d.ordMismatch r
        else if c.net = net || c.matched || c.at_ + 1680000 < d.tim.c then d
        else
          let d := d.setRx r { x with first := some { c with matched := true } }
          if two then d.execOrder r seq else d
      else if fresh then
        let d := d.setRx r { x with first := some ⟨net, body, seq, d.tim.c, false⟩ }
        if two then d else d.execOrder r seq
      else d
    | none =>
      if fresh then
        let d := d.setRx r { x with first := some ⟨net, body, seq, d.tim.c, false⟩ }
        if two then d else d.execOrder r seq
      else d

def Leaf.orderFrame (net : Nat) (f : List Byte) (d : Leaf) : Leaf :=
  if d.netTakes f 0x88B6 then (List.range 8).foldl (Leaf.orderTake net f) d else d

def execTripOrderFrame (l : LeafId) (net : Fin 2) (frame : List Byte) (s : State) : Host.Outcome State Fault Refusal :=
  onLeaf l s (Leaf.orderFrame net.val frame)

/-- 2 ms (±5 %) without a matching copy (R517). -/
def Leaf.orderTimeout (r : Nat) (d : Leaf) : Leaf :=
  match (d.ordRx r).first with
  | some c =>
    if !d.safOn || c.matched || d.tim.c < c.at_ + 1520000 then d
    else if d.is SAF_ORDr_CFG_TWO_OF_TWO r then
      ((d.setRx r { d.ordRx r with first := none }).sat SAF_ORDr_STAT_SINGLE r).safFlag SAF_STATUS_ORD_MISMATCH
    else (d.setRx r { d.ordRx r with first := some { c with matched := true } }).ordMismatch r
  | none => d

def execTripOrderMatchTimeout (l : LeafId) (r : Fin 8) (s : State) : Host.Outcome State Fault Refusal := onLeaf l s (Leaf.orderTimeout r.val)

/-! ## The lock (R518) -/

/-- The LCK registers but SAF_CFG_CRC, in ascending offset order, as words. -/
def Leaf.lckWords (d : Leaf) : List Nat :=
  let word (fs : List Fld) (i : Nat) := fs.foldl (fun v f => v + d.rd f i * 2 ^ f.lo) 0
  [word [SAF_ORD_TX_IDENT] 0, word [SAF_ORD_TXMAC_LO_MAC] 0, word [SAF_ORD_TXMAC_HI_MAC] 0] ++
  ((List.range 32).map (word [SAF_INn_CFG_TD, SAF_INn_CFG_TYPE])) ++
  ((List.range 8).map (word [SAF_OUTn_CFG_MODE, SAF_OUTn_CFG_TEST_EN, SAF_OUTn_CFG_PERMIT, SAF_OUTn_CFG_RELEASE_S, SAF_OUTn_CFG_GROUPS])) ++
  ((List.range 16).flatMap fun g =>
    [word [SAF_GRPg_CFG_EN, SAF_GRPg_CFG_KIND, SAF_GRPg_CFG_BLOCK_EN, SAF_GRPg_CFG_SEND_EN, SAF_GRPg_CFG_AUTO, SAF_GRPg_CFG_RESET] g,
     word [SAF_GRPg_INMASK_PAIRS] g, word [SAF_GRPg_XMASK_ORDERS, SAF_GRPg_XMASK_HASP] g]) ++
  ((List.range 16).flatMap fun c =>
    [word [SAF_HASPc_CFG_EN, SAF_HASPc_CFG_DIR, SAF_HASPc_CFG_TIME, SAF_HASPc_CFG_INTERLOCK_SRC] c, word [SAF_HASPc_IDENT_IDENT] c,
     word [SAF_HASPc_MAC_LO_MAC] c, word [SAF_HASPc_MAC_HI_MAC] c]) ++
  ((List.range 8).flatMap fun r => [word [SAF_ORDr_CFG_EN, SAF_ORDr_CFG_TWO_OF_TWO] r, word [SAF_ORDr_IDENT_IDENT] r])

/-- What makes an enabled group's configuration bad (R518) (log entry 39, DEDUCED). -/
def Leaf.grpBad (d : Leaf) (g : Nat) : Bool :=
  let typ (i : Nat) := d.rd SAF_INn_CFG_TYPE i
  let ps := d.grpPairs g
  ps.any (typ · = 0) ||
  (match d.resetPair g with | some r => typ r = 0 || typ r = 3 || ps.contains r | none => false) ||
  (d.rd SAF_GRPg_CFG_KIND g ≠ 3 && ps.any (typ · = 3)) ||
  (d.twoHand g && !(ps.length = 2 && ps.all (typ · = 2))) ||
  (List.range 16).any (fun c => bitOf (d.rd SAF_GRPg_XMASK_HASP g) c && !(d.is SAF_HASPc_CFG_EN c && d.rd SAF_HASPc_CFG_DIR c = 0)) ||
  (List.range 8).any fun r => bitOf (d.rd SAF_GRPg_XMASK_ORDERS g) r && !d.is SAF_ORDr_CFG_EN r

/-- The configuration is bad (R518) (log entry 39, DEDUCED). -/
def Leaf.safBad (d : Leaf) : Bool :=
  d.rd SAF_CFG_CRC_NOW_CRC ≠ d.rd SAF_CFG_CRC_CRC ||
  (List.range 16).any (fun g => d.is SAF_GRPg_CFG_EN g && d.grpBad g) ||
  (List.range 8).any fun n => d.rd SAF_OUTn_CFG_MODE n = 2 && d.rd SAF_INn_CFG_TYPE (d.rd SAF_OUTn_CFG_PERMIT n) = 0

/-- The block starts from its locked configuration with every group in DEMAND (R519). -/
def Leaf.safStart (d : Leaf) : Leaf :=
  let run := d.is SAF_STATUS_LOCKED && !d.is SAF_STATUS_CFG_ERR && !d.is SAF_STATUS_CHAN_FAULT
  ((d.wr SAF_GRP_STATE_STATE 0).wr SAF_STATUS_RUNNING (b2n run)).safOutputs

/-- A write of SAF_CFG (R518). -/
def Leaf.safLock (val : Nat) (d : Leaf) : Leaf :=
  if !d.writable || !d.safOn || val % 2 = 0 || d.is SAF_STATUS_LOCKED then d
  else
    let d := ((d.wr SAF_CFG_LOCK 1).wr SAF_STATUS_LOCKED 1).wr SAF_CFG_CRC_NOW_CRC (crc32c (d.lckWords.flatMap (leBytes 4)))
    (d.wr SAF_STATUS_CFG_ERR (b2n d.safBad)).safStart

def execSafCfgLock (l : LeafId) (val : Word) (s : State) : Host.Outcome State Fault Refusal := onLeaf l s (Leaf.safLock val.toNat)

end Sys2Proof.Machine
end

