-- ==== Sys2Proof/Machine/PwrOps.lean ====
section
/-! DEFINITION. What a reset of a leaf or a concentrator keeps, the warm reset, and the boot of the firmware (19_power_reset_startup.md R575 to
R584, Tables 19.2 to 19.4). -/

namespace Sys2Proof.Machine
open Reg

/-- A bank with only the fields that `p` keeps, by offset and lowest bit. -/
def bankKeep (p : Nat → Nat → Bool) (b : SMap Nat) : SMap Nat := b.filter fun e => p (e.1 / 32) (e.1 % 32)

/-- The offset and the lowest bit are those of a copy of one of the fields. -/
def isOneOf (fs : List Fld) (off lo : Nat) : Bool := fs.any fun f => f.lo = lo && (f.copyAt off).isSome

/-- The anti-rollback store, and the marks of the flash, as registers (06_keying_image.md R241, 17_updates.md R532, R533, R540). -/
def storedFields : List Fld :=
  [KEY_FLOOR_FLOOR, KEY_FLOOR_LEFT_LEFT, UPD_HASP_ENROLLED, UPD_HASP_SET, UPD_HASP_LIFT_LO_HANDLE, UPD_HASP_LIFT_HI_HANDLE, UPD_Sk_FLOOR_FLOOR]

/-- The deadbolt latch with its code, and the reset counts (Table 19.3) (log entry 32, DEDUCED). -/
def latchFields : List Fld := [FLT_STATUS_DEADBOLT, FLT_DBOLT_CODE, FLT_DBOLT_VALID, PWR_CNT_WARM, PWR_CNT_PIN]

/-- LCK values and their locks (00_scope.md Table 0.7) (log entry 32, DEDUCED). -/
def lockedFields : List Fld := vcpFields.filter (·.acc = .lck) ++ [SAF_CFG_LOCK, PROF_CFG_LOCK, SAF_STATUS_LOCKED]

/-- What a warm reset keeps besides, field by field: the timebase, the reference selector, the readings of the supplies, the lines' levels
and the concentrators that were found on lanes that stay UP (log entry 32, DEDUCED). -/
def warmFields : List Fld :=
  [TIM_STATUS_UNSET, TIM_RATE_VALUE, TIM_CLK_REVERT, TIM_CLK_SEL_MODE, TIM_CLK_PREF, TIM_CLK_STATUS_HOLD_MS, TIM_CLK_STATUS_HOLD_EXPIRED,
   TIM_CLK_STATUS_HOLD_SEEN, TIM_CLK_STATUS_SWITCHED, TIM_CLK_STATUS_STATE, TIM_CLK_STATUS_QUAL_B, TIM_CLK_STATUS_QUAL_A, PWR_STATUS_AUX_LOW,
   PWR_RAILS_IN_WINDOW, PWR_VHOLD_MV, FLT_LINES_LEVEL, FLT_RING_HELD, FLT_RING_OPEN, FLT_REC_SEL_HEAD, DISC_CONC_FOUND_LO_MAP, DISC_CONC_FOUND_HI_MAP]

/-- The blocks that a warm reset leaves as they are: the lanes, the safety block, and the cell table but for SLOT_STATE (R388, R519) (log entry 32, DEDUCED). -/
def warmBlock (off lo : Nat) : Bool :=
  (0x220000 ≤ off && off < 0x230200) || (0x290000 ≤ off && off < 0x2A0000) || (0x400000 ≤ off && !isOneOf [CT_SLOT_STATE] off lo)

/-! ## The stores of a leaf after a reset -/

/-- What lies in flash and in the always-on store (Table 19.3); the jobs of the update engine end. -/
def Leaf.keptUpd (d : Leaf) : Upd := { d.upd with dist := [], waves := [], acts := [], fwWait := false, ownerBad := false }

/-- The MRAM, from which the journal buffer is rebuilt (12_host_interface_and_handles.md R410, R411). -/
def Leaf.keptHnd (d : Leaf) : Hnd := { mram := d.hnd.mram, jnext := d.hnd.jnext }

/-- The registers that show the stores. -/
def Leaf.showStores (d : Leaf) : Leaf := [1, 2, 3, 4].foldl Leaf.showSess d.showWards.showPtrs

/-! ## Full power-on, core power-on and pin reset (R575 to R577) -/

/-- A leaf in a power-on or pin reset: what `p` keeps of the registers, the stores, and nothing else. Every safe output is off, and
DEADBOLT_N follows the latch (R576). -/
def Leaf.powerReset (p : Nat → Nat → Bool) (d : Leaf) : Leaf :=
  let outs := (List.range 8).filter fun n => bitOf (d.rd SAF_OUT_ON) n
  let n : Leaf := { ident := d.ident, out := d.out, freeIdx := d.freeIdx, bank := bankKeep p d.bank, upd := d.keptUpd, hnd := d.keptHnd }
  let n := outs.foldl (fun n i => n.emit (.safeOut i false)) n.showStores
  let n := if n.is FLT_STATUS_DEADBOLT then { n with conv := { n.conv with boltPend := true } } else n
  n.emit (.pin "DEADBOLT_N" (b2n (!n.is FLT_STATUS_DEADBOLT)))

/-- VDD_AON fell below its threshold: everything but fuses and stores is cleared (Table 19.3). -/
def Leaf.fullReset (d : Leaf) : Leaf := d.powerReset (isOneOf storedFields)

/-- Another rail fell below its threshold. -/
def Leaf.coreReset (d : Leaf) : Leaf :=
  ((d.powerReset (isOneOf (storedFields ++ latchFields))).sat PWR_CNT_PIN).wr PWR_STATUS_CAUSE 1

/-- RESET_N is low: the LCK values and their locks stay (R575). -/
def Leaf.pinReset (d : Leaf) : Leaf :=
  let d := ((d.powerReset (isOneOf (storedFields ++ latchFields ++ lockedFields))).sat PWR_CNT_PIN).wr PWR_STATUS_CAUSE 2
  { d with pwr := { d.pwr with held := true } }

/-- RESET_N is high again: the block of the safety functions starts from its locked configuration (R519, R577). -/
def Leaf.pinRelease (d : Leaf) : Leaf :=
  if d.pwr.held then { d.safStart with pwr := { d.pwr with held := false, step := 2, upAt := d.tim.c } } else d

/-! ## The warm reset (R578, R579) -/

/-- A warm reset with its cause: 3 by command, 4 by activation, 5 by trial fallback (Table 19.7) (log entry 32, DEDUCED). -/
def Leaf.warmReset (cause : Nat) (d : Leaf) : Leaf :=
  let d := if d.hasRec then d.recHalt else d
  let keep (off lo : Nat) := isOneOf (storedFields ++ latchFields ++ lockedFields ++ warmFields) off lo || warmBlock off lo
  let tiles := d.tiles.map fun t => (t.1, { t.2 with run := none, pc := 0, spent := 0 })
  let n : Leaf :=
    { ident := d.ident, out := d.out, freeIdx := d.freeIdx, lanes := d.lanes, bank := bankKeep keep d.bank, upd := d.keptUpd, hnd := d.keptHnd,
      flt := d.flt, saf := d.saf, tiles := tiles,
      tim := { c := d.tim.c, holdFrom := d.tim.holdFrom, ofs := d.tim.ofs, cyc := d.tim.cyc, meas := d.tim.meas, slips := d.tim.slips, starts := d.tim.starts, gerr := d.tim.gerr },
      key := { keptState := d.key.active.map (·.stateHash) }, disc := { caps := d.disc.caps, partnerSn := d.disc.partnerSn },
      rcd := { mem := d.rcd.mem, segs := d.rcd.segs, closing := d.rcd.closing }, sch := (d.schReset true).sch,
      hng := { partner := d.hng.partner }, conv := { since := d.tim.cyc, boltPend := d.is FLT_STATUS_DEADBOLT }, pwr := { step := 3, upAt := d.tim.c } }
  let n := (((n.showStores.sat PWR_CNT_WARM).wr PWR_STATUS_CAUSE cause).wr PWR_STATUS_STAGE 1).wr HNG_STATUS_PARTNER_UP (n.rd MIR_STATUS_UP)
  (if n.hasRec then n.recShow else n).fltRefresh

/-! ## The boot ROM (R536, R539, R559, R581) -/

/-- A lane leaves DISABLED when the firmware enables it (Table 10.8). -/
def enableLane (base : Nat) (b : SMap Nat) : SMap Nat := lnFrom 0 base 1 (lnWr base XX_CTL_EN 1 b)

/-- The firmware enables the mirror lanes and every uplink (step 4); a lane that is UP has settled. -/
def Leaf.enableLanes (d : Leaf) : Leaf :=
  let bases : List (Nat × Nat) := (List.range 48).map (fun n => (n, 0x220000 + 1024 * n)) ++ (List.range 4).map (fun i => (48 + i, 0x230100 + 64 * i))
  let d := { d with bank := bases.foldl (fun b (x : Nat × Nat) => enableLane x.2 b) d.bank }
  { d with pwr := { d.pwr with settled := (bases.filter fun x => lnState d.bank x.2 = 7).map (·.1) } }

/-- The boot ROM chooses the firmware ward, and the firmware starts and enables the lanes; with no valid image the leaf stays in its boot
ROM (R536, R581, R582). Step 4 has no event of its own, so STAGE 2 is passed within this one (log entry 32, DEDUCED). -/
def Leaf.bootRom (d : Leaf) : Leaf :=
  if d.pwr.step ≠ 3 then d
  else
    let named := d.bootPtr
    let r := d.upd.boot.boot d.fwWard fun b => (d.fwWard b).bootable d.ident.revoked (d.rd UPD_Sk_FLOOR_FLOOR 0)
    let d := ({ d with upd := { d.upd with boot := r.1 } }).showPtrs
    match r.2 with
    | none => { d with pwr := { d.pwr with step := 0 } }.wr PWR_STATUS_STAGE 6
    | some b =>
      let v := pkVersion (d.fwWard b).hdr
      let d := { d with upd := { d.upd with running := v }, pwr := { d.pwr with step := 5 } }.wr ID_FW_VER_VERSION v
      let d := d.enableLanes.wr PWR_STATUS_STAGE 3
      let d := if b ≠ named || d.rd PWR_STATUS_CAUSE = 5 then (d.wr UPD_STATUS_FELL_BACK 1).raise 0x2A01 .alarm 0 0 1 else d
      d.stepLanes

/-! ## Concentrators (R576, R577, R584) -/

/-- A concentrator in reset: what `p` keeps of its registers, its flash, and nothing else. -/
def Concentrator.powerReset (p : Nat → Nat → Bool) (d : Concentrator) : Concentrator :=
  let n : Concentrator := { ident := d.ident, out := d.out, freeIdx := d.freeIdx, bank := bankKeep p d.bank,
                            fw := { d.fw with up := false, hdrFrags := [], dataFrags := [] } }
  n.showFw

def concStored : List Fld := [AID_FW_STATUS_FELL_BACK, AID_FW_FLOOR_FLOOR]

def Concentrator.fullReset (d : Concentrator) : Concentrator := d.powerReset (isOneOf concStored)
def Concentrator.coreReset (d : Concentrator) : Concentrator := d.powerReset (isOneOf (AFLT_STATUS_DEADBOLT :: concStored))

/-- The firmware starts: both uplinks and every cell port are enabled, with grant NONE; with no valid image the uplinks stay out of UP
(R536, R584). -/
def Concentrator.start (d : Concentrator) : Concentrator :=
  if d.fw.up then d
  else
    let d := d.onFw (PartFw.boot d.ident.revoked (d.rd AID_FW_FLOOR_FLOOR))
    if !d.fw.up then d
    else
      let ports := if d.ident.variant = 1 then 256 else 128
      let bases := [0x400, 0x440] ++ (List.range ports).map (0x4000 + 64 * ·)
      { d with bank := bases.foldl (fun b x => enableLane x b) d.bank }.wr AGRT_STATUS_GRANT 2

end Sys2Proof.Machine
end

