-- ==== Sys2Proof/Machine/UpdParts.lean ====
section
/-! DEFINITION. UPDATE frames at a concentrator and at a cell, the relay of packages to the cells, and the wakes of a cell (17_updates.md R542 to
R548; 09_cell_measurement_and_sleep.md R344, R345). -/

namespace Sys2Proof.Machine
open Reg

/-- The OP codes of R547. -/
def opDATA : Nat := 0
def opHEADER : Nat := 1
def opSELECT : Nat := 2
def opVERIFY : Nat := 3
def opACTIVATE : Nat := 4
def opCONFIRM : Nat := 5
def opABORT : Nat := 6
def opFLOOR : Nat := 7

/-- Bytes as a number, the first on top (log entry 50, DESIGN CHOICE). -/
def topNum (l : List Byte) : Nat := l.foldl (fun a b => a * 256 + b.toNat) 0

/-- The body of a cell-lane UPDATE frame (Table 17.6), bit 0 of the body being bit 16 of the frame. -/
def cellUpd (op : Nat) (u : UpdFrame) : Nat :=
  op * 2 ^ 216 + u.index * 2 ^ 200 + u.frag * 2 ^ 192 + u.session * 2 ^ 160 + (if op = opFLOOR then u.words.headD 0 else topNum u.data) * 2 ^ 32 + u.crc

/-- A fast-lane frame as cell-lane frames: a fragment of 64 bytes is four of 16 (R547) (log entry 50, DESIGN CHOICE). -/
def cellFrags (op : Nat) (u : UpdFrame) : List UpdFrame :=
  if op = opDATA || op = opHEADER then
    (List.range 4).map fun i =>
      { u with frag := 4 * u.frag + i, data := (u.data.drop (16 * i)).take 16, crc := if op = opDATA && 4 * u.frag + i = 255 then u.crc else 0 }
  else [u]

/-! ## The concentrator (R542, R543) -/

/-- A frame goes to every selected port. -/
def Concentrator.relayOut (n : Conc) (op : Nat) (u : UpdFrame) (d : Concentrator) : Concentrator :=
  ((List.finRange 256).filter fun p => bitOf d.relayMask p.val).foldl (fun d p =>
    (cellFrags op u).foldl (fun d f => d.emit (.frame (.port n p) 9 [cellUpd op f])) d) d

/-- The frames at the head of the relay that go out together: those before the next piece, and that piece (log entry 50, DESIGN CHOICE). -/
def takePiece : List (Nat × UpdFrame) → List (Nat × UpdFrame) × List (Nat × UpdFrame)
  | [] => ([], [])
  | (op, u) :: r =>
    if op = opDATA then ((op, u) :: r.takeWhile (fun x => x.1 = opDATA && x.2.index = u.index), r.dropWhile (fun x => x.1 = opDATA && x.2.index = u.index))
    else let x := takePiece r; ((op, u) :: x.1, x.2)

/-- The concentrator sends the next piece to each selected port (R543). -/
def Concentrator.pieceSend (n : Conc) (d : Concentrator) : Concentrator :=
  let x := takePiece d.relay
  x.1.foldl (fun d f => d.relayOut n f.1 f.2) { d with relay := x.2 }

/-- A frame with DEST 1: the header, the pieces and the VERIFY after them keep their order; the others go out at once, and an ABORT ends
what waits. -/
def Concentrator.relayFrame (n : Conc) (op : Nat) (u : UpdFrame) (d : Concentrator) : Concentrator :=
  if op = opABORT then { d with relay := [] }.relayOut n op u
  else if op = opDATA || ((op = opHEADER || op = opVERIFY) && !d.relay.isEmpty) then { d with relay := d.relay ++ [(op, u)] }
  else d.relayOut n op u

/-- A fast-lane UPDATE frame arrives: DEST 1 is for the cells (R547). A latched concentrator drops it (14_faults.md R464). -/
def Concentrator.update (n : Conc) (op : Nat) (u : UpdFrame) (own : Concentrator → Concentrator) (d : Concentrator) : Concentrator :=
  if d.is AFLT_STATUS_DEADBOLT || !d.fw.up then d else if u.dest then d.relayFrame n op u else own d

/-- The port mask of SELECT: port p in word p/32, bit p mod 32. -/
def portMask (ws : List Nat) : Nat := (ws.take 8).foldr (fun w a => w % 2 ^ 32 + 2 ^ 32 * a) 0

/-- The concentrator restarts on the bank that its pointer names: as after a reset, with the latch kept (R542). -/
def Concentrator.restart (d : Concentrator) : Concentrator := d.coreReset

/-- ACTIVATE takes effect, and the concentrator restarts. -/
def Concentrator.activate (u : UpdFrame) (d : Concentrator) : Concentrator :=
  if d.fw.canActivate u then (d.onFw PartFw.activate).restart else d

/-- A TRIAL of a concentrator has expired (R537). -/
def Concentrator.fallBackFw (d : Concentrator) : Concentrator :=
  if d.moving then { d with fw := { d.fw with fallbackWait := true } }
  else ((d.onFw fun f => { f.fallBack with fallbackWait := false }).wr AID_FW_STATUS_FELL_BACK 1).restart

/-- A fallback that waits takes place at the first state in which the converter does not move. -/
def Concentrator.judgeFallback (d : Concentrator) : Concentrator := if d.fw.fallbackWait && !d.moving then d.fallBackFw else d

/-! ## The cell (R545) -/

/-- An UPDATE frame arrives at a cell that runs; a latched one drops it (14_faults.md R464). -/
def Cell.update (own : Cell → Cell) (d : Cell) : Cell := if d.pow = .run && !d.is CFLT_STATUS_DEADBOLT then own d else d

/-- ACTIVATE: the cell refuses while its supply is low, and acts in READY and SIL_BLOCKED (R531, R545). -/
def Cell.activate (u : UpdFrame) (d : Cell) : Cell :=
  if !d.fw.canActivate u then d
  else if d.is CUPD_STATUS_AUX_LOW then d.wr CUPD_STATUS_ACT_REFUSED 1
  else if d.sw.st = .ready || d.sw.st = .silBlocked then (d.onFw PartFw.activate).beginRestart
  else d

/-- The cell's floor, and a concentrator's, only rise (R540). -/
def Cell.raiseFloor (v : Nat) (d : Cell) : Cell := d.wr CUPD_FLOOR_FLOOR (max v (d.rd CUPD_FLOOR_FLOOR))
def Concentrator.raiseFloor (v : Nat) (d : Concentrator) : Concentrator := d.wr AID_FW_FLOOR_FLOOR (max v (d.rd AID_FW_FLOOR_FLOOR))

/-- The outcome of an UPDATE frame at the part it addresses; a leaf receives none. -/
def onUpdate (p : Part) (op : Nat) (u : UpdFrame) (s : State) (g : Concentrator → Concentrator) (h : Cell → Cell) : Host.Outcome State Fault Refusal :=
  onPart p s id (fun d => match p with | .conc n => d.update n op u g | _ => d) (Cell.update h)

def execUpdateData (part : Part) (u : UpdFrame) (s : State) : Host.Outcome State Fault Refusal :=
  onUpdate part opDATA u s (Concentrator.onFw (PartFw.data 64 u)) (Cell.onFw (PartFw.data 256 u))

def execUpdateHeader (part : Part) (u : UpdFrame) (s : State) : Host.Outcome State Fault Refusal :=
  onUpdate part opHEADER u s (fun d => d.onFw (PartFw.header d.ident.revoked 3 8 (d.rd AID_FW_FLOOR_FLOOR) u))
    (fun d => d.onFw (PartFw.header d.ident.revoked 4 32 (d.rd CUPD_FLOOR_FLOOR) u))

def execUpdateSelect (part : Part) (u : UpdFrame) (s : State) : Host.Outcome State Fault Refusal :=
  onPart part s id (fun d => if d.is AFLT_STATUS_DEADBOLT || !d.fw.up then d else { d with relayMask := portMask u.words }) id

def execUpdateVerify (part : Part) (u : UpdFrame) (s : State) : Host.Outcome State Fault Refusal :=
  onUpdate part opVERIFY u s (Concentrator.onFw (PartFw.verify u)) (Cell.onFw (PartFw.verify u))

def execUpdateActivate (part : Part) (u : UpdFrame) (s : State) : Host.Outcome State Fault Refusal :=
  onUpdate part opACTIVATE u s (Concentrator.activate u) (Cell.activate u)

def execUpdateConfirm (part : Part) (u : UpdFrame) (s : State) : Host.Outcome State Fault Refusal :=
  onUpdate part opCONFIRM u s (Concentrator.onFw fun f => { f with ptr := f.ptr.confirm }) (Cell.onFw fun f => { f with ptr := f.ptr.confirm })

def execUpdateAbort (part : Part) (u : UpdFrame) (s : State) : Host.Outcome State Fault Refusal :=
  onUpdate part opABORT u s (Concentrator.onFw (PartFw.abort u)) (Cell.onFw (PartFw.abort u))

def execUpdateFloor (part : Part) (u : UpdFrame) (s : State) : Host.Outcome State Fault Refusal :=
  onUpdate part opFLOOR u s (Concentrator.raiseFloor (u.words.headD 0)) (Cell.raiseFloor (u.words.headD 0))

def execDistributionPieceSend (n : Conc) (s : State) : Host.Outcome State Fault Refusal :=
  onConc n s fun d => if d.is AFLT_STATUS_DEADBOLT || !d.fw.up then d else d.pieceSend n

/-- The restart of a cell for new firmware ends (R545). -/
def execUpdateRestartDone (c : CellId) (s : State) : Host.Outcome State Fault Refusal :=
  onCell c s fun d => d.runs fun d => if d.restarting then d.endRestart else d

/-! ## Wakes -/

/-- VDD33 is qualified: a cell without valid retention wakes from off (09_cell_measurement_and_sleep.md R344). -/
def execWakeFromOff (c : CellId) (s : State) : Host.Outcome State Fault Refusal :=
  onCell c s fun d => if d.pow ≠ .run && !d.retValid && !d.held then d.wakeFromOff c else d

/-- VDD33 is qualified: a sleeping cell with valid retention wakes from sleep (R345). -/
def execWakeFromSleep (c : CellId) (s : State) : Host.Outcome State Fault Refusal :=
  onCell c s fun d => if d.pow = .sleep && d.retValid && !d.held then d.wakeFromSleep c else d

end Sys2Proof.Machine
end

