-- ==== Sys2Proof/Machine/ConcPath.lean ====
section
/-! DEFINITION. The command path of a concentrator: command sets, hold last, the grant, the control slots, and the records and sums of its
cells (01_architecture.md R29, R30; 03_control_cycle.md R100 to R112; 04_tumblers_and_arm_modulation.md R157, R158;
10_flenor_links.md R356 to R362; 13_the_hinge.md R436 to R438; 14_faults.md R462, R464). -/

namespace Sys2Proof.Machine
open Reg

/-! ## Map pages (06_keying_image.md R230) -/

def portType (pg : Nat) : Fld := if pg = 0 then APRTp_ENTRY0_TYPE else APRTp_ENTRY1_TYPE
def portElig (pg : Nat) : Fld := if pg = 0 then APRTp_ENTRY0_ELIG else APRTp_ENTRY1_ELIG
def portOfs (pg : Nat) : Fld := if pg = 0 then APRTp_ENTRY0_LATCH_OFS else APRTp_ENTRY1_LATCH_OFS

/-- The page whose tag is `tag`. -/
def Concentrator.pageOf (d : Concentrator) (tag : Nat) : Option Nat :=
  if d.rd AUPL_TAG0_TAG = tag then some 0 else if d.rd AUPL_TAG1_TAG = tag then some 1 else none

/-- The cell ports of a variant (00_scope.md Table 0.2). -/
def Concentrator.ports (d : Concentrator) : Nat := if d.ident.variant = 2 then 128 else 256

/-- A port is mapped on a page: TYPE 1 or 2. -/
def Concentrator.isMapped (d : Concentrator) (pg p : Nat) : Bool := d.rd (portType pg) p = 1 || d.rd (portType pg) p = 2

/-- The mapped ports of a page, ascending. -/
def Concentrator.mappedPorts (d : Concentrator) (pg : Nat) : List Nat := (List.range d.ports).filter (d.isMapped pg)

/-! ## The grant (13_the_hinge.md R436 to R438) -/

/-- `a` lies at or after `b`, on numbers modulo 65,536. -/
def atOrAfter (a b : Nat) : Bool := (a + 65536 - b) % 65536 < 32768

def Concentrator.seen (d : Concentrator) (u : Nat) : Option (Nat × Bool) := if u = 0 then d.sw.seen0 else d.sw.seen1

/-- A leaf is available (R436): its uplink is UP, and its latest frame of a publish deadline, of the last two cycles, says so. -/
def Concentrator.available (n : Conc) (u : Nat) (d : Concentrator) : Bool :=
  d.laneUp (.uplinkConc n (if u = 0 then .leaf0 else .leaf1)) &&
    (match d.seen u with
     | some x => x.2 && (match d.sw.passed with | some m => atOrAfter (x.1 + 1) m | none => true)
     | none => false)

/-- AVAIL0 and AVAIL1 (Table 13.14). -/
def Concentrator.showAvail (n : Conc) (d : Concentrator) : Concentrator :=
  (d.wr AGRT_STATUS_AVAIL0 (b2n (d.available n 0))).wr AGRT_STATUS_AVAIL1 (b2n (d.available n 1))

/-- The first latch cycle whose replay instant has not passed. -/
def Concentrator.nextLatch (d : Concentrator) : Nat := match d.sw.passed with | some m => (m + 1) % 65536 | none => d.cyc % 65536

/-- A grant block on both uplinks (R438, Table 13.8). -/
def Concentrator.sendGrant (n : Conc) (d : Concentrator) : Concentrator :=
  let g : GrantMsg := { grant := d.rd AGRT_STATUS_GRANT, miss := d.rd AGRT_STATUS_MISS, replays := d.rd AGRT_STATUS_REPLAYS, cycle := d.nextLatch,
                        moves := d.rd AGRT_CNT_MOVES % 256 }
  let send (u : LeafId) (d : Concentrator) := if d.laneUp (.uplinkConc n u) then d.log (.grant (.uplinkConc n u) g) else d
  send .leaf1 (send .leaf0 d)

/-- The grant changes to leaf 0 or 1 with a cause of Table 13.14, from latch cycle `m` on; the root follows it (02_clocks_and_time.md R56).
Under the deadbolt latch the grant stays (14_faults.md R464) (log entry 61, DEDUCED). -/
def Concentrator.moveGrant (n : Conc) (g cause m : Nat) (d : Concentrator) : Concentrator :=
  if d.is AFLT_STATUS_DEADBOLT then d
  else
    let d := ((d.wr AGRT_STATUS_GRANT g).wr AGRT_STATUS_MISS 0).wr AGRT_STATUS_PEND_VALID 0
    let d := ((d.wr AGRT_LAST_CYCLE m).wr AGRT_LAST_CAUSE cause).wr AGRT_STATUS_MOVED 1
    ((d.sat AGRT_CNT_MOVES).raise n 0x5602 .note 0 cause).followRoot n |>.sendGrant n

/-- The grant goes to NONE (Table 13.7), but not under the deadbolt latch (14_faults.md R464). -/
def Concentrator.dropGrant (n : Conc) (d : Concentrator) : Concentrator :=
  if d.is AFLT_STATUS_DEADBOLT then d else (((d.wr AGRT_STATUS_GRANT 2).wr AGRT_STATUS_PEND_VALID 0).followRoot n).sendGrant n

/-! ## Frames of the leaves -/

/-- A frame that is discarded and counted (log entry 60, DEDUCED). -/
def Concentrator.misfit (n : Conc) (u : LeafId) (d : Concentrator) : Concentrator := d.sat (XX_DROP_CTRL_BAD.at (laneBase (.uplinkConc n u)))

/-- The leaf's latest frame sent at a publish deadline, by the latch cycle of that deadline. -/
def Concentrator.sawFrame (n : Conc) (u : LeafId) (m : Nat) (ok : Bool) (d : Concentrator) : Concentrator :=
  ({ d with sw := if u = LeafId.leaf0 then { d.sw with seen0 := some (m, ok) } else { d.sw with seen1 := some (m, ok) } }).showAvail n

/-- The latch cycle's replay instant has passed (R111) (log entry 62, DEDUCED). -/
def Concentrator.isPast (d : Concentrator) (m : Nat) : Bool := match d.sw.passed with | some p => atOrAfter p m | none => false

/-- Words of leaf `u` for latch cycle `m` may be fanned out (01_architecture.md R30) (log entry 62, DEDUCED). -/
def Concentrator.mayUse (d : Concentrator) (u : LeafId) (m : Nat) : Bool :=
  let g := d.rd AGRT_STATUS_GRANT
  g = u.num || g = 2 || (d.is AGRT_STATUS_PEND_VALID && atOrAfter m (d.rd AGRT_PEND_EFFECTIVE))

/-- BLOCK_IN of a leaf is asserted (lines 1 and 2 of Table 14.11). -/
def Concentrator.blockIn (d : Concentrator) (u : Nat) : Bool := bitOf (d.rd AFLT_LINES_LEVEL) (u + 1)

/-- The slips of a header's plan (Table 4.5): the eight cycles after LATCH_CYCLE. -/
def planSlips (m plan : Nat) (s : SMap Nat) : SMap Nat :=
  (List.range 8).foldl (fun s i => SMap.put 0 s ((m + 1 + i) % 65536) (plan / 4 ^ i % 4)) s

/-- A valid command is held (R436): it replaces one of the same leaf and latch cycle. A set that may be fanned out brings its slip plan and
cut-off, and ends the block of R462 once the line is gone (log entry 85, DEDUCED). -/
def Concentrator.hold (n : Conc) (u : LeafId) (hdr : Nat) (x : HeldSet) (d : Concentrator) : Concentrator :=
  let held := (d.sw.held.filter fun y => !(y.leaf = x.leaf && y.cycle = x.cycle)) ++ [x]
  let d := { d with sw := { d.sw with held := held } }
  let d := if x.use then
      { d with sw := { d.sw with slips := planSlips x.cycle (bits hdr 95 80) d.sw.slips, cutoff := bits hdr 79 64,
                                 blockHold := d.sw.blockHold && (x.skip || d.blockIn (d.rd AGRT_STATUS_GRANT)) } }
    else d
  (d.sawFrame n u x.cycle true)

/-- COMMAND_SET: judged under R158 and R111; one that is discarded is no valid command, and the leaf is not available by it (R436). A set of the leaf without the grant counts for that leaf's availability only (R30) (log entry 62, DEDUCED). -/
def Concentrator.commandSet (n : Conc) (u : LeafId) (hdr : Nat) (words : List Nat) (d : Concentrator) : Concentrator :=
  let m := bits hdr 111 96
  let tag := bits hdr 63 32
  let count := bits hdr 31 16
  let block := tag = 0 && count = 0
  let pg := d.pageOf tag
  let ports := match pg with | some g => d.mappedPorts g | none => []
  if !d.laneUp (.uplinkConc n u) then d
  else if bits hdr 127 124 ≠ 1 then d.misfit n u
  else if !block && (pg.isNone || count ≠ ports.length || words.length ≠ count) then ((d.misfit n u).raise n 0x5403 .note u.num).sawFrame n u m false
  else if d.isPast m then (d.misfit n u).sawFrame n u m false
  else
    let use := d.mayUse u m
    let d := if use then d else d.misfit n u
    let d := match pg with | some g => if use && !block then { d with sw := { d.sw with page := g } } else d | none => d
    d.hold n u hdr { leaf := u.num, cycle := m, skip := false, use := use, block := block, conv := bits hdr 123 120,
                     words := if block then [] else ports.zip words }

def execCommandSet (n : Conc) (u : LeafId) (hdr : BitVec 128) (words : List (BitVec 16)) (s : State) : Host.Outcome State Fault Refusal :=
  onConc n s (Concentrator.commandSet n u hdr.toNat (words.map (·.toNat)))

/-- SKIP (03_control_cycle.md R106): a valid command without words (log entry 60, DEDUCED). -/
def Concentrator.skip (n : Conc) (u : LeafId) (hdr : Nat) (d : Concentrator) : Concentrator :=
  let m := bits hdr 111 96
  if !d.laneUp (.uplinkConc n u) then d
  else if bits hdr 127 124 ≠ 2 then d.misfit n u
  else if (d.pageOf (bits hdr 63 32)).isNone && bits hdr 63 32 ≠ 0 then ((d.misfit n u).raise n 0x5403 .note u.num).sawFrame n u m false
  else if d.isPast m then (d.misfit n u).sawFrame n u m false
  else
    let use := d.mayUse u m
    (if use then d else d.misfit n u).hold n u hdr { leaf := u.num, cycle := m, skip := true, use := use, block := false, conv := bits hdr 123 120, words := [] }

def execSkip (n : Conc) (u : LeafId) (hdr : BitVec 128) (s : State) : Host.Outcome State Fault Refusal := onConc n s (Concentrator.skip n u hdr.toNat)

/-- ARM_INFO (10_flenor_links.md R356). -/
def Concentrator.armInfo (n : Conc) (u : LeafId) (body : Nat) (d : Concentrator) : Concentrator :=
  let m := bits body 59 44
  let i := bits body 31 0
  if !d.laneUp (.uplinkConc n u) then d
  else if bits body 63 60 ≠ 7 || !d.mayUse u m then d.misfit n u
  else
    { d with sw := { d.sw with iarm := i, iarms := (d.sw.iarms.filter fun x => !(x.1 = u.num && x.2.1 = m) && !d.isPast x.2.1) ++ [(u.num, m, i)] } }

def execArmInfo (n : Conc) (u : LeafId) (body : BitVec 64) (s : State) : Host.Outcome State Fault Refusal := onConc n s (Concentrator.armInfo n u body.toNat)

/-- STANDBY (13_the_hinge.md Table 13.3): the leaf is available while it is standing by. -/
def Concentrator.standby (n : Conc) (u : LeafId) (hdr : Nat) (d : Concentrator) : Concentrator :=
  if !d.laneUp (.uplinkConc n u) then d
  else if bits hdr 127 124 ≠ 5 then d.misfit n u
  else d.sawFrame n u ((bits hdr 111 96 + 2) % 65536) (bitOf hdr 118)

def execStandby (n : Conc) (u : LeafId) (hdr : BitVec 128) (s : State) : Host.Outcome State Fault Refusal := onConc n s (Concentrator.standby n u hdr.toNat)

/-- RELEASE (Table 13.7): ignored from the leaf that does not hold the grant; PLANNED stores EFFECTIVE. -/
def Concentrator.release (n : Conc) (u : LeafId) (frame : Nat) (d : Concentrator) : Concentrator :=
  if !d.laneUp (.uplinkConc n u) then d
  else if bits frame 127 124 ≠ 6 then d.misfit n u
  else if d.rd AGRT_STATUS_GRANT ≠ u.num then d
  else
    let d := d.sat AGRT_CNT_RELEASES
    if bitOf frame 118 then (d.wr AGRT_PEND_EFFECTIVE (bits frame 111 96)).wr AGRT_STATUS_PEND_VALID 1
    else if d.available n (1 - u.num) then d.moveGrant n (1 - u.num) 1 d.nextLatch
    else d.dropGrant n

def execReleaseFrame (n : Conc) (u : LeafId) (frame : BitVec 128) (s : State) : Host.Outcome State Fault Refusal :=
  onConc n s (Concentrator.release n u frame.toNat)

/-! ## The replay instant (03_control_cycle.md R110 to R112; 13_the_hinge.md Table 13.7) -/

/-- Leaf `u` has given a valid command for latch cycle `m`. -/
def Concentrator.gave (d : Concentrator) (u m : Nat) : Bool := d.sw.held.any fun x => x.leaf = u && x.cycle = m

/-- The pending planned move, at the replay instant of its EFFECTIVE (log entry 61, DEDUCED). -/
def Concentrator.plannedMove (n : Conc) (m : Nat) (d : Concentrator) : Concentrator :=
  let g := d.rd AGRT_STATUS_GRANT
  if d.is AGRT_STATUS_PEND_VALID && d.rd AGRT_PEND_EFFECTIVE = m && g ≤ 1 then
    let d := d.wr AGRT_STATUS_PEND_VALID 0
    if d.available n (1 - g) then d.moveGrant n (1 - g) 3 m else d
  else d

/-- A grant of NONE takes the leaf that gave a valid command, leaf 0 before leaf 1 (log entry 61, DEDUCED). -/
def Concentrator.firstGrant (n : Conc) (m : Nat) (d : Concentrator) : Concentrator :=
  if d.rd AGRT_STATUS_GRANT ≠ 2 then d
  else if d.gave 0 m then d.moveGrant n 0 0 m
  else if d.gave 1 m then d.moveGrant n 1 0 m
  else d

/-- MISS counts the latch cycles without a valid command from the granted leaf (log entry 61, DEDUCED). -/
def Concentrator.countMiss (m : Nat) (d : Concentrator) : Concentrator :=
  let g := d.rd AGRT_STATUS_GRANT
  if g = 2 then d else d.wr AGRT_STATUS_MISS (if d.gave g m then 0 else min 3 (d.rd AGRT_STATUS_MISS + 1))

/-- The set for latch cycle `m` is chosen, or the cycle is a replay. -/
def Concentrator.choose (m : Nat) (d : Concentrator) : Concentrator :=
  let g := d.rd AGRT_STATUS_GRANT
  let cur := d.sw.held.find? fun x => x.leaf = g && x.cycle = m && x.use && !x.skip
  let d := { d with sw := { d.sw with cur := cur, held := d.sw.held.filter fun x => !atOrAfter m x.cycle } }
  match cur with
  | some _ => (d.wr AGRT_STATUS_REPLAYS 0).wr AGRT_STATUS_BLOCKING 0
  | none => d.sat AGRT_STATUS_REPLAYS

/-- The replay instant of latch cycle `m` (log entry 85, DEDUCED). -/
def Concentrator.replayInstant (n : Conc) (m : Nat) (d : Concentrator) : Concentrator :=
  let m := m % 65536
  if d.isPast m then d
  else
    let d := { d with sw := { d.sw with passed := some m } }
    ((((d.plannedMove n m).firstGrant n m).countMiss m).choose m).showAvail n

def execReplayInstant (n : Conc) (m : Nat) (s : State) : Host.Outcome State Fault Refusal := onConc n s (Concentrator.replayInstant n m)

/-- The fifth consecutive replay (R112): block commands, and the ALARM (log entry 85, DEDUCED). -/
def Concentrator.exhausted (n : Conc) (d : Concentrator) : Concentrator :=
  if 5 ≤ d.rd AGRT_STATUS_REPLAYS && !d.is AGRT_STATUS_BLOCKING then
    ((d.wr AGRT_STATUS_BLOCKING 1).sat AGRT_CNT_EXHAUSTED).raise n 0x5601 .alarm
  else d

def execReplayExhausted (n : Conc) (s : State) : Host.Outcome State Fault Refusal := onConc n s (Concentrator.exhausted n)

/-- The third consecutive latch cycle without a valid command: the grant moves where the other leaf is available (log entry 61, DEDUCED). -/
def Concentrator.silenceMove (n : Conc) (d : Concentrator) : Concentrator :=
  let g := d.rd AGRT_STATUS_GRANT
  if g ≤ 1 && 3 ≤ d.rd AGRT_STATUS_MISS && d.available n (1 - g) then d.moveGrant n (1 - g) 2 d.nextLatch else d

def execSilenceGrantMove (n : Conc) (s : State) : Host.Outcome State Fault Refusal := onConc n s (Concentrator.silenceMove n)

/-! ## The control slots (10_flenor_links.md R361, R362) -/

/-- Every word of this cycle is BLOCK: a deadbolt or an open TRIP record of the part (R449, R464), BLOCK_IN of the granted leaf (R462), a
block header, or replays that are exhausted or have nothing to repeat (R112). -/
def Concentrator.blocksAll (d : Concentrator) : Bool :=
  let g := d.rd AGRT_STATUS_GRANT
  d.is AFLT_STATUS_DEADBOLT || d.flt.openOf 2 || (g ≤ 1 && d.blockIn g) || d.sw.blockHold ||
    (match d.sw.cur with
     | some x => x.block
     | none => 5 ≤ d.rd AGRT_STATUS_REPLAYS || d.sw.words.isEmpty)

/-- The ports that take BLOCK: the mapped ports, and every port while none is mapped or a block header is fanned out (log entry 60, DEDUCED). -/
def Concentrator.blockPorts (d : Concentrator) : List Nat :=
  let all := match d.sw.cur with | some x => x.block | none => false
  let mp := d.mappedPorts d.sw.page
  if (all && !d.is AFLT_STATUS_DEADBOLT) || mp.isEmpty then List.range d.ports else mp

/-- Port, word and offset of every control frame of the slot (log entry 85, DEDUCED). -/
def Concentrator.slotWords (d : Concentrator) : List (Nat × Nat × Nat) :=
  if d.blocksAll then d.blockPorts.map fun p => (p, 0, d.rd (portOfs d.sw.page) p)
  else match d.sw.cur with
    | some x => x.words.map fun w => (w.1, w.2, d.rd (portOfs d.sw.page) w.1)
    | none => d.sw.words

/-- The IARM of the slot (R356): that of the latch cycle's ARM_INFO, else the last one received. -/
def Concentrator.slotIarm (d : Concentrator) (m : Nat) : Nat :=
  match d.sw.cur, d.sw.iarms.find? (fun x => x.1 = d.rd AGRT_STATUS_GRANT && x.2.1 = m) with
  | some _, some x => x.2.2
  | _, _ => d.sw.iarm

/-- The slips of eight cycles from `m` on, two bits each. -/
def slipWord (s : SMap Nat) (m : Nat) : Nat := (List.range 8).foldl (fun a i => a + SMap.get 0 s ((m + i) % 65536) * 4 ^ i) 0

/-- A CONTROL body (Table 10.6), numbered from frame bit 16; an offset of more than 12 bits goes on in OFFSET_EXT (02_clocks_and_time.md R87). -/
def controlBody (conv m ofs : Nat) (replay : Bool) (word slips iarm : Nat) : Nat :=
  conv * 2 ^ 215 + m * 2 ^ 199 + ofs % 4096 * 2 ^ 187 + ofs / 4096 * 2 ^ 184 + b2n replay * 2 ^ 183 + word * 2 ^ 167 + slips * 2 ^ 151 + iarm * 2 ^ 119

/-- The control frames of latch cycle `m` (R362): once per replay instant, on every port that is UP; none before an uplink has been UP
(19_power_reset_startup.md R584). -/
def Concentrator.controlSlot (n : Conc) (m : Nat) (d : Concentrator) : Concentrator :=
  if !d.sw.linked || d.sw.passed ≠ some m || d.sw.sent.any (·.1 = m) then d
  else
    let ws : List (Nat × Nat × Nat) := d.slotWords
    let conv := match d.sw.cur with | some x => x.conv | none => d.sw.conv
    let replay := d.sw.cur.isNone && !d.blocksAll
    let slips := slipWord d.sw.slips m
    let iarm := d.slotIarm m
    let g := d.rd AGRT_STATUS_GRANT
    let d := d.wr AUPL_SLOT_OPEN (d.rd AUPL_CFG_PUB_DL + d.rd (XX_DELAY_D.at (0x400 + 64 * (g % 2))) / 20 + 120)
    let hold := d.sw.blockHold || (g ≤ 1 && d.blockIn g)
    let d := { d with sw := { d.sw with words := ws, conv := conv, blockHold := hold, sent := ((m, ws.map fun w => (w.1, w.2.1)) :: d.sw.sent).take 4 } }
    (ws.foldl (fun (d : Concentrator) (w : Nat × Nat × Nat) => if h : w.1 < 256 then d.emit (.frame (.port n ⟨w.1, h⟩) 1 [controlBody conv m w.2.2 replay w.2.1 slips iarm]) else d)
      d).judgeFallback

def execControlSlot (n : Conc) (m : Nat) (s : State) : Host.Outcome State Fault Refusal := onConc n s (Concentrator.controlSlot n (m % 65536))

/-! ## Records and sums (03_control_cycle.md R100, R101; 10_flenor_links.md R357, R358) -/

/-- The fields of an uplink frame that the sums use (09_cell_measurement_and_sleep.md Table 9.3). -/
def recState (r : Nat) : Nat := bits r 59 56
def recVcap (r : Nat) : Nat := bits r 31 16

/-- The records of cycle `k`, with their ports. -/
def Concentrator.recsOf (d : Concentrator) (k : Nat) : List (Nat × Nat) := if d.sw.recCyc = some k then d.sw.recs else []

/-- A port is healthy (R358). -/
def Concentrator.healthyRec (d : Concentrator) (r : Nat × Nat) : Bool :=
  recState r.1 = 1 && !bitOf r.1 55 && bits r.1 51 48 = 0 && d.rd (portElig d.sw.page) r.2 = 1

/-- A port's word for latch cycle `k` was an insertion. -/
def Concentrator.insertedAt (d : Concentrator) (k p : Nat) : Bool :=
  d.sw.sent.any fun s => s.1 = k && s.2.any fun w => w.1 = p && (w.2 / 8192 = 2 || w.2 / 8192 = 3)

def sumVcap (l : List (Nat × Nat)) : Nat := l.foldl (fun a r => a + recVcap r.1) 0

/-- The SUMS record of cycle `k` (Table 10.4). The table states no TEMP_MAX without a record: a free value (log entry 4, DESIGN CHOICE). -/
def Concentrator.sumsOf (d : Concentrator) (k : Nat) : Nat :=
  let mapped := d.mappedPorts d.sw.page
  let rs := (d.recsOf k).filter fun r => mapped.contains r.2
  let hs := rs.filter d.healthyRec
  let ins := hs.filter fun r => d.insertedAt k r.2
  let any (f : Nat → Bool) := b2n (rs.any fun r => f r.1)
  let temp := rs.foldl (fun a r => max a (sext 8 (bits r.1 47 40))) (-128 : Int)
  let missing := (mapped.filter fun p => !rs.any (·.2 = p)).foldl (fun a p => a + 2 ^ p) 0
  missing + (any (bitOf · 55) * 8 + any (bits · 51 48 ≠ 0) * 4 + any (bitOf · 53) * 2 + any (bitOf · 52)) * 2 ^ 320 +
    min 255 (rs.filter fun r => bitOf r.1 54).length * 2 ^ 328 + min 255 d.sw.late * 2 ^ 336 + (if rs.isEmpty then d.free % 256 else pat 8 temp) * 2 ^ 344 +
    sumVcap ins * 2 ^ 352 + sumVcap hs * 2 ^ 384 +
    (if hs.isEmpty then 0xFFFF else hs.foldl (fun a r => min a (recVcap r.1)) 0xFFFF) * 2 ^ 416 + hs.foldl (fun a r => max a (recVcap r.1)) 0 * 2 ^ 432 +
    ins.length * 2 ^ 453 + hs.length * 2 ^ 462 + rs.length * 2 ^ 471 + k * 2 ^ 480 + 4 * 2 ^ 508

/-- The SUMS record of cycle `k` goes to both leaves, with the grant block of the cycle (13_the_hinge.md R438). -/
def Concentrator.sendSums (n : Conc) (k : Nat) (d : Concentrator) : Concentrator :=
  let v := d.sumsOf k
  let d := (d.emit (.frame (.uplinkConc n .leaf0) 4 [v])).emit (.frame (.uplinkConc n .leaf1) 4 [v])
  ({ d.useFree with sw := { d.sw with summed := some k, recs := [], recCyc := some k, late := 0 } }).sendGrant n

/-- Every mapped port whose lane is UP has delivered its record of cycle `k` (log entry 60, DEDUCED). -/
def Concentrator.allArrived (n : Conc) (k : Nat) (d : Concentrator) : Bool :=
  (d.mappedPorts d.sw.page).all fun p => (d.recsOf k).any (·.2 = p) || (if h : p < 256 then !d.laneUp (.port n ⟨p, h⟩) else true)

/-- A record of a cycle whose sums have been sent is discarded and counted (R101). -/
def Concentrator.lateRec (n : Conc) (p : Nat) (d : Concentrator) : Concentrator :=
  ({ d with sw := { d.sw with late := d.sw.late + 1 } }).raise n 0x5802 .note p

/-- An UPLINK frame: forwarded to both leaves unchanged (01_architecture.md R29; R357), and summed. One that fails its CRC leaves its record
missing (R363). -/
def Concentrator.uplink (n : Conc) (p : Port) (frame : Nat) (crcOk : Bool) (d : Concentrator) : Concentrator :=
  let k := bits frame 127 112
  if !d.laneUp (.port n p) then d
  else if !crcOk then d.sat (XX_ERR_BAD.at (laneBase (.port n p)))
  else if (match d.sw.summed with | some j => atOrAfter j k | none => false) then d.lateRec n p.val
  else
    let d := if d.sw.recCyc = some k then d else { d with sw := { d.sw with recCyc := some k, recs := [] } }
    let d := { d with sw := { d.sw with recs := d.sw.recs ++ [(frame, p.val)] } }
    let d := (d.emit (.frame (.uplinkConc n .leaf0) 3 [p.val, frame])).emit (.frame (.uplinkConc n .leaf1) 3 [p.val, frame])
    if d.allArrived n k then d.sendSums n k else d

def execUplink (n : Conc) (p : Port) (frame : BitVec 128) (crcOk : Bool) (s : State) : Host.Outcome State Fault Refusal :=
  onConc n s (Concentrator.uplink n p frame.toNat crcOk)

/-- The cut-off of cycle `k` (R100, R101): its sums go out with what has arrived (log entry 65, DESIGN CHOICE). -/
def Concentrator.cutoffOf (n : Conc) (k : Nat) (d : Concentrator) : Concentrator :=
  if (match d.sw.summed with | some j => atOrAfter j k | none => false) then d else d.sendSums n k

def execRecordCutoff (n : Conc) (k : BitVec 16) (s : State) : Host.Outcome State Fault Refusal := onConc n s (Concentrator.cutoffOf n k.toNat)

end Sys2Proof.Machine
end

