-- ==== Sys2Proof/Machine/Power.lean ====
section
/-! DEFINITION. Supplies, resets and start-up (19_power_reset_startup.md R572 to R585), and the trials of running images (17_updates.md
R537). -/

namespace Sys2Proof.Machine
open Reg

/-! ## Supplies (R572 to R574) -/

/-- A rail outside its window (R572, R573): its bit, and the TRIP once until the bit has been cleared; VDD_SAFE is a channel fault too (log entry 32, DEDUCED). -/
def Leaf.railOut (rail : Nat) (d : Leaf) : Leaf :=
  if d.pwr.step < 2 && d.pwr.step ≠ 0 then d
  else
    let seen := bitOf (d.rd PWR_RAIL_ERR_OUT) rail
    let d := (d.wr PWR_RAILS_IN_WINDOW (setBit (d.rd PWR_RAILS_IN_WINDOW) rail false)).wr PWR_RAIL_ERR_OUT (setBit (d.rd PWR_RAIL_ERR_OUT) rail true)
    let d := if seen then d else d.raise 0x2C02 .trip rail
    if rail = 5 then d.chanFault 3 else d

def execRailOutOfRange (l : LeafId) (rail : Fin 7) (s : State) : Host.Outcome State Fault Refusal := onLeaf l s (Leaf.railOut rail.val)

/-- VHOLD below THRESH for 1 ms (R574): the entry into low raises the ALARM. -/
def Leaf.holdUpLow (mv : Nat) (d : Leaf) : Leaf :=
  let d := d.wr PWR_VHOLD_MV mv
  if d.rd PWR_VHOLD_THRESH ≤ mv || d.is PWR_STATUS_AUX_LOW then d else (d.wr PWR_STATUS_AUX_LOW 1).raise 0x2C01 .alarm

def execHoldUpLow (l : LeafId) (mv : Nat) (s : State) : Host.Outcome State Fault Refusal := onLeaf l s (Leaf.holdUpLow mv)

/-- VHOLD above THRESH + 50 mV for 1 ms (R574). -/
def Leaf.holdUpNormal (mv : Nat) (d : Leaf) : Leaf :=
  let d := d.wr PWR_VHOLD_MV mv
  if d.rd PWR_VHOLD_THRESH + 50 < mv then (d.wr PWR_STATUS_AUX_LOW 0).wr UPD_STATUS_AUX_LOW 0 else d

def execHoldUpNormal (l : LeafId) (mv : Nat) (s : State) : Host.Outcome State Fault Refusal := onLeaf l s (Leaf.holdUpNormal mv)

/-! ## Resets (Table 19.2) -/

/-- A cell has neither of the two power-on resets; its power states are those of 09_cell_measurement_and_sleep.md Table 9.8 (log entry 97, DEDUCED). -/
def execFullPowerOnReset (part : Part) (s : State) : Host.Outcome State Fault Refusal := onPart part s Leaf.fullReset Concentrator.fullReset id

/-- Log entry 97, DEDUCED. -/
def execCorePowerOnReset (part : Part) (s : State) : Host.Outcome State Fault Refusal := onPart part s Leaf.coreReset Concentrator.coreReset id

/-- A cell held in pin reset drives its gates and SOFT_OFF low; its retention and its bolt sequence go on (R585) (log entry 97, DEDUCED). -/
def Cell.pinReset (d : Cell) : Cell :=
  if d.pow = .run then
    let d := d.allLow.stopFire
    { (if d.is CPWM_GATES_SOFT_OFF then (d.wr CPWM_GATES_SOFT_OFF 0).emit (.pin "SOFT_OFF" 0) else d) with pow := .sleep, held := true }
  else d

def execPinReset (part : Part) (s : State) : Host.Outcome State Fault Refusal := onPart part s Leaf.pinReset Concentrator.coreReset Cell.pinReset

/-- The cell wakes from sleep when its retention is valid, and from off otherwise (R585). RESET_N leaves the deadbolt latch set
(14_faults.md R463, R464) (log entry 30, DEDUCED). -/
def Cell.pinRelease (c : CellId) (d : Cell) : Cell :=
  if !d.held then d
  else
    let latch := d.is CFLT_STATUS_DEADBOLT
    let d := if d.retValid then d.wakeFromSleep c else d.wakeFromOff c
    if !latch then d
    else
      let d := d.wr CFLT_STATUS_DEADBOLT 1
      if d.sw.st = .bolted then d else d.enter .tripBlocked

def execPinResetRelease (part : Part) (s : State) : Host.Outcome State Fault Refusal :=
  onPart part s Leaf.pinRelease id (fun d => match part with | .cell c => d.pinRelease c | _ => d)

/-! ## Start-up (Table 19.4) -/

/-- The reset timer ends (step 1), every rail having been in its window for 1 ms (R571); unreadable fuses are a DEADBOLT (00_scope.md). -/
def Leaf.timerEnd (d : Leaf) : Leaf :=
  if d.pwr.step ≠ 1 || d.pwr.held then d
  else
    let d := { d with pwr := { d.pwr with step := 2 } }
    let d := if d.ident.fuseOk then d else d.raise 0x0003 .deadbolt
    if d.rd TIM_CLK_STATUS_STATE = 1 || d.rd TIM_CLK_STATUS_STATE = 2 then d.afterReference else d

def execResetTimerEnd (l : LeafId) (s : State) : Host.Outcome State Fault Refusal := onLeaf l s Leaf.timerEnd

def execBootRomStart (l : LeafId) (s : State) : Host.Outcome State Fault Refusal := onLeaf l s Leaf.bootRom

def execConcentratorStart (n : Conc) (s : State) : Host.Outcome State Fault Refusal := onConc n s Concentrator.start

/-! ## Trials (17_updates.md R537) -/

/-- The automatic fallback of the keying image, as a FALLBACK of no handle; it waits while R224 does not allow it, with one ALARM
(06_keying_image.md R243) (log entry 58, DEDUCED). -/
def Leaf.keyFallBack (d : Leaf) : Leaf :=
  if d.key.load.isSome || d.key.pend.isSome || d.key.waitPartner.isSome then d
  else if swapAllowed d.conv.st false then
    ({ d with key := { d.key with fallbackWait := false } }).loadStart { handle := 0, ward := !d.keyPtr, fallback := true }
  else if d.key.fallbackWait then d
  else ({ d with key := { d.key with fallbackWait := true } }).raise 0x2A01 .alarm 0 0 0x102

/-- The fallback of the firmware: the previous ward, by a warm reset; it waits while the converter moves, with an ALARM (log entry 58, DEDUCED). -/
def Leaf.fwFallBack (d : Leaf) : Leaf :=
  if d.moving then
    if d.upd.fwWait then d else (({ d with upd := { d.upd with fwWait := true } }).wr UPD_STATUS_FALLBACK_WAIT 1).raise 0x2A01 .alarm 0 0 0x101
  else
    let p := d.upd.boot
    ({ d with upd := { d.upd with boot := p.fall (!p.newest.second) d.fwWard } }).warmReset 5

/-- Fallbacks that wait (R537, 06_keying_image.md R243). -/
def Leaf.judgeFallbacks (d : Leaf) : Leaf :=
  let d := if d.key.fallbackWait then d.keyFallBack else d
  if d.upd.fwWait && !d.moving then d.fwFallBack else d

/-- AGE grows on the images in TRIAL; one that has reached 86,400 s falls back. -/
def Leaf.trialAge (secs : Nat) (d : Leaf) : Leaf :=
  if !d.running then d
  else
    let d := ({ d with upd := { d.upd with boot := d.upd.boot.older secs, kptr := if d.is KEY_STATUS_KEYED then d.upd.kptr.older secs else d.upd.kptr } }).showPtrs
    let d := if d.upd.kptr.expired && d.is KEY_STATUS_KEYED then d.keyFallBack else d
    if d.upd.boot.expired then d.fwFallBack else d

def Concentrator.trialAge (secs : Nat) (d : Concentrator) : Concentrator :=
  if !d.fw.up || !d.fw.ptr.newest.trial then d
  else
    let d := d.onFw fun f => { f with ptr := f.ptr.older secs }
    if d.fw.ptr.expired then d.fallBackFw else d

def Cell.trialAge (secs : Nat) (d : Cell) : Cell :=
  if !d.fw.up || !d.fw.ptr.newest.trial || d.restarting then d
  else
    let d := d.onFw fun f => { f with ptr := f.ptr.older secs }
    if d.fw.ptr.expired then d.fallBackFw else d

/-- The running time since the last update of AGE is added. -/
def execTrialAgeUpdate (part : Part) (secs : Nat) (s : State) : Host.Outcome State Fault Refusal :=
  onPart part s (Leaf.trialAge secs) (Concentrator.trialAge secs) (fun d => d.runs (Cell.trialAge secs))

/-- An image of the leaf would reach 86,400 s. -/
def Leaf.trialOver (secs : Nat) (d : Leaf) : Bool :=
  let due (c : PtrCopy) := c.trial && 86400 ≤ c.age + secs
  due d.upd.boot.newest || due d.upd.kptr.newest

/-- AGE reaches 86,400 s with the time given; nothing happens before. -/
def execTrialExpired (part : Part) (secs : Nat) (s : State) : Host.Outcome State Fault Refusal :=
  onPart part s (fun d => if d.trialOver secs then d.trialAge secs else d)
    (fun d => if 86400 ≤ d.fw.ptr.newest.age + secs then d.trialAge secs else d)
    (fun d => d.runs fun d => if 86400 ≤ d.fw.ptr.newest.age + secs then d.trialAge secs else d)

end Sys2Proof.Machine
end

