-- ==== Sys2Proof/Machine/Profiler.lean ====
section
/-! DEFINITION. The set-point profiler (07_setpoint_profiler.md R247 to R271): trajectories, the tick, and the SETPOINT commands. -/

namespace Sys2Proof.Machine
open Reg

/-! ## Trajectories (R251; the rounding is the model's, log entry 19, DEDUCED) -/

/-- A stretch of constant jerk: jerk in 2^-56 pu/s³ and duration in 2^-64 s. -/
structure Seg where
  j : Int
  t : Nat
  deriving DecidableEq, Repr

/-- Position in 2^-56 pu, rate in 2^-56 pu/s, acceleration in 2^-56 pu/s². -/
structure Motion where
  x : Int
  v : Int
  a : Int
  deriving DecidableEq, Repr

/-- The motion after a time `t` of constant jerk. -/
def Motion.after (m : Motion) (j : Int) (t : Nat) : Motion where
  x := m.x + Int.fdiv (m.v * t) (2 ^ 64 : Nat) + Int.fdiv (m.a * t * t) (2 ^ 129 : Nat) + Int.fdiv (j * t * t * t) (6 * 2 ^ 192 : Nat)
  v := m.v + Int.fdiv (m.a * t) (2 ^ 64 : Nat) + Int.fdiv (j * t * t) (2 ^ 129 : Nat)
  a := m.a + Int.fdiv (j * t) (2 ^ 64 : Nat)

/-- The motion after at most a time `t` of a path, whose last stretch ends in rest of jerk. -/
def Motion.along (m : Motion) (t : Nat) : List Seg → Motion
  | [] => m
  | s :: r => if t ≤ s.t then m.after s.j t else (m.after s.j s.t).along (t - s.t) r

/-- The duration of a path, and the motion at its end (log entry 19, DEDUCED). -/
def pathTime (p : List Seg) : Nat := p.foldl (fun t s => t + s.t) 0
def Motion.atEnd (m : Motion) (p : List Seg) : Motion := p.foldl (fun m s => m.after s.j s.t) m

/-- The largest root whose square is at most `v`, for the squares of accelerations (log entry 19, DEDUCED). -/
def accRoot (v : Int) : Nat := rootFrom v.toNat 100 0

/-- The shortest path from rate `v` and acceleration `a` to rate `w` and acceleration `b` within |acceleration| ≤ `lim` and jerk `jk`:
toward the side on which the rate must go, to the peak acceleration, and on to `b`. -/
def rateChange (lim jk : Nat) (v a w b : Int) : List Seg :=
  let d := w - v
  let direct := (if a ≤ b then (1 : Int) else -1) * Int.fdiv (b * b - a * a) (2 * jk : Nat)
  let s : Int := if direct ≤ d then 1 else -1
  let root : Int := (accRoot (Int.fdiv (2 * jk * (s * d) + a * a + b * b) 2) : Nat)
  let q : Int := if max (s * a) (s * b) ≤ -root then -root else min root (lim : Nat)
  let g1 := q - s * a
  let g3 := s * b - q
  let t1 := g1.natAbs * 2 ^ 64 / jk
  let t3 := g3.natAbs * 2 ^ 64 / jk
  let gain (g : Int) (m : Int) : Int := Int.fdiv (g.natAbs * m) (2 * jk : Nat)
  let rest := s * d - gain g1 (q + s * a) - gain g3 (q + s * b)
  let t2 := if q = lim && 0 < rest && 0 < q then (rest * (2 ^ 64 : Nat) / q).toNat else 0
  [⟨s * g1.sign * jk, t1⟩, ⟨0, t2⟩, ⟨s * g3.sign * jk, t3⟩]

/-- The path that brakes from rate `w` and no acceleration: to rest, or at a turnaround to rate 0 with the acceleration of the new direction
kept, at most `p` (R262) (log entry 19, DEDUCED). -/
def brakeFrom (lim jk : Nat) (p : Nat) (w : Int) : List Seg :=
  rateChange lim jk w 0 0 (-(min p (accRoot (2 * jk * w)) : Nat))

/-- The distance of the path over the rate `w`: up to it, and down from it. -/
def overDist (lim jk p : Nat) (m : Motion) (w : Int) : Int :=
  let n := ({ m with x := 0 } : Motion).atEnd (rateChange lim jk m.v m.a w 0)
  (Motion.atEnd ⟨n.x, w, 0⟩ (brakeFrom lim jk p w)).x

/-- The most that can be added to `base` in the direction `s`, up to `top`, while the path covers no more than `dist`, bit by bit. -/
def mostBy (cover : Int → Int) (base s : Int) (top : Nat) (dist : Int) : Nat → Nat → Nat
  | 0, r => r
  | n + 1, r =>
    if r + 2 ^ n ≤ top && cover (base + s * (r + 2 ^ n : Nat)) ≤ dist then mostBy cover base s top dist n (r + 2 ^ n)
    else mostBy cover base s top dist n r

/-- The brake from any motion: to rest, or to a joint with the acceleration of the new direction kept, at most `p` (R262). -/
def brakeNow (lim jk p : Nat) (m : Motion) : List Seg :=
  rateChange lim jk m.v m.a 0 (-(min p (accRoot (2 * jk * m.v + (if m.a < 0 then m.a * m.a else -(m.a * m.a)))) : Nat))

/-- The time-optimal path over a distance ahead (R251): over the rate `w`, at most `top`, that covers the distance; while the brake is on
already, after the time for which it can still be eased. `turn` brakes at once to the joint. The second part is the brake. -/
def pathOver (lim jk p top : Nat) (turn : Bool) (m : Motion) (dist : Int) : List Seg × List Seg :=
  let low : Int := max 0 (m.v + Int.fdiv (m.a * m.a.natAbs) (2 * jk : Nat))
  let f := overDist lim jk p m
  if turn then ([], brakeNow lim jk p m)
  else if m.a < 0 && 0 < low && dist < f low then
    let ease (t : Int) : Int := let n := ({ m with x := 0 } : Motion).after jk t.toNat; (n.atEnd (brakeNow lim jk p n)).x
    let t := mostBy ease 0 1 (m.a.natAbs * 2 ^ 64 / jk) dist 90 0
    ([], ⟨jk, t⟩ :: brakeNow lim jk p (m.after jk t))
  else
    let w := if low ≤ top then low + mostBy f low 1 (top - low).toNat dist 64 0 else low - mostBy f low (-1) (low - top).toNat dist 64 0
    let left := dist - f w
    let cruise := if w = 0 || left < 0 then 0 else (left * (2 ^ 64 : Nat) / w).toNat
    (rateChange lim jk m.v m.a w 0 ++ [⟨0, cruise⟩], brakeFrom lim jk p w)

/-- The distance in which a motion stops. -/
def stopDist (lim jk : Nat) (m : Motion) : Int := (({ m with x := 0 } : Motion).atEnd (rateChange lim jk m.v m.a 0 0)).x

/-- Limits suffice for a motion over a distance ahead when it can stop within it and its brake need not turn back (R256), but for the
rounding of the path (log entry 19, DEDUCED). -/
def canStop (lim jk : Nat) (m : Motion) (dist : Int) : Bool :=
  stopDist lim jk m - dist ≤ 2 ^ 26 && !(0 < m.v && m.a < 0 && m.v + 2 ^ 20 < Int.fdiv (m.a * m.a) (2 * jk : Nat))

/-! ## Channels -/

/-- The limits in the units of the path (Table 7.3). -/
def limV (v : Nat) : Nat := v * 2 ^ 56 / 10000
def limA (a : Nat) : Nat := a * 2 ^ 56 / 1000
def limJ (j : Nat) : Nat := max 1 (j * 2 ^ 56 / 100)

/-- The time step T_c, which slips do not change (R248) (log entry 19, DEDUCED). -/
def Leaf.profStep (d : Leaf) : Nat := d.rd CYC_PERIOD_PERIOD * 2 ^ 64 / 10000000

def chanMotion (c : Chan) : Motion := ⟨c.value, c.rate, c.accel * 256⟩

/-- A target value in 2^-56 pu. -/
def targetPos (t : Target) : Int := t.value * (2 ^ 32 : Nat)

/-- A channel at rest: no target, no HOLD, no motion. -/
def chanRest (c : Chan) : Bool := c.queue.isEmpty && c.holds.isEmpty && c.rate = 0 && c.accel = 0

/-- The targets of a queue that lie in direction `s` one beyond the other, and those after them (R261). -/
def runOf (s : Int) (p : Int) : List Target → List Target × List Target
  | [] => ([], [])
  | t :: r => if 0 ≤ s * (targetPos t - p) then let x := runOf s (targetPos t) r; (t :: x.1, x.2) else ([], t :: r)

/-- The direction of the approach to the first target. -/
def chanDir (c : Chan) : Int :=
  match c.queue with
  | [] => 0
  | t :: r =>
    let d := targetPos t - c.value
    if d ≠ 0 then d.sign else match r with | u :: _ => (targetPos u - targetPos t).sign | [] => 1

/-- The acceleration kept through a joint target: at most A, and such that the next run can still stop at its end within V (R262). -/
def jointAccel (lim jk top : Nat) (leg : Int) : Nat → Nat → Nat
  | 0, r => r
  | n + 1, r =>
    let q := r + 2 ^ n
    if q ≤ lim && q * q ≤ 2 * jk * top && stopDist lim jk ⟨0, 0, (q : Nat)⟩ ≤ leg then jointAccel lim jk top leg n q else jointAccel lim jk top leg n r

/-- The channel after its motion has covered one time step. -/
def chanTo (c : Chan) (m : Motion) : Chan := { c with value := m.x, rate := m.v, accel := Int.fdiv m.a 256 }

/-- A value that started at `o` moved back to the point `p` ahead of it in direction `s` that it must not pass (R251) (log entry 19, DEDUCED). -/
def noFurther (s o x p : Int) : Int := if 0 ≤ s * (p - o) && 0 < s * (x - p) then p else x

/-- The bounds of R251 on what the path gives: a rate or an acceleration of more than its limit never grows further, and the acceleration
changes by at most J T_c. -/
def bounded (top lim : Nat) (dj : Int) (m n : Motion) : Motion :=
  let vb : Int := max (top : Nat) m.v.natAbs
  let ab : Int := max (lim : Nat) m.a.natAbs
  { n with v := clampInt (-vb) vb n.v, a := clampInt (-ab) ab (clampInt (m.a - dj) (m.a + dj) n.a) }

/-- The limits the ramp uses: the channel's own, or those it keeps while the new ones would make it pass its target at `p` (R256). -/
def chanLimits (c : Chan) (p : Int) : Nat × Nat × Bool :=
  let s := (p - c.value).sign
  if c.turning || canStop (limA c.a) (limJ c.j) ⟨0, s * c.rate, s * c.accel * 256⟩ (s * (p - c.value)) then (c.a, c.j, false)
  else (c.runA, c.runJ, true)

/-- One time step toward the first target (R251, R261, R262). -/
def chanApproach (dt : Nat) (c : Chan) (t : Target) : Chan :=
  let s := chanDir c
  let run := runOf s (targetPos t) c.queue
  let far := targetPos (run.1.getLast?.getD t)
  let k := chanLimits c far
  let lim := limA k.1
  let jk := limJ k.2.1
  let top := limV (if t.rateReq = 0 then c.v else min t.rateReq c.v)
  let t := { t with limited := t.limited || c.v < t.rateReq, override := t.override || k.2.2 }
  let c := { c with queue := t :: c.queue.tail, runA := k.1, runJ := k.2.1 }
  let p := match run.2 with
    | [] => if c.turning then lim else 0
    | u :: r => jointAccel lim jk top ((targetPos ((runOf (-s) (targetPos u) r).1.getLast?.getD u) - far).natAbs) 76 0
  let m := chanMotion c
  let e := far - c.value - stopDist lim jk m
  let g : Int := if c.turning || run.2 ≠ [] || e.natAbs ≤ 2 ^ 26 then s else e.sign
  let way := pathOver lim jk p top c.turning ⟨0, g * m.v, g * m.a⟩ (g * (far - c.value))
  let path := way.1 ++ way.2
  let joint := c.turning || run.2 ≠ []
  if pathTime path ≤ dt then
    if joint then { chanTo c { m with x := far, v := 0 } with turning := false } else { chanTo c ⟨far, 0, 0⟩ with turning := false }
  else
    let n := Motion.along ⟨0, g * m.v, g * m.a⟩ dt path
    let n := bounded top lim (Int.fdiv (jk * dt) (2 ^ 64 : Nat)) m ⟨noFurther g c.value (c.value + g * n.x) far, g * n.v, g * n.a⟩
    { chanTo c n with turning := joint && (c.turning || pathTime way.1 < dt) }

/-- One time step of a HOLD: the shortest path to rest (R257). -/
def chanHold (dt : Nat) (c : Chan) : Chan :=
  let m := chanMotion c
  let path := rateChange (limA c.a) (limJ c.j) m.v m.a 0 0
  if pathTime path ≤ dt then chanTo c ⟨(m.atEnd path).x, 0, 0⟩
  else chanTo c (bounded (limV c.v) (limA c.a) (Int.fdiv (limJ c.j * dt) (2 ^ 64 : Nat)) m (m.along dt path))

/-! ## The profiler of a leaf -/

def Leaf.chan (d : Leaf) (i : Nat) : Chan := SMap.get {} d.prof.chans i
def Leaf.setChan (d : Leaf) (i : Nat) (c : Chan) : Leaf := { d with prof := { d.prof with chans := SMap.put {} d.prof.chans i c } }

/-- A value in 2^-56 pu as the output in 2^-24 pu, rounded (R250, 05_control_fabric.md R175). -/
def profOut (x : Int) : Nat := pat 32 (divNear x (2 ^ 32))

/-- Motion of PROF_CH_STATE. -/
def chanMode (c : Chan) : Nat :=
  if !c.holds.isEmpty then 2 else if c.queue.isEmpty then 0 else if c.turning then 3 else 1

/-- The channel registers follow the channel (Table 7.6). -/
def Leaf.showChan (d : Leaf) (i : Nat) : Leaf :=
  let c := d.chan i
  let t := c.queue.head?
  let h := match c.holds with | x :: _ => x | [] => match t with | some t => t.handle | none => 0
  let d := (d.wr PROF_CH_VALUE_VALUE (profOut c.value) i).wr PROF_CH_TARGET_VALUE (match t with | some t => pat 32 t.value | none => profOut c.value) i
  let d := (d.wr PROF_CH_RATE_RATE (profOut c.rate) i).wr PROF_CH_ACCEL_ACCEL (pat 32 (divNear c.accel (2 ^ 32))) i
  let d := ((d.wr PROF_CH_RATE_LIM_RATE c.v i).wr PROF_CH_ACCEL_LIM_ACCEL c.a i).wr PROF_CH_JERK_LIM_JERK c.j i
  let d := (d.wr PROF_CH_STATE_QUEUE c.queue.length i).wr PROF_CH_STATE_MOTION (chanMode c) i
  (d.wr PROF_CH_HANDLE_LO_HANDLE (h % 2 ^ 32) i).wr PROF_CH_HANDLE_HI_HANDLE (h / 2 ^ 32) i

/-- The blend registers follow the profiler. -/
def Leaf.showProf (d : Leaf) : Leaf :=
  [0, 1, 2, 3].foldl Leaf.showChan (d.wr PROF_BLEND_LEFT_MS (d.prof.left / 100000))

/-- The result word (R270): the value in 2^-16 pu and the flags. -/
def profResult (c : Chan) (limited override frozen : Bool) : Nat :=
  pat 24 (divNear c.value (2 ^ 40)) * 256 + b2n limited + 2 * b2n override + 4 * b2n frozen

/-- A target ends with a status. -/
def Leaf.endTarget (i st : Nat) (frozen : Bool) (d : Leaf) (t : Target) : Leaf :=
  d.complete t.handle st (profResult (d.chan i) t.limited t.override frozen)

/-- A target is reached: DONE, or LIMITED (R254). -/
def Leaf.reachTarget (i : Nat) (d : Leaf) (t : Target) : Leaf :=
  let d := if t.limited then d.wr PROF_CH_STATE_LIMITED 1 i else d
  d.endTarget i (if t.limited then stLIMITED else stDONE) false t

/-- The targets that the value has reached or crossed complete (R261, R262); the last one only at rest or at its joint. -/
def Leaf.reachRun (s : Int) (i : Nat) (ended : Bool) : List Target → Leaf → Leaf
  | [], d => d
  | t :: r, d =>
    let c := d.chan i
    let more := match r with | u :: _ => 0 ≤ s * (u.value - t.value) | [] => false
    if (more && 0 ≤ s * (c.value - targetPos t)) || ended then
      Leaf.reachRun s i (ended && more) r ((d.setChan i { c with queue := r }).reachTarget i t)
    else d

/-- A channel makes one time step, and completes what it has reached (log entry 19, DEDUCED). -/
def Leaf.stepChan (dt : Nat) (d : Leaf) (i : Nat) : Leaf :=
  let c := d.chan i
  match c.holds, c.queue with
  | h, _ :: _ =>
    match c.queue with
    | t :: _ =>
      if !h.isEmpty then d
      else
        let n := chanApproach dt c t
        let d := d.setChan i n
        let d := if n.runA ≠ n.a || n.runJ ≠ n.j then d.wr PROF_CH_STATE_ACCEL_OVERRIDE 1 i else d
        let s := chanDir c
        let far := targetPos ((runOf s (targetPos t) c.queue).1.getLast?.getD t)
        let two := (runOf s (targetPos t) c.queue).2 ≠ []
        let ended := n.value = far && ((n.rate = 0 && n.accel = 0) || (two && !n.turning && n.rate = 0))
        Leaf.reachRun s i ended n.queue d
    | [] => d
  | [], [] => d
  | _ :: _, [] =>
    let n := chanHold dt c
    let d := d.setChan i n
    if n.rate = 0 && n.accel = 0 then
      let d := d.setChan i { n with holds := [], held := [] }
      let d := c.held.foldl (Leaf.endTarget i stINCOMPLETE false) d
      c.holds.foldl (fun d h => d.complete h stDONE (profResult n false false false)) d
    else d

/-- On entry to TRIPPED or DEADBOLTED every channel freezes (R264). -/
def Leaf.profFreeze (d : Leaf) : Leaf :=
  let d := [0, 1, 2, 3].foldl (fun d i =>
    let c := d.chan i
    let d := (d.setChan i { c with rate := 0, accel := 0, queue := [], holds := [], held := [], turning := false }).wr PROF_CH_STATE_FROZEN 1 i
    let d := (c.held ++ c.queue).foldl (Leaf.endTarget i stABORTED_FAULT true) d
    c.holds.foldl (fun d h => d.complete h stABORTED_FAULT (profResult c false false true)) d) d
  d.showProf

/-! ## The commands at their tick (R249, R253 to R265) -/

/-- A parameter is in its range (Table 7.3); 0 is allowed where the command gives it a meaning. -/
def inRange (lo hi v : Nat) : Bool := lo ≤ v && v ≤ hi

/-- The parameters of a SETPOINT command are in their ranges (R269). -/
def setpointOk (c : Cmd) : Bool :=
  let value := sext 32 (c.par 8 32)
  let valueOk : Bool := -25165824 ≤ value && value ≤ 25165824
  match c.op with
  | 1 => c.par 0 8 < 4 && valueOk && c.par 40 20 ≤ 1000000
  | 2 => c.par 0 8 < 4
  | 3 => c.par 0 8 < 4 && c.par 8 32 ≤ 1000000 && c.par 40 32 ≤ 10000000 && c.par 72 32 ≤ 100000000
  | 4 => c.par 0 8 = 0 || (c.par 0 8 = 1 && inRange 1 3 (c.par 8 8))
  | _ => c.par 0 8 < 4 && valueOk

/-- Blend mode is on. -/
def Leaf.blend (d : Leaf) : Bool := d.is PROF_STATUS_MODE

/-- TARGET (R253, R254, R260). -/
def Leaf.tickTarget (c : Cmd) (d : Leaf) : Leaf :=
  let i := c.par 0 8
  let ch := d.chan i
  let t : Target := ⟨c.handle, sext 32 (c.par 8 32), c.par 40 20, false, false⟩
  let res := profResult ch false false false
  if ch.queue.any (·.handle = c.handle) then d
  else if !d.blend then
    if !chanRest ch then d.complete c.handle stREFUSED_TARGET_LOCKED res
    else if targetPos t = ch.value then d.complete c.handle stDONE res
    else d.setChan i { ch with queue := [t] }
  else if 8 ≤ ch.queue.length then d.complete c.handle stREFUSED_STATE res
  else if chanRest ch && targetPos t = ch.value then d.complete c.handle stDONE res
  else d.setChan i { ch with queue := ch.queue ++ [t] }

/-- HOLD (R257, R260). -/
def Leaf.tickHold (c : Cmd) (d : Leaf) : Leaf :=
  let i := c.par 0 8
  let ch := d.chan i
  if chanRest ch then d.complete c.handle stDONE (profResult ch false false false)
  else
    let d := d.setChan i { ch with queue := [], held := ch.held ++ ch.queue.take 1, holds := ch.holds ++ [c.handle], turning := false }
    (ch.queue.drop 1).foldl (Leaf.endTarget i stINCOMPLETE false) d

/-- LIMITS (R255): a field of 0 keeps the present value. -/
def Leaf.tickLimits (c : Cmd) (d : Leaf) : Leaf :=
  let i := c.par 0 8
  let ch := d.chan i
  let new (v o : Nat) := if v = 0 then o else v
  let ch := { ch with v := new (c.par 8 32) ch.v, a := new (c.par 40 32) ch.a, j := new (c.par 72 32) ch.j }
  let ch := if chanRest ch then { ch with runA := ch.a, runJ := ch.j } else ch
  (d.setChan i ch).complete c.handle stDONE (profResult ch false false false)

/-- Blend mode ends: every target behind the approached one completes INCOMPLETE (R259). -/
def Leaf.blendEnd (d : Leaf) : Leaf :=
  let d := [0, 1, 2, 3].foldl (fun d i =>
    let c := d.chan i
    (c.queue.drop 1).foldl (Leaf.endTarget i stINCOMPLETE false) (d.setChan i { c with queue := c.queue.take 1 })) d
  ({ d with prof := { d.prof with left := 0 } }.wr PROF_STATUS_MODE 0).wr PROF_STATUS_REASON 0

/-- The reasons for which blend mode is accepted (R258): RECOVERY for 60 s after a CLEAR_TRIP. -/
def Leaf.blendReason (d : Leaf) (r : Nat) : Bool :=
  match r with
  | 1 => d.conv.st = .keyedIdle || d.conv.st = .charging || d.conv.st = .blockedReady
  | 2 => d.is PROF_CFG_TEST_ALLOW
  | 3 => match d.prof.clearAt with
    | some k => (d.tim.cyc - k) * d.rd CYC_PERIOD_PERIOD ≤ 600000000
    | none => false
  | _ => false

/-- MODE (R258, R259). -/
def Leaf.tickMode (c : Cmd) (d : Leaf) : Leaf :=
  if c.par 0 8 = 0 then (if d.blend then d.blendEnd else d).complete c.handle stDONE
  else if !d.blendReason (c.par 8 8) then d.complete c.handle stREFUSED_STATE
  else
    let d := { d with prof := { d.prof with left := d.rd PROF_CFG_BLEND_S * 10000000 } }
    ((d.wr PROF_STATUS_MODE 1).wr PROF_STATUS_REASON (c.par 8 8)).complete c.handle stDONE

/-- PRESET (R263). -/
def Leaf.tickPreset (c : Cmd) (d : Leaf) : Leaf :=
  let i := c.par 0 8
  let ch := d.chan i
  if d.conv.st = .deblocked || !chanRest ch then d.complete c.handle stREFUSED_STATE (profResult ch false false false)
  else
    let ch := { ch with value := sext 32 (c.par 8 32) * (2 ^ 32 : Nat), rate := 0, accel := 0 }
    (d.setChan i ch).complete c.handle stDONE (profResult ch false false false)

/-- A command takes effect at its tick: TRIPPED and DEADBOLTED refuse it, but for PRESET in TRIPPED (R264 to R266, 12_host_interface_and_handles.md
R406). -/
def Leaf.tickCmd (d : Leaf) (h : Nat) : Leaf :=
  match d.cmd h with
  | none => d
  | some c =>
    if c.decided then d
    else if d.conv.st = .deadbolted || (d.conv.st = .tripped && c.op ≠ 5) then
      d.complete h stREFUSED_STATE (if c.op = 4 then 0 else profResult (d.chan (c.par 0 8)) false false false)
    else match c.op with
      | 1 => d.tickTarget c
      | 2 => d.tickHold c
      | 3 => d.tickLimits c
      | 4 => d.tickMode c
      | _ => d.tickPreset c

/-- The channels that make a time step: those that were not at rest before the commands of the tick. -/
def Leaf.movingChans (d : Leaf) : List Nat := [0, 1, 2, 3].filter fun i => !chanRest (d.chan i)

/-- The tick of a cycle on the active leaf (R248, R249): its commands in acceptance order, then one time step. -/
def Leaf.profTick (d : Leaf) : Leaf :=
  let go := d.movingChans
  let w := d.prof.waiting
  let d := w.foldl Leaf.tickCmd { d with prof := { d.prof with waiting := [], ticked := d.tim.cyc, left := d.prof.left - d.rd CYC_PERIOD_PERIOD } }
  (go.foldl (Leaf.stepChan d.profStep) d).showProf

/-- The ticks of a gap, one for every cycle of it (R268). -/
def Leaf.profCatchUp (d : Leaf) : Nat → Leaf
  | 0 => { d with prof := { d.prof with ticked := d.tim.cyc } }.showProf
  | n + 1 => (d.movingChans.foldl (Leaf.stepChan d.profStep) d).profCatchUp n

/-- The mirror frame after a tick (R267). -/
def Leaf.profMirror (d : Leaf) : Leaf :=
  d.mirror (.profiler d.tim.cyc (d.rd PROF_STATUS_MODE + 2 * d.rd PROF_STATUS_REASON) d.prof.left d.prof.chans d.prof.waiting)

/-- A leaf that is not active adopts the state of the active leaf's profiler (R267). -/
def Leaf.profAdopt (cycle mode left : Nat) (chans : List (Nat × Chan)) (waiting : List Nat) (d : Leaf) : Leaf :=
  let d := { d with prof := { d.prof with chans := chans.foldl (fun (m : SMap Chan) (c : Nat × Chan) => SMap.put {} m c.1 c.2) [], waiting := waiting, left := left, ticked := cycle } }
  ((d.wr PROF_STATUS_MODE mode).wr PROF_STATUS_REASON (mode / 2)).showProf

/-! ## The commands -/

/-- A SETPOINT command executes: it takes effect at the next tick (R249), or completes INVALID at once (R269). -/
def Leaf.setpoint (op : Nat) (h : Handle) (d : Leaf) : Leaf :=
  d.runCmd h 2 op fun c d =>
    if setpointOk c then { d with prof := { d.prof with waiting := d.prof.waiting.filter (· ≠ h) ++ [h] } }
    else d.complete h stINVALID (if op ≠ 4 && c.par 0 8 < 4 then profResult (d.chan (c.par 0 8)) false false false else 0)

def execSetpointTarget (l : LeafId) (h : Handle) (s : State) : Host.Outcome State Fault Refusal := onLeaf l s (Leaf.setpoint 1 h)
def execHold (l : LeafId) (h : Handle) (s : State) : Host.Outcome State Fault Refusal := onLeaf l s (Leaf.setpoint 2 h)
def execLimits (l : LeafId) (h : Handle) (s : State) : Host.Outcome State Fault Refusal := onLeaf l s (Leaf.setpoint 3 h)
def execMode (l : LeafId) (h : Handle) (s : State) : Host.Outcome State Fault Refusal := onLeaf l s (Leaf.setpoint 4 h)
def execPreset (l : LeafId) (h : Handle) (s : State) : Host.Outcome State Fault Refusal := onLeaf l s (Leaf.setpoint 5 h)

/-- BLEND_S after blend mode was entered it ends, with a NOTE (R259). -/
def Leaf.blendExpired (d : Leaf) : Leaf := if d.active && d.blend then (d.blendEnd.raise 0x2101 .note).showProf else d

def execBlendExpired (l : LeafId) (s : State) : Host.Outcome State Fault Refusal := onLeaf l s Leaf.blendExpired

end Sys2Proof.Machine
end

