-- ==== Sys2Proof/Machine/HingeOps.lean ====
section
/-! DEFINITION. The summary word, standing by, and the change of roles (13_the_hinge.md R422, R429, R430, R439, R444). -/

namespace Sys2Proof.Machine
open Reg

/-! ## The summary word (Table 13.4) -/

/-- The active image hash is the partner's (log entry 92, DEDUCED). -/
def Leaf.sameImage (d : Leaf) : Bool :=
  match d.key.active, d.hng.partner.hash with
  | some i, some h => i.hash = h
  | _, _ => false

/-- No TRIP-class overrun within the last 500 cycles. -/
def Leaf.noStorm (d : Leaf) : Bool := match d.cyc.lastStorm with | some c => c + 500 ≤ d.tim.cyc | none => true

/-- Bits [9:0] of the summary word. -/
def Leaf.summaryBits (d : Leaf) : List Bool :=
  [d.sameImage, d.hng.journalOk, d.is TIM_CLK_STATUS_MIR_ALIGN, d.is TIM_STATUS_FOLLOWING, d.hng.cmpOk, !d.conv.clockBad, d.hng.fabricOk, d.noStorm,
   d.hng.lockstepOk, d.declared.all d.uplinkUp]

/-- The leaf is standing by (R429). -/
def Leaf.standing (d : Leaf) : Bool := d.hng.role = .standby && d.summaryBits.all id

/-- Bits, lowest first, as a number. -/
def ofBits : List Bool → Nat
  | [] => 0
  | b :: r => b2n b + 2 * ofBits r

/-- Log entry 92, DEDUCED. -/
def Leaf.summary (d : Leaf) : Nat := ofBits d.summaryBits + b2n d.standing * 2 ^ 31

/-- HNG_STATUS and HNG_HEALTH follow: the standby shows its own summary word (Table 13.13) (log entry 92, DEDUCED). -/
def Leaf.hngShow (d : Leaf) : Leaf :=
  let d := d.wr HNG_STATUS_STANDING_BY (b2n d.standing)
  if d.hng.role = .standby then d.wr HNG_HEALTH_SUMMARY d.summary else d

/-- The standing of this leaf, for its partner. -/
def Leaf.sendStanding (d : Leaf) : Leaf := d.mirror (.standing d.summary d.hng.role.code (d.key.active.map (·.hash)))

/-! ## Roles (Tables 13.1 and 13.2) -/

/-- HND_STATUS.ROLE of a role (12_host_interface_and_handles.md). -/
def Role.hndCode : Role → Nat
  | .active => 1
  | .standby => 2
  | .starting => 0
  | .released => 0

/-- The leaf takes a role. MIR_ALIGN is 1 while it is ACTIVE (02_clocks_and_time.md R59), FOLLOWING while it is STANDBY (R71). -/
def Leaf.setRole (r : Role) (d : Leaf) : Leaf :=
  let d := { d with hng := { d.hng with role := r, roleCycle := some d.tim.cyc } }
  let d := ((d.wr HNG_STATUS_ROLE r.code).wr HND_STATUS_ROLE r.hndCode).wr TIM_STATUS_FOLLOWING (b2n (decide (r = .standby)))
  (if r = .active then d.wr TIM_CLK_STATUS_MIR_ALIGN 1 else d).hngShow

/-- What every leaf that takes the active role does (R439; 12_host_interface_and_handles.md R420): vector 3, HINGED, RETRY HINGE_GAP until the
takeover ends, ISO cleared, and the profiler's ticks of the gap (07_setpoint_profiler.md R268). -/
def Leaf.takeRole (d : Leaf) : Leaf :=
  let d := (d.setRole .active).wr HND_STATUS_ROLE 3
  let d := { d with hng := { d.hng with takeover := true, takenAt := some d.tim.c, relSeen := false } }
  let d := (d.wr HNG_STATUS_HINGED 1).clearIso
  (d.profCatchUp (d.tim.cyc - d.prof.ticked)).msix 3

/-! ## Planned exchanges (R443 to R445) -/

/-- The concentrators among the declared ones whose latest grant names a leaf; blocks of the last two cycles count, of either path (R441). -/
def Leaf.grantOf (d : Leaf) (n : Nat) : Nat :=
  let fresh (g : GrantSeen) : Bool := match g.at_ with | some c => d.tim.cyc ≤ c + 2 | none => false
  let own := SMap.get {} d.hng.grantOwn n
  let fwd := SMap.get {} d.hng.grantFwd n
  let later : Bool := match own.at_, fwd.at_ with | some a, some b => b ≤ a | some _, none => true | _, _ => false
  let g := if fresh own && (later || !fresh fwd) then own else fwd
  if fresh g && g.grant ≤ 1 then g.grant else 2

def Leaf.naming (d : Leaf) (l : Nat) : List Nat := d.declared.filter fun n => d.grantOf n = l

/-- A split exists (R441) (log entry 91, DEDUCED). -/
def Leaf.split (d : Leaf) : Bool := !(d.naming 0).isEmpty && !(d.naming 1).isEmpty

/-- An exchange is announced on both leaves, with j = c + 4 (R444). -/
def Leaf.beginExchange (h target : Nat) (d : Leaf) : Leaf :=
  let d := { d with hng := { d.hng with exchange := some ⟨h, target, d.tim.cyc + 4⟩ } }
  if d.active then d.mirror (.exchange h target (d.tim.cyc + 4)) else d

/-- The exchange ends; its SWAP completes (R443, R445) (log entry 69, DEDUCED). -/
def Leaf.endExchange (st detail : Nat) (d : Leaf) : Leaf :=
  match d.hng.exchange with
  | some e => ({ d with hng := { d.hng with exchange := none } }).complete e.handle st 0 detail
  | none => d

/-- The exchange is cancelled where the target does not stand by before the start of cycle j-1 (R445); at cycle j the new active leaf completes
the SWAP (log entry 69, DEDUCED). -/
def Leaf.judgeExchange (d : Leaf) : Leaf :=
  match d.hng.exchange with
  | some e =>
    let targetStands := if e.target = d.ident.leaf then d.standing else d.is HNG_STATUS_PARTNER_STANDING
    if d.tim.cyc + 1 < e.j && !targetStands then
      ({ d with pwr := { d.pwr with warmWait := none } }).endExchange stINCOMPLETE 0
    else if e.j ≤ d.tim.cyc then
      if !d.active then { d with hng := { d.hng with exchange := none } }
      else if e.target = d.ident.leaf then d.endExchange stDONE (d.naming e.target).length
      else d.endExchange stINCOMPLETE 0
    else d
  | none => d

end Sys2Proof.Machine
end

