-- ==== Sys2Proof/Machine/ConvOps.lean ====
section
/-! DEFINITION. The converter state: its transitions, the thresholds, and the state commands (01_architecture.md R34 to R40, R604, R605). -/

namespace Sys2Proof.Machine
open Reg

/-! ## The state (Table 1.5) -/

/-- The converter takes a state at a boundary: it is reported, ISO is cleared (04_tumblers_and_arm_modulation.md R161), a DEBLOCK that waits
completes by what took the converter out (R605), and TRIPPED and DEADBOLTED freeze the profiler (07_setpoint_profiler.md R264). -/
def Leaf.setConv (c : Conv) (d : Leaf) : Leaf :=
  if d.conv.st = c then d
  else
    let old := d.conv
    let d := { d with conv := { d.conv with st := c, since := d.tim.cyc, before := old.st, deblockWait := none } }
    let d := { d with cyc := { d.cyc with readyRun := 0 } }
    let d := ((d.wr CYC_STATUS_CONV_STATE c.code).clearIso).fltRefresh
    let d := match old.deblockWait with
      | some h => d.complete h (if c = .blockedReady then stINCOMPLETE else stABORTED_FAULT)
      | none => d
    if c = .tripped || c = .deadbolted then d.profFreeze else d

/-- Word `w` of the sums in use of a concentrator (10_flenor_links.md Table 10.4). -/
def Leaf.sumWord (d : Leaf) (n w : Nat) : Nat := SMap.get 0 d.cyc.sums n / 2 ^ (32 * w) % 2 ^ 32

/-- An arm's sum of capacitor voltages over its healthy cells, in 1/64 V. -/
def Leaf.armSum (d : Leaf) (r : ArmRec) : Nat := r.concs.foldl (fun a n => a + 16 * d.sumWord n 12) 0

/-- Some arm's sum stands at or above the charge-detect threshold. -/
def Leaf.charged (d : Leaf) (im : Image) : Bool := im.arms.any fun r => im.prot.chargeDet ≤ d.armSum r

/-- Every arm's sum stands below the discharge threshold (log entry 82, DEDUCED). -/
def Leaf.discharged (d : Leaf) (im : Image) : Bool := im.arms.all fun r => d.armSum r < im.prot.discharge

/-- The ready condition: every arm has at least N_REQ ACTIVE cells at or above the ready voltage (log entry 82, DEDUCED). -/
def Leaf.readyCond (d : Leaf) (im : Image) : Bool :=
  (indexed im.arms).all fun r =>
    r.1.nReq ≤ ((d.mapped r.2).filter fun p => d.slotState p.2 = slACTIVE && decide (im.prot.readyV ≤ d.rd CT_VCAP p.2)).length

/-- Every arm has at least N_REQ healthy cells. -/
def Leaf.healthyCond (d : Leaf) (im : Image) : Bool := (indexed im.arms).all fun r => r.1.nReq ≤ d.healthy r.2

/-- A TRIP cause persists (R604). -/
def Leaf.tripPersists (d : Leaf) : Bool :=
  (List.range 32).any (fun j => d.lineClass j = some .trip && SMap.get 0 d.fab.lines j ≠ 0) ||
  d.blockOrder ||
  (d.is FLT_STATUS_MODE && bitOf (d.rd FLT_LINES_LEVEL) 4) ||
  d.conv.clockBad ||
  (d.rd TIM_CLK_STATUS_STATE = 3 && decide (10000 ≤ d.rd TIM_CLK_STATUS_HOLD_MS)) ||
  (3 ≤ d.pwr.step && decide (d.rd PWR_RAILS_IN_WINDOW % 128 ≠ 127))

/-- A TRIP, or a safety block order, takes the converter to TRIPPED from CHARGING, BLOCKED_READY and DEBLOCKED (log entry 96, DEDUCED). -/
def Leaf.tripConv (d : Leaf) : Leaf :=
  let trip := d.conv.tripPend || d.blockOrder
  let d := { d with conv := { d.conv with tripPend := false } }
  if trip && (d.conv.st = .charging || d.conv.st = .blockedReady || d.conv.st = .deblocked) then d.setConv .tripped else d

/-- A DEADBOLT-class fault of the active leaf, or DEADBOLTED received from the partner (R40) (log entry 96, DEDUCED). -/
def Leaf.boltConv (d : Leaf) : Leaf :=
  let bolt := d.conv.boltPend
  let d := { d with conv := { d.conv with boltPend := false } }
  if bolt then d.setConv .deadbolted else d

/-! ## Automatic threshold transitions -/

/-- The CHARGE commands accepted and not completed, in acceptance order (log entry 42, DEDUCED). -/
def Leaf.pendingCharges (d : Leaf) : List Cmd := d.hnd.cmds.filter fun c => c.cls = 1 && c.op = 1 && !c.decided && c.own.isNone

/-- A pending clearing swap ends with a threshold transition to CHARGING (06_keying_image.md R232). -/
def Leaf.chargeCancels (d : Leaf) : Leaf :=
  match d.key.pend with
  | some p => if p.hitless then d else d.swapCancel p
  | none => d

/-- The thresholds at a boundary. In UNKEYED the sums of the first cycle under the new image decide (06_keying_image.md R231) (log entry 42, DEDUCED). -/
def Leaf.thresholds (d : Leaf) : Leaf :=
  match d.key.active with
  | none => d
  | some im =>
    match d.conv.st with
    | .unkeyed =>
      match d.key.firstSums with
      | some j =>
        if reached d.fab.delivered j then
          let d := { d with key := { d.key with firstSums := none } }
          if d.charged im then (d.setConv .charging).raise 0x0208 .note else d.setConv .keyedIdle
        else d
      | none => d
    | .keyedIdle =>
      if d.charged im then
        let d := (d.setConv .charging).chargeCancels
        if d.pendingCharges.isEmpty then d.raise 0x0209 .alarm
        else d.pendingCharges.foldl (fun d c => d.complete c.handle stDONE) d
      else d
    | .charging => if d.discharged im then (d.setConv .keyedIdle).raise 0x020A .note else d
    | .blockedReady => if d.discharged im then d.setConv .keyedIdle else d
    | _ => d

/-- The consecutive boundaries at which the ready condition held in CHARGING. -/
def Leaf.countReady (d : Leaf) : Leaf :=
  match d.key.active with
  | some im =>
    { d with cyc := { d.cyc with readyRun := if d.conv.st = .charging && d.readyCond im then d.cyc.readyRun + 1 else 0 } }
  | none => d

/-- The ready condition has held for the ready persistence count. -/
def Leaf.readyMet (d : Leaf) : Leaf :=
  match d.key.active with
  | some im => if d.active && d.conv.st = .charging && im.prot.readyP ≤ d.cyc.readyRun then d.setConv .blockedReady else d
  | none => d

def execReadyPersistenceMet (l : LeafId) (s : State) : Host.Outcome State Fault Refusal := onLeaf l s Leaf.readyMet

/-- The time in CHARGING, in 0.1 µs, has reached the charge time limit: a TRIP (log entry 6, DESIGN CHOICE). -/
def Leaf.chargeTimeout (d : Leaf) : Leaf :=
  match d.key.active with
  | some im =>
    if d.active && d.conv.st = .charging && im.prot.chargeLim * 10000 ≤ (d.tim.cyc - d.conv.since) * d.rd CYC_PERIOD_PERIOD then
      (d.raise 0x020B .trip).tripConv
    else d
  | none => d

def execChargeTimeLimitExpires (l : LeafId) (s : State) : Host.Outcome State Fault Refusal := onLeaf l s Leaf.chargeTimeout

/-! ## State commands (Table 12.9; R37, R38, R605) -/

/-- A clearing swap is pending (06_keying_image.md R232) (log entry 82, DEDUCED). -/
def Leaf.clearingPend (d : Leaf) : Bool := match d.key.pend with | some p => !p.hitless | none => false

/-- CHARGE (log entry 42, DEDUCED). -/
def Leaf.charge (h : Handle) (d : Leaf) : Leaf :=
  d.runCmd h 1 1 fun _ d =>
    if d.conv.st = .keyedIdle && !d.tripPersists && !d.clearingPend then (d.setConv .charging).complete h stDONE
    else d.complete h stREFUSED_STATE

def execCharge (l : LeafId) (h : Handle) (s : State) : Host.Outcome State Fault Refusal := onLeaf l s (Leaf.charge h)

/-- DEBLOCK: it completes with the first selected set (R605). -/
def Leaf.deblock (h : Handle) (d : Leaf) : Leaf :=
  d.runCmd h 1 2 fun _ d =>
    match d.key.active with
    | some im =>
      if d.conv.st = .blockedReady && d.healthyCond im && !d.tripPersists && !d.clearingPend then
        let d := d.setConv .deblocked
        { d with conv := { d.conv with deblockWait := some h } }
      else d.complete h stREFUSED_STATE
    | none => d.complete h stREFUSED_STATE

def execDeblock (l : LeafId) (h : Handle) (s : State) : Host.Outcome State Fault Refusal := onLeaf l s (Leaf.deblock h)

/-- BLOCK: it completes with the first block set (R605). -/
def Leaf.blockCmd (h : Handle) (d : Leaf) : Leaf :=
  d.runCmd h 1 3 fun _ d =>
    if d.conv.st = .deblocked then
      let d := d.setConv .blockedReady
      { d with conv := { d.conv with blockWait := d.conv.blockWait ++ [h] } }
    else d.complete h stREFUSED_STATE

def execBlock (l : LeafId) (h : Handle) (s : State) : Host.Outcome State Fault Refusal := onLeaf l s (Leaf.blockCmd h)

/-- The VCP's own open TRIP records close with a CLEAR_TRIP that acts (14_faults.md R453). -/
def Leaf.closeTrips (d : Leaf) : Leaf :=
  ({ d with flt := d.flt.close fun x => x.r.cls = FaultClass.trip && x.r.part = 0 }).fltRefresh

/-- CLEAR_TRIP: to BLOCKED_READY where the ready condition holds, to KEYED_IDLE where the converter is discharged (log entry 82, DEDUCED). -/
def Leaf.clearTrip (h : Handle) (d : Leaf) : Leaf :=
  d.runCmd h 1 4 fun _ d =>
    match d.key.active with
    | some im =>
      let goal : Option Conv := if d.conv.st ≠ .tripped || d.tripPersists then none
        else if d.readyCond im then some .blockedReady
        else if d.discharged im then some .keyedIdle
        else none
      match goal with
      | some c =>
        let d := (d.closeTrips).setConv c
        ({ d with prof := { d.prof with clearAt := some d.tim.cyc } }).complete h stDONE
      | none => d.complete h stREFUSED_STATE
    | none => d.complete h stREFUSED_STATE

def execClearTrip (l : LeafId) (h : Handle) (s : State) : Host.Outcome State Fault Refusal := onLeaf l s (Leaf.clearTrip h)

end Sys2Proof.Machine
end

