-- ==== Sys2Proof/Machine/CycleData.lean ====
section
/-! DEFINITION. Records and sums at a leaf, the uplink deadline with its stale concentrators and the input windows, and the fabric-done
instant (03_control_cycle.md R100 to R105; 05_control_fabric.md R186 to R188; 09_cell_measurement_and_sleep.md R332). -/

namespace Sys2Proof.Machine
open Reg

/-! ## Records (Table 9.3) -/

/-- The fields of a measurement half; a record's word n goes to offset 4n, and STALE is the VCP's. -/
def measFields : List Fld :=
  [CT_VCAP, CT_VPRED_CELL, CT_CELL_STATE, CT_OV_HARD, CT_OV_WARN, CT_UV, CT_OVT, CT_DESAT, CT_TEMP, CT_UPL_SEQ, CT_AUX, CT_SAMPLE_CYC, CT_STAT_AUX]

/-- The measurement half of a slot as it stands, by the keys of its fields. -/
def Leaf.measHalf (d : Leaf) (slot : Nat) : SMap Nat := (CT_STALE :: measFields).foldl (fun m f => SMap.put 0 m (f.key slot) (d.rd f slot)) []

/-- A measurement half put back. -/
def Leaf.restoreHalf (d : Leaf) (slot : Nat) (old : SMap Nat) : Leaf :=
  (CT_STALE :: measFields).foldl (fun d f => d.wr f (SMap.get 0 old (f.key slot)) slot) d

/-- What a record says of its cell's membership (11_discovery_and_membership.md Table 11.3). -/
def Leaf.judgeRecord (slot st : Nat) (d : Leaf) : Leaf :=
  let now := d.slotState slot
  if st = 5 then (if now = slBOLTED then d else d.propose slot slBOLTED)
  else if now = slACTIVE && st = 4 then d.propose slot slBYPASSED
  else if now = slBYPASSED && st = 1 then d.propose slot slACTIVE
  else d

/-- A cell's record enters the measurement half of its slot (R46, R102). One that comes after U(k) is too late (log entry 64, DEDUCED). -/
def Leaf.mergeRecord (n : Nat) (d : Leaf) (x : Nat × Nat) : Leaf :=
  match d.slotAt n x.1 with
  | none => d
  | some slot =>
    if reached d.fab.delivered (d.cycleNear (bits x.2 127 112)) then d
    else
      let c := d.cyc
      let c := if c.recsIn.contains slot then c else { c with recsIn := slot :: c.recsIn, recOld := SMap.ins c.recOld slot (d.measHalf slot) }
      let d := measFields.foldl (fun d f =>
        let lo := 8 * (f.off - 0x400000) + f.lo
        d.wr f (bits x.2 (lo + f.w - 1) lo) slot) { d with cyc := c }
      (d.wr CT_STALE 0 slot).judgeRecord slot (bits x.2 59 56)

def Leaf.records (n : Nat) (recs : List (Nat × Nat)) (d : Leaf) : Leaf :=
  if !d.running || !d.uplinkUp n then d else recs.foldl (Leaf.mergeRecord n) d

def execRecords (l : LeafId) (n : Conc) (recs : List (Port × BitVec 128)) (s : State) : Host.Outcome State Fault Refusal :=
  onLeaf l s (Leaf.records n.val (recs.map fun r => (r.1.val, r.2.toNat)))

/-- A SUMS record (10_flenor_links.md Table 10.4) of a cycle whose U has not been reached (log entry 64, DEDUCED). -/
def Leaf.sumsRecord (n v : Nat) (d : Leaf) : Leaf :=
  if !d.running || !d.uplinkUp n || bits v 511 508 ≠ 4 || reached d.fab.delivered (d.cycleNear (bits v 495 480)) then d
  else { d with cyc := { d.cyc with sumsIn := SMap.put 0 d.cyc.sumsIn n v } }

def execSums (l : LeafId) (n : Conc) (rec : BitVec 512) (s : State) : Host.Outcome State Fault Refusal := onLeaf l s (Leaf.sumsRecord n.val rec.toNat)

/-! ## Stale concentrators (R102 to R104) -/

/-- A slot without a record of the cycle: STALE, and one more silent cycle (R102). -/
def Leaf.silentSlot (d : Leaf) (slot : Nat) : Leaf :=
  { d.wr CT_STALE 1 slot with cyc := { d.cyc with silent := SMap.put 0 d.cyc.silent slot (SMap.get 0 d.cyc.silent slot + 1) } }

/-- The slots of a concentrator. -/
def Leaf.slotsAt (d : Leaf) (n : Nat) : List Nat := match d.key.active with | some im => (im.portsOf n).map (·.2) | none => []

/-- A concentrator whose sums have come: its records of the cycle count. -/
def Leaf.freshConc (d : Leaf) (n : Nat) : Leaf :=
  let d := { d with cyc := { d.cyc with staleRun := SMap.put 0 d.cyc.staleRun n 0 } }
  (d.slotsAt n).foldl (fun d s =>
    if d.cyc.recsIn.contains s then { d with cyc := { d.cyc with silent := SMap.put 0 d.cyc.silent s 0 } } else d.silentSlot s) d

/-- A stale concentrator: the records of the cycle before, a NOTE, and the ALARM of the second stale cycle of a run (R103). -/
def Leaf.staleConc (d : Leaf) (n : Nat) : Leaf :=
  let run := SMap.get 0 d.cyc.staleRun n + 1
  let d := { d with cyc := { d.cyc with staleRun := SMap.put 0 d.cyc.staleRun n run } }
  let d := d.raise 0x0205 .note n
  let d := if run = 2 then d.raise 0x0206 .alarm n else d
  (d.slotsAt n).foldl (fun d s =>
    let d := if d.cyc.recsIn.contains s then d.restoreHalf s (SMap.get [] d.cyc.recOld s) else d
    d.silentSlot s) d

/-- The declared concentrators are judged, and the sums of the cycle come into use; the stale map goes to the partner (R104) (log entry 64, DEDUCED). -/
def Leaf.judgeStale (k : Nat) (d : Leaf) : Leaf :=
  let missing := d.declared.filter fun n => SMap.get 0 d.cyc.sumsIn n = 0
  let fresh := d.declared.filter fun n => SMap.get 0 d.cyc.sumsIn n ≠ 0
  let d := missing.foldl Leaf.staleConc (fresh.foldl Leaf.freshConc d)
  let map := missing.foldl (fun m n => setBit m n true) 0
  let d := d.wr64 CYC_STALE_LO_MAP CYC_STALE_HI_MAP map
  let sums := d.cyc.sumsIn.foldl (fun (m : SMap Nat) (e : Nat × Nat) => SMap.put 0 m e.1 e.2) d.cyc.sums
  let d := { d with cyc := { d.cyc with sums := sums, ownStale := (d.cyc.ownStale ++ [(k, map)]).filter fun x => k ≤ x.1 + 8 } }
  d.mirror (.staleMap k map)

/-! ## Input windows (05_control_fabric.md R186 to R188; 06_keying_image.md Table 6.6) -/

/-- What a cycle gives an input word: a value, and whether it is of the cycle (log entry 67, DEDUCED). -/
structure Feed where
  value : Option Nat
  fresh : Bool
  deriving DecidableEq, Repr

/-- An item of an arm's aggregates, in 1/64 V or a count; none for an item that the table does not list. -/
def armItem (ws : List (Nat → Nat)) (item : Nat) : Option Nat :=
  let sum (f : (Nat → Nat) → Nat) := ws.foldl (fun a w => a + f w) 0 % 2 ^ 32
  match item with
  | 0 => some (sum fun w => 16 * w 11)
  | 1 => some (sum fun w => 16 * w 12)
  | 2 => some (16 * ws.foldl (fun a w => min a (w 13 % 65536)) 65535)
  | 3 => some (16 * ws.foldl (fun a w => max a (w 13 / 65536)) 0)
  | 4 => some (sum fun w => bits (w 14) 22 14)
  | 5 => some (sum fun w => bits (w 14) 13 5)
  | _ => none

/-- The sums of a concentrator in use are those of the cycle. -/
def Leaf.sumsNow (d : Leaf) (n : Nat) : Bool := SMap.get 0 d.cyc.sumsIn n ≠ 0

/-- The latest sample of a decimator at or before S(k): it is provided while the next one lies after S(k). Positions in 0.625 ns (log entry 67, DEDUCED). -/
def latestSample (tc sofs period k : Nat) (xs : List (Nat × Nat × Nat)) : Option Nat :=
  let at_ (x : Nat × Nat × Nat) := x.1 * tc + x.2.1
  let s := k * tc + sofs
  match (xs.filter fun x => at_ x ≤ s).foldl (fun (b : Option (Nat × Nat × Nat)) x => match b with
      | some y => if at_ y ≤ at_ x then some x else some y
      | none => some x) none with
  | some x => if s < at_ x + period then some (pat 32 (sext 16 x.2.2)) else none
  | none => none

/-- The mean of the samples of cycle k-1, halves toward +∞, once all of them have come (log entry 67, DEDUCED). -/
def meanSample (tc period k : Nat) (xs : List (Nat × Nat × Nat)) : Option Nat :=
  let ys := (xs.filter fun x => x.1 + 1 = k).map fun x => sext 16 x.2.2
  if ys = [] || ys.length < instantsIn tc period (k - 1) then none
  else some (pat 32 (Int.fdiv (2 * ys.foldl (· + ·) 0 + (ys.length : Nat)) (2 * ys.length : Nat)))

/-- The safe-function status word of a group (16_personnel_safety.md R498) (log entry 67, DEDUCED). -/
def Leaf.groupWord (d : Leaf) (g : Nat) : Nat :=
  d.grpState g + 4 * b2n (d.is SAF_GRPg_CFG_EN g && d.is SAF_GRPg_CFG_BLOCK_EN g && d.grpState g ≠ 2)

/-- What cycle `k` gives a routing entry; the profiler words of a cycle whose successor has begun were written before (R248) (log entry 4, DESIGN CHOICE). -/
def Leaf.feed (d : Leaf) (im : Image) (k : Nat) (r : RouteEnt) : Feed :=
  let src := r.source
  match r.kind with
  | 0 =>
    match im.arms[bits src 18 16]? with
    | some a =>
      let v := armItem (a.concs.map fun n => d.sumWord n) (src % 16)
      ⟨some (v.getD (d.free % 2 ^ 32)), a.concs.all d.sumsNow⟩
    | none => ⟨none, false⟩
  | 1 => let n := bits src 21 16; ⟨some (d.sumWord n (src % 16)), d.sumsNow n⟩
  | 2 =>
    let i := 8 * bits src 21 16 + src % 8
    let xs := SMap.get [] d.fab.decs i
    let tc := d.rd CYC_PERIOD_PERIOD * 160
    let p := d.decPeriod (bits src 21 16) (src % 8)
    let v := if bitOf src 8 then meanSample tc p k xs else latestSample tc (2 * d.rd CYC_SAMPLE_OFS_VALUE) p k xs
    ⟨v, v.isSome⟩
  | 3 => ⟨if k = d.tim.cyc then some (d.rd PROF_CH_VALUE_VALUE (src % 4)) else none, true⟩
  | 5 => ⟨some (d.groupWord (src % 16)), true⟩
  | _ => ⟨none, true⟩

/-- Word `i` of a tile's input window in the bank of cycle `k`. -/
def TileSt.setIn (x : TileSt) (k i v : Nat) : TileSt :=
  if k % 2 = 0 then { x with in0 := SMap.put 0 x.in0 i v } else { x with in1 := SMap.put 0 x.in1 i v }

/-- One entry is delivered; the age mask of its tile comes with it. -/
def Leaf.deliverOne (im : Image) (k : Nat) (a : Leaf × SMap Nat) (r : RouteEnt) : Leaf × SMap Nat :=
  let f := a.1.feed im k r
  let d := match f.value with
    | some v => a.1.setTile r.tile ((a.1.tile r.tile).setIn k r.inp v)
    | none => a.1
  let d := if r.kind = 0 && 5 < r.source % 16 then d.useFree else d
  (d, if f.fresh then a.2 else SMap.put 0 a.2 r.tile (setBit (SMap.get 0 a.2 r.tile) r.inp true))

/-- The input banks of cycle `k` are delivered, the age masks last (R188) (log entry 67, DEDUCED). -/
def Leaf.deliver (k : Nat) (d : Leaf) : Leaf :=
  match d.key.active with
  | none => d
  | some im =>
    let r := (im.routes.filter (·.kind ≠ 4)).foldl (Leaf.deliverOne im k) (d, [])
    (im.routes.filter (·.kind = 4)).foldl (fun d e =>
      let m := SMap.get 0 r.2 e.tile
      d.setTile e.tile ((d.tile e.tile).setIn k e.inp (if e.inp = 63 then m / 2 ^ 32 else m % 2 ^ 32))) r.1

/-- The profiler's outputs of the running cycle enter its banks (07_setpoint_profiler.md R248). -/
def Leaf.deliverProf (k : Nat) (d : Leaf) : Leaf :=
  match d.key.active with
  | none => d
  | some im => (im.routes.filter (·.kind = 3)).foldl (fun d e =>
      d.setTile e.tile ((d.tile e.tile).setIn k e.inp (d.rd PROF_CH_VALUE_VALUE (e.source % 4)))) d

/-- U(k): the stale concentrators are judged and the input banks delivered (log entry 64, DEDUCED). -/
def Leaf.uplinkDeadline (d : Leaf) : Leaf :=
  let k := d.uplCycle
  if !d.running || reached d.fab.delivered k then d
  else
    let d := (d.judgeStale k).deliver k
    { d with fab := { d.fab with delivered := some k }, cyc := { d.cyc with recsIn := [], recOld := [], sumsIn := [] } }

def execUplinkDeadline (l : LeafId) (s : State) : Host.Outcome State Fault Refusal := onLeaf l s Leaf.uplinkDeadline

/-! ## FD(k) (R105, 15_disturbance_recorder.md R474) -/

/-- A used tile that has not finished its list of cycle `k` is late, and the cycle overruns. -/
def Leaf.lateTiles (k : Nat) (d : Leaf) : Leaf :=
  let late := d.tiles.filter fun t => t.2.used && !reached t.2.lastDone k
  if late.isEmpty || k < d.key.runFrom || !d.is FAB_STATUS_RUN then d
  else
    let d := late.foldl (fun d t => d.setTile t.1 { d.tile t.1 with late := true }) d
    d.spoil k

/-- The model watch of cycle `k` (05_control_fabric.md R199 to R202): the inputs that the lists have written by FD(k) count (log entry 38, DEDUCED). -/
def Leaf.watchCycle (k : Nat) (d : Leaf) : Leaf := (List.range 12).foldl (fun d u => d.mwCycle k u) d

/-- Log entry 38, DEDUCED. -/
def Leaf.fabricDone (d : Leaf) : Leaf :=
  let k := d.fdCycle
  if !d.running || reached d.fab.fdDone k then d
  else
    let d := ((d.lateTiles k).watchCycle k).closeRow k
    { d with fab := { d.fab with fdDone := some k } }

def execFabricDoneInstant (l : LeafId) (s : State) : Host.Outcome State Fault Refusal := onLeaf l s Leaf.fabricDone

end Sys2Proof.Machine
end

