-- ==== Sys2Proof/Machine/Disc.lean ====
section
/-! DEFINITION. Discovery: knocks and their answers, the slot transitions they drive, and REPLACE
(11_discovery_and_membership.md R381 to R389, Tables 11.1 to 11.5). -/

namespace Sys2Proof.Machine
open Reg

/-! ## Knocks (R381 to R384) -/

/-- The leaf that acts on membership: the ACTIVE one; leaf 0 where neither is (log entry 22, DEDUCED). -/
def State.lead (s : State) : Leaf := if s.leaf1.active && !s.leaf0.active then s.leaf1 else s.leaf0

/-- A KNOCK body, numbered from frame bit 16 (Table 11.1). -/
def knockBody (op type slot conc port tag sn seq : Nat) : Nat :=
  op * 2 ^ 216 + type * 2 ^ 214 + slot * 2 ^ 200 + conc * 2 ^ 194 + port * 2 ^ 186 + tag * 2 ^ 154 + sn * 2 ^ 90 + seq * 2 ^ 82

/-- A JOIN is sent on a slot's port: KNOCKED, an image active and the converter not UNKEYED (06_keying_image.md R244), R25 met, and the
readmission condition of R386 (log entry 56, DESIGN CHOICE). -/
def Leaf.joins (d : Leaf) (n slot : Nat) : Bool :=
  d.slotState slot = slKNOCKED && d.key.active.isSome && d.conv.st ≠ .unkeyed && d.wiringOk n && d.readmit (d.slotInfo slot)

/-- A port is idle (R381; a LOST slot's port too, as the text after Table 11.3 says) (log entry 56, DESIGN CHOICE). -/
def Leaf.idlePort (d : Leaf) (n p : Nat) : Bool :=
  match d.slotAt n p with
  | some s => d.slotState s ≠ slACTIVE && d.slotState s ≠ slBYPASSED && d.slotState s ≠ slBOLTED
  | none => true

/-- The knock of a port at its interval: UNJOIN where one is ordered, JOIN where the slot is to be joined, PROBE otherwise (log entry 56, DESIGN CHOICE). -/
def Concentrator.knock (d : Leaf) (n : Conc) (p : Port) (c : Concentrator) : Concentrator :=
  let e : LaneEnd := .port n p
  let k := SMap.get {} c.knocks p.val
  let ordered := SMap.get 0 d.disc.unjoin (n.val * 256 + p.val)
  let k := if ordered = 0 then { k with unjoined := 0 } else k
  if !c.laneUp e || !(d.idlePort n.val p.val) then { c with knocks := SMap.put {} c.knocks p.val k }
  else
    let seq := (k.seq + 1) % 256
    let tag := match d.key.active with | some im => if d.conv.st = .unkeyed then 0 else im.mapTag | none => 0
    let send (op type slot sn : Nat) (k : Knock) : Concentrator :=
      ({ c with knocks := SMap.put {} c.knocks p.val { k with seq := seq } }).emit
        (.frame e 3 [knockBody op type slot n.val p.val tag sn seq])
    if k.unjoined < ordered then send 2 0 0 0 { k with unjoined := ordered }
    else match d.slotAt n.val p.val with
      | some s =>
        if d.joins n.val s then send 1 (d.rd CT_TYPE s) s (d.slotInfo s).ans { k with joins := k.joins + 1 }
        else send 0 0 0 0 (if d.slotState s = slKNOCKED then k else { k with joins := 0 })
      | none => send 0 0 0 0 k

/-- Log entry 56, DESIGN CHOICE. -/
def execKnockInterval (n : Conc) (p : Port) (s : State) : Host.Outcome State Fault Refusal :=
  onConc n s (Concentrator.knock s.lead n p)

/-- The serial number of a cell: the fused number counts on from place to place, so that no two cells share one (00_scope.md R608; log entry 2, DESIGN CHOICE). -/
def Cell.serialNo (d : Cell) (c : CellId) : Nat := d.ident.serial + c.key

/-- A KNOCK_ANSWER body (Table 11.2). -/
def Cell.answerBody (d : Cell) (c : CellId) (echo : Nat) : Nat :=
  d.ident.variant * 2 ^ 211 + d.serialNo c % 2 ^ 64 * 2 ^ 147 + d.rd CUPD_VER_RUN_VERSION * 2 ^ 115 + d.rd CPWM_STATUS_TYPE * 2 ^ 113 +
  d.reported * 2 ^ 109 + d.rd CRET_STATUS_FROM_OFF * 2 ^ 108 + d.rd CRET_STATUS_VALID * 2 ^ 107 + d.rd CBYP_CFG_LOCK * 2 ^ 106 +
  d.rd CBYP_STATUS_BOLTED * 2 ^ 105 + d.rd CUPD_STATUS_TRIAL * 2 ^ 104 + d.rd CRET_STATUS_WAKES * 2 ^ 88 + d.ret.mapHash % 2 ^ 32 * 2 ^ 56 +
  echo * 2 ^ 48 + d.rd CBYP_OV_HARD * 2 ^ 32

/-- Every KNOCK is answered, in every operating state (R382, R384). -/
def Cell.answer (c : CellId) (body : Nat) (d : Cell) : Cell := d.emit (.frame (.cell c) 4 [d.answerBody c (bits body 89 82)])

/-- PROBE: answered, nothing else. A body of another OP is invalid. -/
def Cell.probe (c : CellId) (body : Nat) (d : Cell) : Cell := if bits body 218 216 = 0 then d.answer c body else d

/-- JOIN: acted on when SN is the cell's own, not while BOLTED (R384). -/
def Cell.join (c : CellId) (body : Nat) (d : Cell) : Cell :=
  if bits body 218 216 ≠ 1 then d
  else
    let d :=
      if bits body 153 90 = d.serialNo c && !d.is CBYP_STATUS_BOLTED then
        let d := d.wr CPWM_STATUS_TYPE (bits body 215 214)
        ({ d with ret := { d.ret with mapHash := d.ret.mapHash / 2 ^ 32 * 2 ^ 32 + bits body 185 154 } }).judgeStart
      else d
    d.answer c body

/-- UNJOIN: TYPE 0, not while BOLTED (R384). -/
def Cell.unjoin (c : CellId) (body : Nat) (d : Cell) : Cell :=
  if bits body 218 216 ≠ 2 then d
  else (if d.is CBYP_STATUS_BOLTED then d else d.wr CPWM_STATUS_TYPE 0).answer c body

def execProbe (c : CellId) (body : BitVec 219) (s : State) : Host.Outcome State Fault Refusal :=
  onCell c s fun d => d.runs (Cell.probe c body.toNat)
def execJoin (c : CellId) (body : BitVec 219) (s : State) : Host.Outcome State Fault Refusal :=
  onCell c s fun d => d.runs (Cell.join c body.toNat)
def execUnjoin (c : CellId) (body : BitVec 219) (s : State) : Host.Outcome State Fault Refusal :=
  onCell c s fun d => d.runs (Cell.unjoin c body.toNat)

/-! ## Answers (R385 to R387) -/

/-- The slot after an answer (R390). -/
def SlotInfo.heard (i : SlotInfo) (b : Nat) : SlotInfo :=
  { i with answered := true, ans := bits b 210 147, variant := bits b 218 211, fw := bits b 146 115, st := bits b 112 109, lock := bitOf b 106,
           hard := bits b 47 32, type := bits b 114 113, trial := bitOf b 104 }

/-- A serial number stands in another slot (log entry 79, DEDUCED). -/
def Leaf.dupSn (d : Leaf) (slot sn : Nat) : Bool :=
  d.disc.slots.any fun e => e.1 ≠ slot && ((e.2.sn = sn && d.slotState e.1 ≠ slEMPTY) ||
    (e.2.ans = sn && SMap.get 16 d.cyc.member e.1 ≠ 16 && e.2.answered))

/-- QREASON of an answer: the first of UNKNOWN_VARIANT, WRONG_TYPE (00_scope.md R4), DUPLICATE_SN; 0 for none (log entry 79, DEDUCED). -/
def Leaf.quarReason (d : Leaf) (slot : Nat) (i : SlotInfo) : Nat :=
  if i.variant ≠ 1 && i.variant ≠ 2 then 2
  else if i.variant = 2 && d.rd CT_TYPE slot ≠ 1 then 1
  else if d.dupSn slot i.ans then 3
  else 0

/-- The transition that an answer on a slot's port asks for (Table 11.3). `joined`: a JOIN has been sent. -/
def Leaf.answerTarget (d : Leaf) (n slot : Nat) (i : SlotInfo) (bolted joined : Bool) : Option Nat :=
  let st := d.slotState slot
  if bolted || i.st = 5 then (if st = slBOLTED then none else some slBOLTED)
  else if st = slEMPTY then
    if d.quarReason slot i ≠ 0 then some slQUARANTINED else if d.wiringOk n then some slKNOCKED else none
  else if st = slKNOCKED then
    if d.quarReason slot i ≠ 0 then some slQUARANTINED
    else if joined && i.type = d.rd CT_TYPE slot && d.key.active.isSome then some slJOINED else none
  else if st = slJOINED then (if d.admits i && d.wiringOk n then some slACTIVE else none)
  else if st = slLOST then (if i.ans = i.sn || d.conv.st ≠ .deblocked then some slKNOCKED else none)
  else none

/-- An answer on a port that the map does not name (R387): recorded, one NOTE until the port's lane has left UP (log entry 57, DEDUCED). -/
def Leaf.unmapped (n p sn ups : Nat) (d : Leaf) : Leaf :=
  if d.key.active.isNone then d
  else
    let d := ((d.wr DISC_UNMAP_VALID 1).wr DISC_UNMAP_CONC n).wr DISC_UNMAP_PORT p
    let d := (d.wr64 DISC_UNMAP_SN_LO_SN DISC_UNMAP_SN_HI_SN sn).discEvt DISC_EVT_UNMAP
    let k := n * 256 + p
    if SMap.get 0 d.disc.noted k = ups + 1 then d
    else ({ d with disc := { d.disc with noted := SMap.put 0 d.disc.noted k (ups + 1) } }).raise 0x2409 .note n 0 p

/-- A cell whose trial fell back shows it: the trial bit is gone and the version is another (17_updates.md R539) (log entry 58, DEDUCED). -/
def fellBack (old new : SlotInfo) : Bool := old.answered && old.trial && !new.trial && old.ans = new.ans && old.fw ≠ new.fw

/-- An answer that the concentrator forwards (R382, R385): ignored when its ECHO_SEQ is not the last KNOCK_SEQ, when the concentrator is
not declared, or beyond its ports (R380). Both leaves keep it; the active leaf acts on it (log entry 57, DEDUCED; log entry 58, DEDUCED). -/
def Leaf.knockAnswer (c : Concentrator) (n p body : Nat) (d : Leaf) : Leaf :=
  let k := SMap.get {} c.knocks p
  if !d.running || bits body 55 48 ≠ k.seq || SMap.get 0 d.disc.caps n = 0 then d
  else if d.key.active.isSome && !(d.declared.contains n) then d
  else match d.slotAt n p with
    | none => d.unmapped n p (bits body 210 147) (SMap.get {} c.lanes p).ups
    | some slot =>
      if d.portCount n ≤ p then d
      else
        let old := d.slotInfo slot
        let i := old.heard body
        let i := { i with qreason := if d.slotState slot = slEMPTY || d.slotState slot = slKNOCKED then d.quarReason slot i else i.qreason }
        let d := d.setInfo slot i
        let d := if fellBack old i then d.raise 0x2A01 .alarm slot 0 4 else d
        let d := match d.answerTarget n slot i (bitOf body 105) (0 < k.joins) with
          | some t => d.propose slot t
          | none => d
        d.discShow

def execKnockAnswer (l : LeafId) (n : Conc) (p : Port) (body : BitVec 219) (s : State) : Host.Outcome State Fault Refusal :=
  onLeaf l s (Leaf.knockAnswer (s.conc n) n.val p.val body.toNat)

/-- Three JOIN knocks without an answer that shows the TYPE sent (log entry 79, DEDUCED). -/
def Leaf.joinFailed (concs : Nat → Concentrator) (slot : Nat) (d : Leaf) : Leaf :=
  match d.key.active.bind (fun im => im.entryOf slot) with
  | some e =>
    let i := d.slotInfo slot
    if d.active && d.slotState slot = slKNOCKED && 3 ≤ (SMap.get {} (concs e.conc).knocks e.port).joins && i.type ≠ d.rd CT_TYPE slot then
      (d.setInfo slot { i with qreason := 4 }).propose slot slQUARANTINED
    else d
  | none => d

def execJoinFailed (l : LeafId) (slot : Slot) (s : State) : Host.Outcome State Fault Refusal :=
  onLeaf l s (Leaf.joinFailed (fun n => SMap.get {} s.concs n) slot.val)

/-- Sixteen consecutive silent cycles (03_control_cycle.md R102). -/
def Leaf.cellLost (slot : Nat) (d : Leaf) : Leaf :=
  if (d.slotState slot = slACTIVE || d.slotState slot = slBYPASSED) && 16 ≤ SMap.get 0 d.cyc.silent slot then d.propose slot slLOST else d

def execCellLost (l : LeafId) (slot : Slot) (s : State) : Host.Outcome State Fault Refusal := onLeaf l s (Leaf.cellLost slot.val)

/-- A port's lane has been out of UP for 1 s. -/
def Leaf.portDown (up : Bool) (n p : Nat) (d : Leaf) : Leaf :=
  match d.slotAt n p with
  | some s =>
    let st := d.slotState s
    if !up && (st = slKNOCKED || st = slJOINED || (st = slQUARANTINED && !d.moving)) then d.propose s slEMPTY else d
  | none => d

def execPortDownTimeout (l : LeafId) (n : Conc) (p : Port) (s : State) : Host.Outcome State Fault Refusal :=
  onLeaf l s (Leaf.portDown ((s.conc n).laneUp (.port n p)) n.val p.val)

/-! ## REPLACE (R389, Table 11.5) -/

/-- The slot is freed at the next boundary; the parameters are judged first. -/
def Leaf.replace (h : Handle) (d : Leaf) : Leaf :=
  d.runCmd h 6 0x30 fun c d =>
    let slot := c.par 0 14
    let st := d.slotState slot
    if !d.slotMapped slot then d.complete h stINVALID
    else if d.disc.replaced.contains (h, slot) && st = slEMPTY then d.complete h stDONE
    else if d.conv.st = .deblocked || (st ≠ slBOLTED && st ≠ slQUARANTINED) then d.complete h stREFUSED_STATE
    else { d with disc := { d.disc with replace := d.disc.replace ++ [(h, slot)] } }

def execReplace (l : LeafId) (h : Handle) (s : State) : Host.Outcome State Fault Refusal := onLeaf l s (Leaf.replace h)

end Sys2Proof.Machine
end

