-- ==== Sys2Proof/Machine/Host.lean ====
section
/-! DEFINITION. The host interface (12_host_interface_and_handles.md R391 to R421, R606, R607): doorbell and fetch, acceptance and its
journal, completions and their acknowledgement, the rings, and the DIAG commands. -/

namespace Sys2Proof.Machine
open Reg

/-- A standby is present: the mirror link is UP and the partner is STANDBY (R403). -/
def Leaf.standbyPresent (d : Leaf) : Bool :=
  d.is HNG_STATUS_PARTNER_UP && (match d.hng.partner.ident with | some i => i.role = 2 | none => false)

def Leaf.sqBase (d : Leaf) : Nat := d.rd HND_SQ_BASE_LO_ADDR * 4096 + 2 ^ 32 * d.rd HND_SQ_BASE_HI_ADDR
def Leaf.cqBase (d : Leaf) : Nat := d.rd HND_CQ_BASE_LO_ADDR * 4096 + 2 ^ 32 * d.rd HND_CQ_BASE_HI_ADDR
def Leaf.sqSize (d : Leaf) : Nat := d.rd HND_SQ_SIZE_SIZE
def Leaf.cqSize (d : Leaf) : Nat := d.rd HND_CQ_SIZE_SIZE

/-- The acceptance status of entry `i`: words 14 and 15 before word 13 (R404). -/
def Leaf.writeStatus (d : Leaf) (i accept reason handle : Nat) : Leaf :=
  let a := d.sqBase + 64 * i
  let d := (d.emit (.dma (a + 56) [handle % 2 ^ 32, handle / 2 ^ 32])).emit (.dma (a + 52) [accept * 2 ^ 28 + reason * 2 ^ 24])
  if accept = 1 then d else d.msix 1

/-- The entry at the head is consumed (R405). -/
def Leaf.advanceHead (d : Leaf) (i : Nat) : Leaf := d.wr HND_SQ_HEAD_HEAD ((i + 1) % max 1 d.sqSize)

/-- The entry is answered RETRY; fetching stops at it (R405). -/
def Leaf.retry (d : Leaf) (i reason : Nat) : Leaf :=
  let d := (d.writeStatus i 2 reason 0).sat HND_CNT_RETRY
  { d with hnd := { d.hnd with stopped := true } }

/-- The entry is answered MALFORMED and consumed; `record`: with its SKIP record (R398, R406). -/
def Leaf.malformed (d : Leaf) (i tag crc : Nat) (record : Bool) : Leaf :=
  let d := if record then
      d.jwrite { JRec.empty with kind := 2, sqIndex := i, cycle := d.tim.cyc % 65536, tagOrCseq := tag, crcOrStatus := crc }
    else d
  ((d.writeStatus i 3 0 0).sat HND_CNT_MALFORMED).advanceHead i

/-- The unit a class needs is absent on this variant (00_scope.md R5): the recorder of a KV-6040. -/
def Leaf.classAbsent (d : Leaf) (cls : Nat) : Bool := cls = 5 && d.ident.variant = 3

/-- The command is accepted (R402, R403): its status is written, and an absent unit or an unknown opcode completes at once (R5,
R398). -/
def Leaf.accept (d : Leaf) (c : Cmd) : Leaf :=
  let d := { d with hnd := { d.hnd with cmds := d.hnd.cmds ++ [c], accepting := none, late := false } }
  let d := (d.wr64 HND_SEQ_LO_VALUE HND_SEQ_HI_VALUE (c.handle % 2 ^ 48)).writeStatus c.idx 1 0 c.handle
  let d := d.advanceHead c.idx
  if d.classAbsent c.cls then d.complete c.handle stABSENT
  else if !opcodeOk c.cls c.op then d.complete c.handle stINVALID
  else d

/-- The three acceptance records of a command (Table 12.6). -/
def acceptRecs (c : Cmd) (words : Nat) : List JRec :=
  [{ JRec.empty with kind := 1, sqIndex := c.idx, cycle := c.cycle % 65536, handle := c.handle, tagOrCseq := c.tag, crcOrStatus := c.crc },
   { JRec.empty with kind := 6, sqIndex := c.idx, cycle := c.cycle % 65536, handle := c.handle, data := words % 2 ^ 192 },
   { JRec.empty with kind := 6, sqIndex := c.idx, cycle := c.cycle % 65536, handle := c.handle, data := words / 2 ^ 192 % 2 ^ 192 }]

/-- A live acceptance (or, with `kind` 2, SKIP) record for ring index `i` with this tag (R406) (log entry 10, DEDUCED). -/
def Hnd.recordFor (h : Hnd) (kind i tag : Nat) : Option JRec :=
  (h.journal.find? fun p => p.2.kind = kind && p.2.sqIndex = i && p.2.tagOrCseq = tag && h.isLive p.1 p.2).map (·.2)

/-- An entry of 64 bytes is judged (R398, R405, R406); bytes 0 to 47 are covered by its CRC (log entry 10, DEDUCED). -/
def Leaf.judge (d : Leaf) (i e : Nat) : Leaf :=
  let tag := bits e 63 32
  let crc := bits e 415 384
  let cls := bits e 31 24
  if !d.active then d.retry i 1
  else if d.hng.takeover then d.retry i 2
  else match d.hnd.recordFor 1 i tag with
    | some r =>
      if r.crcOrStatus = crc then
        match d.hnd.accepting with
        | some c => if c.handle = r.handle then d.accept c else (d.writeStatus i 1 0 r.handle).advanceHead i
        | none => (d.writeStatus i 1 0 r.handle).advanceHead i
      else d.malformed i tag crc true
    | none => match d.hnd.recordFor 2 i tag with
      | some _ => d.malformed i tag crc (decide ((d.hnd.recordFor 2 i tag).map (·.crcOrStatus) ≠ some crc))
      | none =>
        if 65536 < d.hnd.live + 64 || d.hnd.formatCseq.isSome then d.retry i 3
        else if d.hnd.mramBad && !d.standbyPresent then d.retry i 4
        else if cls = 0 || 8 < cls || bits e 15 0 ≠ 0 || crc32c (leBytes 48 e) ≠ crc then d.malformed i tag crc true
        else
          let q := d.hnd.seq + 1
          let c := Cmd.mk (cls * 2 ^ 56 + q % 2 ^ 48) cls (bits e 23 16) (bits e 383 64) i tag crc d.tim.cyc none false false none false
          let rs := acceptRecs c (bits e 383 0)
          let d := { d with hnd := { d.hnd with seq := q, accepting := some c, late := false } }
          (rs.foldl Leaf.jwrite d).mirror (.journal rs)

/-- A fetched submission entry, or a fetch that failed four times (R393) (log entry 10, DEDUCED). -/
def Leaf.entryFetched (entry : Option (BitVec 512)) (d : Leaf) : Leaf :=
  let i := d.rd HND_SQ_HEAD_HEAD
  if !d.is HND_CFG_EN || d.hnd.stopped || i = d.rd HND_SQ_TAIL_TAIL || (d.hnd.accepting.isSome && entry.isNone) then d
  else match entry with
    | none => ({ d with hnd := { d.hnd with stopped := true } }.wr HND_STATUS_FETCH_FAULT 1).raise 0x2501 .alarm
    | some e => d.judge i e.toNat

/-- A write of HND_SQ_TAIL: the doorbell (R404); fetching resumes (R393, R405). A latched leaf ignores it (14_faults.md R464) (log entry 11, DEDUCED). -/
def Leaf.doorbell (val : Word) (d : Leaf) : Leaf :=
  if !d.writable then d
  else { d.wr HND_SQ_TAIL_TAIL (val.toNat % 4096) with hnd := { d.hnd with stopped := false } }

def execDoorbell (l : LeafId) (val : Word) (s : State) : Host.Outcome State Fault Refusal := onLeaf l s (Leaf.doorbell val)

def execEntryFetched (l : LeafId) (entry : Option (BitVec 512)) (s : State) : Host.Outcome State Fault Refusal :=
  onLeaf l s (Leaf.entryFetched entry)

/-- The standby acknowledges the acceptance records: the command is accepted (R403). -/
def Leaf.journalAck (d : Leaf) : Leaf :=
  match d.hnd.accepting with
  | some c => if d.standbyPresent && d.active then d.accept c else d
  | none => d

def execJournalAck (l : LeafId) (s : State) : Host.Outcome State Fault Refusal := onLeaf l s Leaf.journalAck

/-- An MRAM write of acceptance records ends (R403, R405). Failed: with a standby it is a self-diagnosis cause, otherwise the
journal fault, and the entry is answered RETRY JOURNAL_FAULT. -/
def Leaf.mramWriteDone (ok : Bool) (d : Leaf) : Leaf :=
  if ok then
    let d := { d with hnd := { d.hnd with mramBad := false } }
    match d.hnd.accepting with
    | some c => if d.active && (!d.standbyPresent || d.hnd.late) then d.accept c else d
    | none => d
  else
    let d := { d with hnd := { d.hnd with mramBad := true } }.wr HND_STATUS_JRNL_FAULT 1
    let single := !d.standbyPresent
    let d := match d.hnd.accepting with
      | some c =>
        if single && d.active then
          { d with hnd := { d.hnd with accepting := none, journal := d.hnd.journal.filter (·.2.handle ≠ c.handle), seq := d.hnd.seq - 1 } }.retry
            c.idx 4
        else d
      | none => d
    d.selfDiag 6 0x2502 .alarm 0 0

/-- Log entry 9, DESIGN CHOICE. -/
def execMramWriteDone (l : LeafId) (ok : Bool) (s : State) : Host.Outcome State Fault Refusal := onLeaf l s (Leaf.mramWriteDone ok)

/-- 10 µs without the standby's acknowledgement: it is told that it was late (R403). -/
def Leaf.journalAckTimeout (d : Leaf) : Leaf :=
  if d.active && d.hnd.accepting.isSome && d.standbyPresent then
    { d with hnd := { d.hnd with late := true } }.mirror .journalLate
  else d

def execJournalAckTimeout (l : LeafId) (s : State) : Host.Outcome State Fault Refusal := onLeaf l s Leaf.journalAckTimeout

/-! ## Completions -/

/-- The 32 bytes of a completion entry (R399, Table 12.4). -/
def Compl.words (c : Compl) : List Nat :=
  let ws := [c.handle % 2 ^ 32, c.handle / 2 ^ 32 % 2 ^ 32, c.cseq % 2 ^ 32, c.cseq / 2 ^ 32 % 65536 * 65536 + c.status * 256,
    c.result, c.detail, c.cycle * 65536]
  ws ++ [crc32c (ws.flatMap (leBytes 4))]

/-- Vector 0 fires for the completions written since it last fired (R392). -/
def Leaf.fireCompletions (d : Leaf) : Leaf := { d with hnd := { d.hnd with unsignalled := 0 } }.msix 0

/-- There is no room for the next completion (R400). -/
def Leaf.cqFull (d : Leaf) : Bool := d.hnd.cqNext < d.hnd.cseq && d.hnd.ack + d.cqSize ≤ d.hnd.cqNext

/-- The next decided completion is written in CSEQ order while there is room (R399, R400). -/
def Leaf.completionWrite (d : Leaf) : Leaf :=
  if !d.is HND_CFG_EN || !d.active || d.hng.takeover then d
  else match d.hnd.compl.find? (·.cseq = d.hnd.cqNext) with
    | none => d
    | some c =>
      if d.cqFull then d.wr HND_STATUS_CQ_FULL 1
      else
        let d := d.emit (.dma (d.cqBase + 32 * (c.cseq % max 1 d.cqSize)) c.words)
        let d := { d with hnd := { d.hnd with cqNext := c.cseq + 1, unsignalled := d.hnd.unsignalled + 1 } }
        let d := (d.wr64 HND_CQ_NEXT_LO_VALUE HND_CQ_NEXT_HI_VALUE d.hnd.cqNext).wr HND_STATUS_CQ_FULL (b2n d.cqFull)
        if d.rd HND_IRQ_CFG_COUNT ≤ d.hnd.unsignalled then d.fireCompletions else d

def execCompletionWrite (l : LeafId) (s : State) : Host.Outcome State Fault Refusal := onLeaf l s Leaf.completionWrite

/-- TIME_US after the first unsignalled completion vector 0 fires even below COUNT (R392). -/
def Leaf.completionIrqTimer (d : Leaf) : Leaf :=
  if d.rd HND_IRQ_CFG_TIME_US ≠ 0 && d.hnd.unsignalled ≠ 0 then d.fireCompletions else d

def execCompletionIrqTimer (l : LeafId) (s : State) : Host.Outcome State Fault Refusal := onLeaf l s Leaf.completionIrqTimer

/-- The 48-bit count at or after `ack` whose low 32 bits are `v` (R401). -/
def extendAck (ack v : Nat) : Nat :=
  let q := ack / 2 ^ 32 * 2 ^ 32 + v
  if q < ack then q + 2 ^ 32 else q

/-- The acknowledgement advances to `q`: the completions before it and their records become free (R409). -/
def Leaf.ackTo (q : Nat) (d : Leaf) : Leaf :=
  let gone := (d.hnd.compl.filter (·.cseq < q)).map (·.handle)
  let d := { d with hnd := { d.hnd with ack := q, compl := d.hnd.compl.filter (q ≤ ·.cseq), cmds := d.hnd.cmds.filter (!gone.contains ·.handle) } }
  let d := d.jwrite { JRec.empty with kind := 5, cycle := d.tim.cyc % 65536, tagOrCseq := q % 2 ^ 32, crcOrStatus := q / 2 ^ 32 * 65536 }
  (d.wr HND_CQ_ACK_CSEQ q).wr HND_STATUS_CQ_FULL (b2n d.cqFull)

/-- A write to HND_CQ_ACK (R401); on a leaf that is not active it is ignored and sets CFG_REFUSED (R394). -/
def Leaf.ackWrite (val : Word) (d : Leaf) : Leaf :=
  if !d.writable then d
  else if !d.active then d.wr HND_STATUS_CFG_REFUSED 1
  else
    let q := extendAck d.hnd.ack val.toNat
    if d.hnd.cqNext < q then d.wr HND_STATUS_ACK_BAD 1
    else if q = d.hnd.ack then d
    else d.ackTo q

def execHndCqAckWrite (l : LeafId) (val : Word) (s : State) : Host.Outcome State Fault Refusal := onLeaf l s (Leaf.ackWrite val)

/-! ## The rings (R394, R395) -/

/-- The head that the journal gives (R607): the ring index of the newest ACCEPT or SKIP record, else HND_SQ_HEAD. -/
def Leaf.journalHead (d : Leaf) : Nat :=
  match d.hnd.newest with
  | some (j, _) => (SMap.get JRec.empty d.hnd.journal j).sqIndex
  | none => d.rd HND_SQ_HEAD_HEAD

/-- Completions are written again from the acknowledgement on, and fetching starts at the head that the journal gives (log entry 95, DEDUCED). -/
def Leaf.resumeRings (d : Leaf) : Leaf :=
  let d := { d with hnd := { d.hnd with cqNext := d.hnd.ack, stopped := false } }
  (d.wr64 HND_CQ_NEXT_LO_VALUE HND_CQ_NEXT_HI_VALUE d.hnd.cqNext).wr HND_SQ_HEAD_HEAD d.journalHead

/-- Setting HND_CFG.EN (R395). -/
def Leaf.hndEnable (d : Leaf) : Leaf :=
  if !d.writable || d.is HND_CFG_EN then d else (d.wr HND_CFG_EN 1).resumeRings

def execHndEnable (l : LeafId) (s : State) : Host.Outcome State Fault Refusal := onLeaf l s Leaf.hndEnable

/-- Fetching and completion writes stop; the journal stays (R395) (log entry 12, DEDUCED). -/
def Leaf.stopRings (d : Leaf) : Leaf := d.wr HND_CFG_EN 0

/-- Clearing HND_CFG.EN (R395) (log entry 12, DEDUCED). -/
def Leaf.hndDisable (d : Leaf) : Leaf := if !d.writable then d else d.stopRings

def execHndDisable (l : LeafId) (s : State) : Host.Outcome State Fault Refusal := onLeaf l s Leaf.hndDisable

/-- A function-level reset (R395); it leaves a deadbolt latch set (14_faults.md R463) (log entry 12, DEDUCED). -/
def execFunctionLevelReset (l : LeafId) (s : State) : Host.Outcome State Fault Refusal := onLeaf l s Leaf.stopRings

/-- A hot reset or link-down of PCI Express (R395) (log entry 12, DEDUCED). -/
def execPcieLinkDown (l : LeafId) (s : State) : Host.Outcome State Fault Refusal := onLeaf l s fun d => d.stopRings

/-- A ring size: a power of two from 16 to 4,096 (R394). -/
def ringSizeOk (v : Nat) : Bool := [16, 32, 64, 128, 256, 512, 1024, 2048, 4096].contains v

/-- A write of a ring base or size (R394). -/
def Leaf.ringSettingWrite (off : Nat) (val : Word) (d : Leaf) : Leaf :=
  if !d.writable then d
  else if d.is HND_CFG_EN || !d.active then d.wr HND_STATUS_CFG_REFUSED 1
  else
    let size (f : Fld) := if ringSizeOk (val.toNat % 8192) then d.wr f (val.toNat % 8192) else d.wr HND_STATUS_CFG_REFUSED 1
    if off = 0x250008 then d.wr HND_SQ_BASE_LO_ADDR (val.toNat / 4096)
    else if off = 0x25000C then d.wr HND_SQ_BASE_HI_ADDR val.toNat
    else if off = 0x250010 then size HND_SQ_SIZE_SIZE
    else if off = 0x250020 then d.wr HND_CQ_BASE_LO_ADDR (val.toNat / 4096)
    else if off = 0x250024 then d.wr HND_CQ_BASE_HI_ADDR val.toNat
    else if off = 0x250028 then size HND_CQ_SIZE_SIZE
    else d

def execRingSettingWrite (l : LeafId) (off : Nat) (val : Word) (s : State) : Host.Outcome State Fault Refusal :=
  onLeaf l s (Leaf.ringSettingWrite off val)

/-! ## DIAG commands (R414, Table 12.9a) -/

/-- ECHO: RESULT is VALUE, DETAIL the cycle of acceptance. -/
def Leaf.echo (h : Handle) (d : Leaf) : Leaf := d.runOuter h 8 1 true fun c d => d.complete h stDONE (c.par 0 32) c.cycle

def execEcho (l : LeafId) (h : Handle) (s : State) : Host.Outcome State Fault Refusal := onLeaf l s (Leaf.echo h)

/-- The eight words of a journal record (Table 12.7); an index that holds none reads as zeros, whose RCRC fails. -/
def JRec.wordsOf (r : JRec) : List Nat :=
  if r = JRec.empty then [0, 0, 0, 0, 0, 0, 0, 0]
  else
    let w0 := r.kind * 2 ^ 28 + r.sqIndex * 65536 + r.cycle
    let ws := w0 :: (if r.kind = 6 then leWords 6 r.data
      else [r.handle % 2 ^ 32, r.handle / 2 ^ 32, r.tagOrCseq, r.crcOrStatus, r.result, r.detail])
    ws ++ [crc32c (ws.flatMap (leBytes 4))]

/-- JOURNAL_READ: COUNT records from FIRST on, around the ring of 65,536. -/
def Leaf.journalRead (h : Handle) (d : Leaf) : Leaf :=
  d.runOuter h 8 2 true fun c d =>
    let n := c.par 16 16
    if n = 0 || 4096 < n then d.complete h stINVALID
    else
      let rs := (List.range n).map fun i => SMap.get JRec.empty d.hnd.journal ((c.par 0 16 + i) % 65536)
      (d.emit (.dma (c.par 32 64) (rs.flatMap JRec.wordsOf))).complete h stDONE n (rs.filter (· = JRec.empty)).length

def execJournalRead (l : LeafId) (h : Handle) (s : State) : Host.Outcome State Fault Refusal := onLeaf l s (Leaf.journalRead h)

/-- FORMAT_JOURNAL: CONFIRM is checked first, then the converter state and the live records (R409, R414) (log entry 9, DESIGN CHOICE). -/
def Leaf.formatJournal (h : Handle) (d : Leaf) : Leaf :=
  d.runCmd h 8 3 fun c d =>
    if c.par 0 32 ≠ 0x464D544A then d.complete h stINVALID
    else if !(d.conv.st = .unkeyed || d.conv.st = .keyedIdle) || d.hnd.journal.any (fun p => d.hnd.isLive p.1 p.2 && p.2.handle ≠ h) then
      d.complete h stREFUSED_STATE
    else
      let q := d.hnd.cseq
      let d := d.complete h stDONE
      { d with hnd := { d.hnd with formatCseq := some q } }

def execFormatJournal (l : LeafId) (h : Handle) (s : State) : Host.Outcome State Fault Refusal := onLeaf l s (Leaf.formatJournal h)

/-- At the boundary after the acknowledgement of the FORMAT_JOURNAL completion the leaf formats (R414). -/
def Leaf.journalFormat (d : Leaf) : Leaf :=
  match d.hnd.formatCseq with
  | some q =>
    if q < d.hnd.ack then
      let d := { d with hnd := { d.hnd with journal := [], mram := [], jnext := 0, newest := none, cseq := 0, seq := 0, cqNext := 0, ack := 0,
                                            cmds := [], compl := [], accepting := none, late := false, formatCseq := none, stopped := false } }
      (((d.wr HND_CQ_ACK_CSEQ 0).wr HND_SQ_HEAD_HEAD 0).wr64 HND_CQ_NEXT_LO_VALUE HND_CQ_NEXT_HI_VALUE 0).wr64 HND_SEQ_LO_VALUE
        HND_SEQ_HI_VALUE 0 |>.wr HND_JRNL_LIVE 0 |>.wr HND_STATUS_CQ_FULL 0
    else d
  | none => d

def execJournalFormat (l : LeafId) (s : State) : Host.Outcome State Fault Refusal := onLeaf l s Leaf.journalFormat

end Sys2Proof.Machine
end

