-- ==== Sys2Proof/Machine/Publish.lean ====
section
/-! DEFINITION. P(k): the overrun count, the command set, skip header or block set of the active leaf, the STANDBY frame of the other leaf,
and the comparison of the two leaves' sets (03_control_cycle.md R93, R100, R105 to R108, R113, R114; 04_tumblers_and_arm_modulation.md R157 to
R165; 13_the_hinge.md R425 to R428, R444). -/

namespace Sys2Proof.Machine
open Reg

/-! ## Overruns (R105, R113, R114) -/

/-- Why cycle `k` overran: bit 0 by a tile, bit 1 by a tumbler that has not finished at P(k) (log entry 66, DEDUCED). -/
def Leaf.overrunCause (d : Leaf) (k : Nat) : Nat :=
  match d.key.active with
  | none => 0
  | some im =>
    if k < d.key.runFrom || d.conv.st = .unkeyed then 0
    else
      let noPick := (List.range im.arms.length).any fun a => match (d.tumOf a).pick with | some p => p.cycle ≠ k | none => true
      b2n (d.cyc.tileLate.contains k) + 2 * b2n (d.cyc.tumLate.contains k || noPick)

/-- The escalation of R113: eight overruns within the last 500 cycles are a TRIP, which is a self-diagnosis cause. -/
def Leaf.overrunStorm (k : Nat) (d : Leaf) : Leaf :=
  if 8 ≤ d.cyc.ovrWin.length then ({ d with cyc := { d.cyc with lastStorm := some k } }).selfDiag 5 0x0203 .trip 0 0 else d

/-- The overrun of cycle `k` is counted; the errors are raised from the highest class down (14_faults.md R456) (log entry 66, DEDUCED). -/
def Leaf.countOverrun (k cause : Nat) (d : Leaf) : Leaf :=
  let win := (d.cyc.ovrWin.filter fun j => k < j + 500) ++ (if cause = 0 then [] else [k])
  let d := { d with cyc := { d.cyc with ovrWin := win, tileLate := d.cyc.tileLate.filter (k < ·), tumLate := d.cyc.tumLate.filter (k < ·) } }
  let d := d.wr CYC_OVR_WINDOW (min 255 win.length)
  if cause = 0 then d.wr CYC_OVR_CONSEC 0
  else
    let d := (((d.sat CYC_OVR_TOTAL).sat CYC_OVR_CONSEC).wr CYC_OVR_LAST_CAUSE cause).wr CYC_OVR_LAST_CYCLE k
    let d := d.overrunStorm k
    let d := if d.rd CYC_OVR_CONSEC = 2 then d.raise 0x0202 .alarm else d
    d.raise 0x0201 .note 0 cause

/-! ## What is published (R107, R160; 01_architecture.md R35) -/

/-- What stands on the uplinks in place of, or as, the command set (log entry 66, DEDUCED). -/
inductive PubKind where
  | block | standstill | skip | selected
  deriving DecidableEq, Repr

/-- A block set goes out in every state of Table 1.4 that says so, and when a trip or a safety order calls for it (log entry 96, DEDUCED). -/
def Leaf.mustBlock (d : Leaf) : Bool :=
  !(d.conv.st = .deblocked || d.conv.st = .blockedReady) || d.conv.tripPend || d.conv.boltPend || d.blockOrder

/-- Log entry 66, DEDUCED. -/
def Leaf.pubKind (d : Leaf) (overran : Bool) : PubKind :=
  if d.mustBlock then .block else if d.conv.st = .blockedReady then .standstill else if overran then .skip else .selected

/-- The words of a set by slot, and the output modes it leaves (R160, R162). -/
def Leaf.setWords (d : Leaf) (kind : PubKind) : Leaf × List (Nat × Nat) :=
  match kind with
  | .block => ((List.range 6).foldl (fun d a => d.wr TUM_STATUS_OUT_MODE 0 a) d, ((List.range 6).flatMap d.mapped).map fun p => (p.2, 0))
  | .standstill => (List.range 6).foldl (fun (x : Leaf × List (Nat × Nat)) a => let y := x.1.standstill a; (y.1, x.2 ++ y.2)) (d, [])
  | .skip => (d, [])
  | .selected =>
    ((List.range 6).foldl (fun d a => d.wr TUM_STATUS_OUT_MODE 2 a) d,
     (List.range 6).flatMap fun a => match (d.tumOf a).pick with | some p => p.words.map fun w => (a * 2048 + w.1, w.2) | none => [])

/-! ## Headers (Table 4.5) -/

/-- The code of a cycle in SLIP_PLAN. -/
def slipCode (slips : List (Nat × Int)) (c : Nat) : Nat :=
  match slips.find? (·.1 = c) with
  | some s => if s.2 < 0 then 1 else if 0 < s.2 then 2 else 0
  | none => 0

/-- SLIP_PLAN of a set of cycle `k`: the eight cycles after its latch cycle (log entry 84, DEDUCED). -/
def slipPlan (slips : List (Nat × Int)) (k : Nat) : Nat :=
  (List.range 8).foldl (fun v i => v + slipCode slips (k + 3 + i) * 4 ^ i) 0

/-- The up-path delay of an uplink, in 1/16 ns. -/
def Leaf.upOf (d : Leaf) (n : Nat) : Nat := (SMap.get {} d.tim.meas n).up

/-- CUTOFF of a concentrator whose uplink to the partner has the up-path delay `up`, in FCLK cycles after S (R100) (log entry 65, DESIGN CHOICE). -/
def Leaf.cutoffOf (d : Leaf) (n up : Nat) : Nat := (d.rd CYC_UPL_DL_VALUE * 20 - 3680 - max (d.upOf n) up) / 20

/-- A command-set header, or a skip header, of cycle `k`. UNKEYED gives the block header (06_keying_image.md R244). -/
def Leaf.setHdr (d : Leaf) (type k cutoff words : Nat) : Nat :=
  let tag := match d.key.active with | some i => i.mapTag | none => 0
  d.frameHead type + (k + 2) % 65536 * 2 ^ 96 + slipPlan d.tim.slips k * 2 ^ 80 + cutoff % 65536 * 2 ^ 64 + tag * 2 ^ 32 + words * 2 ^ 16

/-- The IARM that ARM_INFO gives a concentrator: that of its arm (10_flenor_links.md R356). -/
def Leaf.iarmFor (d : Leaf) (n : Nat) : Nat :=
  match d.key.active.bind fun i => i.armOf n with
  | some a => d.rd TUM_IN_IARM_IARM a
  | none => 0

/-- The sets of the declared concentrators, from the words by slot; none for a skip header (log entry 65, DESIGN CHOICE). -/
def Leaf.compose (d : Leaf) (kind : PubKind) (k : Nat) (up : Nat → Nat) (ws : List (Nat × Nat)) : Option (List ConcSet) :=
  match d.key.active with
  | none => some []
  | some im =>
    if kind = .skip then none
    else some (d.declared.map fun n =>
      let words := (im.portsOf n).map fun p => match ws.find? (·.1 = p.2) with | some w => w.2 | none => 0
      ⟨n, d.setHdr 1 k (d.cutoffOf n (up n)) words.length, words, d.iarmFor n⟩)

/-- The frame of ARM_INFO: TYPE, LATCH_CYCLE and IARM. -/
def armInfoBody (k iarm : Nat) : Nat := 7 * 2 ^ 60 + (k + 2) % 65536 * 2 ^ 44 + iarm % 2 ^ 32

/-- The sets, or skip headers, start on every uplink (R93, R106) (log entry 65, DESIGN CHOICE). -/
def Leaf.sendSets (k : Nat) (up : Nat → Nat) (sets : Option (List ConcSet)) (d : Leaf) : Leaf :=
  (List.finRange 48).foldl (fun d n =>
    let cut := d.cutoffOf n.val (up n.val)
    let e := LaneEnd.uplinkLeaf d.leafId n
    match sets with
    | none => d.emit (.frame e 2 [d.setHdr 2 k cut 0])
    | some l =>
      match l.find? (·.conc = n.val) with
      | some c => (d.emit (.frame e 1 (c.hdr :: c.words))).emit (.frame e 7 [armInfoBody k c.iarm])
      | none => d.emit (.frame e 1 [d.setHdr 1 k cut 0])) d

/-- The STANDBY frame of cycle `k` (13_the_hinge.md Table 13.3) on every UP uplink. -/
def Leaf.sendStandby (k : Nat) (stands : Bool) (d : Leaf) : Leaf :=
  let w := d.frameHead 5 + b2n stands * 2 ^ 118 + k % 65536 * 2 ^ 96 + (ofBits d.summaryBits + b2n stands * 2 ^ 31) * 2 ^ 64
    + d.imageTag * 2 ^ 32
  d.sendUplinks (fun _ => true) 5 fun _ => [w]

/-- RELEASE PLANNED of a pending exchange to the partner, in the cycles j-4 and j-3 (13_the_hinge.md R444). -/
def Leaf.sendPlanned (k : Nat) (d : Leaf) : Leaf :=
  match d.hng.exchange with
  | some e =>
    if e.target ≠ d.ident.leaf && (k + 4 = e.j || k + 3 = e.j) then d.sendUplinks (fun _ => true) 6 fun _ => [d.releaseHdr true 8 e.j] else d
  | none => d

/-! ## The comparison (13_the_hinge.md R426 to R428) -/

/-- The first slot, lowest first, whose words differ (log entry 68, DEDUCED). -/
def Leaf.firstDiff (d : Leaf) (a b : List ConcSet) : Option Nat :=
  let x := d.wordsBySlot a
  let y := d.wordsBySlot b
  let bad := (x.filter fun w => y.all (· ≠ w)).map (·.1) ++ (y.filter fun w => x.all (· ≠ w)).map (·.1)
  bad.foldl (fun m s => match m with | some t => some (min s t) | none => some s) none

/-- A header but its LEAF. -/
def hdrBody (h : Nat) : Nat := setBit h 119 false

/-- The headers and arm currents of two sets agree. -/
def headsAgree (a b : List ConcSet) : Bool := a.map (fun c => (c.conc, hdrBody c.hdr, c.iarm)) = b.map fun c => (c.conc, hdrBody c.hdr, c.iarm)

/-- SLOT of HNG_CMP_LAST for a mismatched cycle; none where the two agree (log entry 68, DEDUCED). -/
def Leaf.differ (d : Leaf) (a b : List ConcSet) : Option Nat :=
  match d.firstDiff a b with
  | some s => some s
  | none => if headsAgree a b then none else some 0x3FFF

/-- The stale maps of cycle `k` differ (03_control_cycle.md R104). -/
def Leaf.staleDiffer (d : Leaf) (k : Nat) : Bool :=
  match d.cyc.ownStale.find? (·.1 = k), d.cyc.partnerStale.find? (·.1 = k) with
  | some a, some b => a.2 ≠ b.2
  | _, _ => false

/-- A cycle that is not compared (R427). -/
def Leaf.uncompared (k : Nat) (d : Leaf) : Leaf :=
  ({ d with hng := { d.hng with judged := some k } }).sat HNG_CMP_BAD_UNCOMPARED

/-- A compared cycle that matches, or whose first difference is `diff`. The run of matches lets CMP return, that of mismatches takes it away (log entry 68, DEDUCED). -/
def Leaf.compared (k : Nat) (diff : Option Nat) (d : Leaf) : Leaf :=
  let d := ({ d with hng := { d.hng with judged := some k } }).inc HNG_CMP_COMPARED
  match diff with
  | none => { d with hng := { d.hng with misRun := 0, matchRun := d.hng.matchRun + 1 } }
  | some slot =>
    let d := { d with hng := { d.hng with misRun := d.hng.misRun + 1, matchRun := 0, lastMis := some d.tim.cyc } }
    let d := ((d.sat HNG_CMP_BAD_MISMATCHED).wr HNG_CMP_LAST_CYCLE k).wr HNG_CMP_LAST_SLOT slot
    d.mirror (.mismatch k slot false)

/-- Cycle `k` is judged once both leaves' sets of it are here (log entry 68, DEDUCED). -/
def Leaf.judgeCycle (k : Nat) (d : Leaf) : Leaf :=
  if d.hng.role ≠ .standby || reached d.hng.judged k then d
  else
    match d.hng.ownSets.find? (·.1 = k), d.hng.partnerSets.find? (·.1 = k) with
    | some a, some b =>
      if a.2.1 || b.2.1 || d.staleDiffer k || d.hng.roleCycle = some k then d.uncompared k
      else match a.2.2, b.2.2 with
        | some x, some y => d.compared k (d.differ x y)
        | none, none => d.compared k none
        | _, _ => d.compared k (some 0x3FFF)
    | _, _ => d

/-- At P(k) the active leaf's set of cycle k-1 has not arrived (R427). -/
def Leaf.judgeMissing (k : Nat) (d : Leaf) : Leaf :=
  if d.hng.role = .standby && k ≠ 0 && !reached d.hng.judged (k - 1) && (match d.hng.roleCycle with | some c => c < k | none => true) then
    d.uncompared (k - 1)
  else d

/-- The set a leaf computed, or published, is kept for the comparison. -/
def Leaf.keepSet (k : Nat) (overran : Bool) (sets : Option (List ConcSet)) (d : Leaf) : Leaf :=
  let old := d.hng.ownSets.filter fun (x : Nat × Bool × Option (List ConcSet)) => k < x.1 + 4
  { d with hng := { d.hng with ownSets := old ++ [(k, overran, sets)] } }

/-- The set the active leaf published arrives: the standby's history follows it (R165), and the cycle is judged. -/
def Leaf.partnerSet (k : Nat) (overran : Bool) (sets : Option (List ConcSet)) (d : Leaf) : Leaf :=
  if d.active then d
  else
    let old := d.hng.partnerSets.filter fun (x : Nat × Bool × Option (List ConcSet)) => k < x.1 + 4
    let d := { d with hng := { d.hng with partnerSets := old ++ [(k, overran, sets)] } }
    let d := match sets with
      | some l => d.recordSet k (d.wordsBySlot l)
      | none => d.recordOverrun
    d.judgeCycle k

/-! ## P(k) -/

/-- The DEBLOCK and BLOCK commands that wait complete with the set that shows their transition (01_architecture.md R605). -/
def Leaf.completeWaits (kind : PubKind) (d : Leaf) : Leaf :=
  match kind with
  | .selected =>
    match d.conv.deblockWait with
    | some h => ({ d with conv := { d.conv with deblockWait := none } }).complete h stDONE
    | none => d
  | .skip => d
  | _ =>
    let hs := d.conv.blockWait
    hs.foldl (fun d h => d.complete h stDONE) { d with conv := { d.conv with blockWait := [] } }

/-- The active leaf publishes cycle `k`, for latch cycle k+2 (01_architecture.md R31 to R33) (log entry 66, DEDUCED). -/
def Leaf.publishSet (k : Nat) (overran : Bool) (up : Nat → Nat) (d : Leaf) : Leaf :=
  let kind := d.pubKind overran
  let x := d.setWords kind
  let sets := x.1.compose kind k up x.2
  let d := (x.1.sendSets k up sets).sendPlanned k
  let d := if kind = .skip then d.recordOverrun else d.recordSet k x.2
  let d := { d with hng := { d.hng with takenAt := none } }
  ((d.mirror (.publishedSet k overran sets)).keepSet k overran sets).completeWaits kind

/-- A leaf that is not ACTIVE sends STANDBY; RELEASED repeats its RELEASE; STANDBY computes its set and compares (R433, R425). -/
def Leaf.publishStandby (k : Nat) (overran : Bool) (up : Nat → Nat) (d : Leaf) : Leaf :=
  let d := d.sendStandby k d.standing
  let d := if d.hng.role = .released then
      (d.sendUplinks (fun _ => true) 6 fun _ => [d.releaseHdr false d.hng.cause 0]).mirror (.release false d.hng.cause 0)
    else d
  if d.hng.role ≠ .standby then d
  else
    let kind := d.pubKind overran
    let x := d.setWords kind
    (((x.1.judgeMissing k).keepSet k overran (x.1.compose kind k up x.2)).judgeCycle k).hngShow

/-- A deadline less than 100 ns after a takeover (R439). -/
def Leaf.justTaken (d : Leaf) : Bool := match d.hng.takenAt with | some t => d.tim.c < t + 80 | none => false

/-- P(k): `up` gives the up-path delays of the partner's uplinks. -/
def Leaf.publish (up : Nat → Nat) (d : Leaf) : Leaf :=
  if !d.running || d.tim.cyc = 0 then d
  else
    let k := d.pubCycle
    let cause := d.overrunCause k
    let d := d.countOverrun k cause
    if d.active then
      if d.justTaken then (d.sendStandby k true).recordOverrun else d.publishSet k (cause ≠ 0) up
    else d.publishStandby k (cause ≠ 0) up

def execPublishDeadline (l : LeafId) (s : State) : Host.Outcome State Fault Refusal := onLeaf l s (Leaf.publish (s.leaf l.other).upOf)

/-! ## The shadow mismatch (R428) -/

/-- CMP_PERSIST mismatched cycles in a row clear CMP; both leaves raise the fault. -/
def Leaf.shadowMismatch (d : Leaf) : Leaf :=
  if d.hng.role = .standby && d.hng.cmpOk && d.rd HNG_CFG_CMP_PERSIST ≤ d.hng.misRun then
    let d := ({ d with hng := { d.hng with cmpOk := false } }).wr HNG_STATUS_MISMATCH 1
    let d := d.mirror (.mismatch (d.rd HNG_CMP_LAST_CYCLE) (d.rd HNG_CMP_LAST_SLOT) true)
    ((d.raise 0x2604 .alarm).hngShow).sendStanding
  else d

def execShadowMismatch (l : LeafId) (s : State) : Host.Outcome State Fault Refusal := onLeaf l s Leaf.shadowMismatch

/-- 1,024 compared cycles in a row that match set CMP again. -/
def Leaf.cmpRestored (d : Leaf) : Leaf :=
  if d.hng.role = .standby && !d.hng.cmpOk && 1024 ≤ d.hng.matchRun then
    (({ d with hng := { d.hng with cmpOk := true } }).hngShow).sendStanding
  else d

def execCmpRestored (l : LeafId) (s : State) : Host.Outcome State Fault Refusal := onLeaf l s Leaf.cmpRestored

end Sys2Proof.Machine
end

