-- ==== Sys2Proof/Machine/Updates.lean ====
section
/-! DEFINITION. The UPD-class commands: download, distribution, waves, activation, confirmation, the hasp and the floors
(17_updates.md R522 to R552). -/

namespace Sys2Proof.Machine
open Reg

/-! ## UPDATE frames of a leaf (Table 17.5) -/

/-- Words 3 to 18, the first byte of a word on top. -/
def dataWords (u : UpdFrame) : List Nat :=
  (List.range 16).map fun i => if u.data.isEmpty then u.words.getD i 0 else topNum ((u.data.drop (4 * i)).take 4)

/-- The words after the tag word. -/
def updWords (op : Nat) (u : UpdFrame) : List Nat :=
  [op * 2 ^ 29 + b2n u.dest * 2 ^ 28 + u.frag * 2 ^ 22 + u.index, u.session] ++ dataWords u ++ [u.crc]

def Leaf.sendUpd (n op : Nat) (u : UpdFrame) (d : Leaf) : Leaf :=
  if h : n < 48 then d.emit (.frame (.uplinkLeaf d.leafId ⟨n, h⟩) 12 (updWords op u)) else d

/-- A frame that carries no data (log entry 50, DESIGN CHOICE). -/
def bareUpd (dest : Bool) (session : Nat) : UpdFrame := ⟨dest, 0, 0, session, [], [], 0⟩

/-- The floor, the header, every piece and VERIFY of a store, with their OP codes (R540, R542, R543) (log entry 50, DESIGN CHOICE). -/
def packFrames (dest : Bool) (floor : Nat) (st : Store) : List (Nat × UpdFrame) :=
  let u := bareUpd dest (pkTag st.hdr)
  [(opFLOOR, { u with words := [floor] })] ++
  ((List.range 8).map fun i => (opHEADER, { u with frag := i, data := sliceOf st.hdr (64 * i) 64 })) ++
  ((List.range (pkPieces st.hdr)).flatMap fun p => (List.range 64).map fun i =>
    (opDATA, { u with index := p, frag := i, data := sliceOf (st.piece p) (64 * i) 64, crc := if i = 63 then crc32c (leBytes 4 p ++ st.piece p) else 0 })) ++
  [(opVERIFY, u)]

/-- Concentrator and port of a slot. -/
def Leaf.portOf (d : Leaf) (slot : Nat) : Option (Nat × Nat) := (d.key.active.bind fun im => im.entryOf slot).map fun e => (e.conc, e.port)

/-- The ports of concentrator `n` on which the slots lie, as a mask. -/
def Leaf.selectMask (d : Leaf) (slots : List Nat) (n : Nat) : Nat :=
  slots.foldl (fun m s => match d.portOf s with | some x => if x.1 = n then setBit m x.2 true else m | none => m) 0

/-- Frames with DEST 1 to the cells of slots: SELECT on each of their concentrators, then the frames. -/
def Leaf.sendCells (slots : List Nat) (fs : List (Nat × UpdFrame)) (d : Leaf) : Leaf :=
  (List.range 48).foldl (fun d n =>
    let m := d.selectMask slots n
    if m = 0 then d
    else fs.foldl (fun d f => d.sendUpd n f.1 f.2) (d.sendUpd n opSELECT { bareUpd true 0 with words := leWords 8 m })) d

/-! ## Sessions (R527 to R529) -/

/-- NOTE 0x2A02 with its flag. -/
def Leaf.pieceRejected (kind : Nat) (d : Leaf) : Leaf := (d.wr UPD_STATUS_PIECE_REJ 1).raise 0x2A02 .note kind

/-- A session and its store are shown. -/
def Leaf.showKind (kind : Nat) (d : Leaf) : Leaf := (if kind = 2 then d.showWards else d).showSess kind

/-- A distribution, an activation or a wave of the KIND runs. -/
def Leaf.kindBusy (d : Leaf) (kind : Nat) : Bool :=
  d.upd.dist.any (·.kind = kind) || d.upd.acts.any (·.2.1 = kind) || (kind = 4 && !d.upd.waves.isEmpty)

/-- The image that runs in the KIND's store has this VERSION (log entry 63, DEDUCED). -/
def Leaf.sameVersion (d : Leaf) (kind v : Nat) : Bool :=
  match kind with
  | 1 => v = d.upd.running
  | 2 => d.key.active.map (·.version) = some v
  | _ => false

/-- VARIANTS names the pair's variant, or one of the variants present (R528). -/
def Leaf.variantOk (d : Leaf) (kind vs : Nat) : Bool :=
  match kind with
  | 3 => d.disc.caps.any fun c => 0 < bits c.2 31 24 && bitOf vs (bits c.2 31 24 - 1)
  | 4 => d.disc.slots.any fun s => s.2.answered && 0 < s.2.variant && bitOf vs (s.2.variant - 1)
  | _ => bitOf vs (d.ident.variant - 1)

/-- The floor of a KIND (Table 17.11). -/
def Leaf.floorOf (d : Leaf) (kind : Nat) : Nat := if kind = 2 then d.rd KEY_FLOOR_FLOOR else d.rd UPD_Sk_FLOOR_FLOOR (kind - 1)

/-- A header passes the checks of R528 that complete INVALID (log entry 63, DEDUCED). -/
def Leaf.headerGood (d : Leaf) (kind : Nat) (h : List Byte) : Bool :=
  pkForm h && pkKind h = kind && pkSizes h && d.variantOk kind (pkVariants h) && pkAuthentic d.ident.revoked h && d.floorOf kind ≤ pkSec h &&
  !d.sameVersion kind (pkVersion h)

/-- The store of a KIND holds the fallback image of a TRIAL. -/
def Leaf.holdsFallback (d : Leaf) (kind : Nat) : Bool :=
  match kind with
  | 1 => d.upd.boot.newest.trial
  | 2 => d.upd.kptr.newest.trial
  | _ => false

/-- The states in which BEGIN is refused (R528) (log entry 63, DEDUCED). -/
def Leaf.beginBusy (d : Leaf) (kind : Nat) (h : List Byte) : Bool :=
  let s := d.sessOf kind
  (s.st = 1 && pkHash s.hdr ≠ pkHash h) || s.st = 2 || s.st = 3 || (s.st ≠ 1 && d.holdsFallback kind) || d.kindBusy kind ||
  (kind = 2 && (d.rd KEY_STATUS_SHD_STATE = 1 || d.key.pend.isSome))

/-- The buffer bytes of a command go to the other leaf (R523). -/
def Leaf.passBuffer (h : Handle) (buf : List Byte) (d : Leaf) : Leaf := if d.active then d.mirror (.buffer h buf) else d

/-- BEGIN (log entry 63, DEDUCED). -/
def Leaf.updBegin (h : Handle) (buf : List Byte) (d : Leaf) : Leaf :=
  d.runCmd h 4 1 fun c d =>
    let kind := c.par 0 8
    let hdr := buf.take 512
    let d := d.passBuffer h buf
    if kind < 1 || 4 < kind || !d.headerGood kind hdr then d.complete h stINVALID
    else if d.is UPD_HASP_SET then d.complete h stREFUSED_HASP
    else if d.beginBusy kind hdr then d.complete h stREFUSED_STATE
    else if (d.sessOf kind).st = 1 then d.complete h stDONE (d.sessOf kind).bits.length
    else (((d.setStore kind { hdr := hdr }).setSess kind { st := 1, hdr := hdr }).showKind kind).complete h stDONE 0

def execBegin (l : LeafId) (h : Handle) (buf : List Byte) (s : State) : Host.Outcome State Fault Refusal := onLeaf l s (Leaf.updBegin h buf)

/-- A piece whose INDEX and CRC are right (R529). -/
def Leaf.storePiece (kind h i : Nat) (p : List Byte) (d : Leaf) : Leaf :=
  let s := d.sessOf kind
  if SMap.get 0 s.bits i ≠ 0 then
    if (d.storeOf kind).piece i = p then d.complete h stDONE s.bits.length else (d.pieceRejected kind).complete h stINVALID
  else
    let bs := SMap.put 0 s.bits i 1
    let st := d.storeOf kind
    let d := d.setStore kind { st with pieces := SMap.put [] st.pieces i p }
    ((d.setSess kind { s with bits := bs, st := if bs.length = pkPieces s.hdr then 2 else 1 }).showKind kind).complete h stDONE bs.length

/-- PIECE: INDEX, the data and the CRC of its buffer (R526). -/
def Leaf.updPiece (h : Handle) (buf : List Byte) (d : Leaf) : Leaf :=
  d.runCmd h 4 2 fun c d =>
    let kind := c.par 0 8
    let s := d.sessOf kind
    let i := leAt buf 0 4
    let p := sliceOf buf 4 4096
    let d := d.passBuffer h buf
    if kind < 1 || 4 < kind then d.complete h stINVALID
    else if s.st ≠ 1 then d.complete h stREFUSED_STATE
    else if pkPieces s.hdr ≤ i || crc32c (leBytes 4 i ++ p) ≠ leAt buf 4100 4 then (d.pieceRejected kind).complete h stINVALID
    else d.storePiece kind h i p

def execPiece (l : LeafId) (h : Handle) (buf : List Byte) (s : State) : Host.Outcome State Fault Refusal := onLeaf l s (Leaf.updPiece h buf)

/-- VERIFY. -/
def Leaf.updVerify (h : Handle) (d : Leaf) : Leaf :=
  d.runCmd h 4 3 fun c d =>
    let kind := c.par 0 8
    let s := d.sessOf kind
    if kind < 1 || 4 < kind then d.complete h stINVALID
    else if s.st = 4 then d.complete h stDONE
    else if s.st = 2 || s.st = 3 then (d.setSess kind { s with st := 3, waiting := s.waiting ++ [h] }).showKind kind
    else d.complete h stREFUSED_STATE

def execVerify (l : LeafId) (h : Handle) (s : State) : Host.Outcome State Fault Refusal := onLeaf l s (Leaf.updVerify h)

/-- The hash of the stored body of a KIND has been computed (Table 17.3). -/
def Leaf.verifyDone (kind : Nat) (d : Leaf) : Leaf :=
  let s := d.sessOf kind
  let st := d.storeOf kind
  if Config.sha384 st.body = pkHash s.hdr then
    let d := ((d.setStore kind { st with hash := some (pkHash s.hdr) }).setSess kind { s with st := 4, waiting := [] }).showKind kind
    s.waiting.foldl (fun d h => d.complete h stDONE) d
  else
    let d := ((d.setSess kind { s with st := 1, bits := [], waiting := [] }).showKind kind).pieceRejected kind
    s.waiting.foldl (fun d h => d.complete h stINVALID) d

/-- A session that is VERIFYING, the lowest KIND first, has its hash. -/
def execVerifyDone (l : LeafId) (s : State) : Host.Outcome State Fault Refusal :=
  onLeaf l s fun d =>
    if !d.running then d
    else match [1, 2, 3, 4].find? fun k => (d.sessOf k).st = 3 with
      | some k => d.verifyDone k
      | none => d

/-- ABORT: the session is erased, and what it had stored is no image (log entry 72, DEDUCED). -/
def Leaf.updAbortCmd (h : Handle) (d : Leaf) : Leaf :=
  d.runCmd h 4 8 fun c d =>
    let kind := c.par 0 8
    let s := d.sessOf kind
    if kind < 1 || 4 < kind then d.complete h stINVALID
    else if s.st = 0 || d.kindBusy kind then d.complete h stREFUSED_STATE
    else
      let d := ((d.setStore kind {}).setSess kind {}).showKind kind
      (s.waiting.foldl (fun d w => d.complete w stINCOMPLETE) d).complete h stDONE

def execUpdAbort (l : LeafId) (h : Handle) (s : State) : Host.Outcome State Fault Refusal := onLeaf l s (Leaf.updAbortCmd h)

/-! ## Distribution (R540, R542, R543) -/

/-- The cell that stands on a slot's port. -/
def Leaf.cellAt (d : Leaf) (w : State) (slot : Nat) : Cell :=
  match d.portOf slot with
  | some x => SMap.get {} w.cells (x.1 * 256 + x.2)
  | none => {}

/-- The declared concentrators that VARIANTS names. -/
def Leaf.concTargets (d : Leaf) (vs : Nat) : List Nat :=
  d.declared.filter fun n => let v := bits (SMap.get 0 d.disc.caps n) 31 24; decide (0 < v) && bitOf vs (v - 1)

/-- The mapped slots, ascending. -/
def Leaf.mappedSlots (d : Leaf) : List Nat := ((List.range 6).flatMap d.mapped).map (·.2)

/-- The slots that DISTRIBUTE of KIND 4 selects in the arms of a mask. -/
def Leaf.cellTargets (d : Leaf) (arms vs version : Nat) : List Nat :=
  d.mappedSlots.filter fun s =>
    let i := d.slotInfo s
    let st := d.slotState s
    bitOf arms (s / 2048) && (st = slJOINED || st = slACTIVE || st = slBYPASSED) && i.answered && decide (0 < i.variant) && bitOf vs (i.variant - 1) &&
    decide (i.fw ≠ version)

/-- A part holds a VERIFIED copy of the session's package. -/
def PartFw.holds (f : PartFw) (tag : Nat) : Bool := f.sess.st = 4 && f.tag = tag

/-- The targets of a distribution that hold a VERIFIED copy, as the leaf reads their registers. -/
def Leaf.holding (d : Leaf) (w : State) (j : Dist) : List Nat :=
  let tag := pkTag (d.sessOf j.kind).hdr
  j.targets.filter fun t => if j.kind = 3 then (SMap.get {} w.concs t).fw.holds tag else (d.cellAt w t).fw.holds tag

/-- A sender has nothing on its way (log entry 70, DESIGN CHOICE). -/
def LaneQ.quiet (q : LaneQ) : Bool := q.unacked.isEmpty && q.waiting.isEmpty

/-- Nothing of a round is on its way on the lanes that are UP (log entry 70, DESIGN CHOICE). -/
def Leaf.roundOver (d : Leaf) (w : State) (j : Dist) : Bool :=
  let up (n : Nat) := !d.uplinkUp n || (SMap.get {} d.lanes n).quiet
  j.targets.all fun t =>
    if j.kind = 3 then up t
    else match d.portOf t with
      | some x =>
        let c : Concentrator := SMap.get {} w.concs x.1
        up x.1 && c.relay.isEmpty && (c.rd (XX_STATE_STATE.at (0x4000 + 64 * x.2)) ≠ 7 || (SMap.get {} c.lanes x.2).quiet)
      | none => true

/-- A round goes to the targets. -/
def Leaf.sendRound (kind : Nat) (targets : List Nat) (d : Leaf) : Leaf :=
  let fs := packFrames (kind = 4) (d.floorOf kind) (d.storeOf kind)
  if kind = 3 then targets.foldl (fun d n => fs.foldl (fun d f => d.sendUpd n f.1 f.2) d) d else d.sendCells targets fs

/-- UPD_DIST shows the distribution started last. -/
def Leaf.showDist (busy : Bool) (j : Dist) (d : Leaf) : Leaf :=
  (((d.wr UPD_DIST_BUSY (b2n busy)).wr UPD_DIST_KIND (b2n (j.kind = 4))).wr UPD_DIST_TARGETS j.targets.length).wr UPD_DIST_HOLDING j.holding.length

/-- DISTRIBUTE: the active leaf sends; the other one waits for the outcome. -/
def Leaf.updDistribute (h : Handle) (d : Leaf) : Leaf :=
  d.runCmd h 4 5 fun c d =>
    let kind := c.par 0 8
    let hdr := (d.sessOf kind).hdr
    if kind ≠ 3 && kind ≠ 4 then d.complete h stINVALID
    else if (d.sessOf kind).st ≠ 4 || d.upd.acts.any (·.2.1 = kind) || (kind = 4 && !d.upd.waves.isEmpty) then d.complete h stREFUSED_STATE
    else if !d.active then d
    else
      let ts := if kind = 3 then d.concTargets (pkVariants hdr) else d.cellTargets (c.par 8 6) (pkVariants hdr) (pkVersion hdr)
      let j : Dist := { handle := h, kind := kind, targets := ts }
      ({ d with upd := { d.upd with dist := d.upd.dist ++ [j] } }.sendRound kind ts).showDist true j

def execDistribute (l : LeafId) (h : Handle) (s : State) : Host.Outcome State Fault Refusal := onLeaf l s (Leaf.updDistribute h)

/-- A distribution is looked at: done when every target holds a VERIFIED copy, or when the last of the rounds is over; a round that is over
is followed by another to the targets that lack one (log entry 70, DESIGN CHOICE). -/
def Leaf.judgeDist (w : State) (j : Dist) (d : Leaf) : Leaf :=
  let have_ := d.holding w j
  let lack := j.targets.filter fun t => !have_.contains t
  let j := { j with holding := have_ }
  let put (d : Leaf) (x : List Dist) : Leaf := { d with upd := { d.upd with dist := d.upd.dist.flatMap fun y => if y.handle = j.handle then x else [y] } }
  if lack.isEmpty || (d.roundOver w j && j.rounds = 0) then
    ((put d []).showDist false j).complete j.handle stDONE have_.length lack.length
  else if d.roundOver w j then
    let j := { j with rounds := j.rounds - 1 }
    ((put d [j]).sendRound j.kind lack).showDist true j
  else (put d [j]).showDist true j

/-- The distributions of the active leaf; another leaf has none (log entry 70, DESIGN CHOICE). -/
def Leaf.pollDist (w : State) (d : Leaf) : Leaf :=
  if d.active then d.upd.dist.foldl (fun d j => d.judgeDist w j) d else { d with upd := { d.upd with dist := [] } }

/-! ## Activation (R535, R541, R542, R546) -/

/-- The converter state allows the activation of a KIND (Table 17.1). -/
def actState (kind : Nat) (c : Conv) : Bool :=
  match kind with
  | 4 => c ≠ .deadbolted
  | _ => !(c = .charging || c = .deblocked || c = .deadbolted)

/-- The firmware of this leaf takes effect in TRIAL, and the leaf restarts (R541). -/
def Leaf.activateFw (d : Leaf) : Leaf :=
  let d := d.writeBoot (ptrCopy (!d.bootPtr) true false (d.storeOf 1))
  ((d.setSess 1 {}).showSess 1).warmReset 4

/-- An ACTIVATE waits for its part. -/
def Leaf.addAct (h kind unit_ : Nat) (d : Leaf) : Leaf :=
  { d with upd := { d.upd with acts := d.upd.acts.filter (·.1 ≠ h) ++ [(h, kind, unit_)] } }

/-- ACTIVATE of KIND 1 (R541). -/
def Leaf.activateLeaf (c : Cmd) (h target : Nat) (d : Leaf) : Leaf :=
  if target ≠ d.ident.leaf then d.addAct h 1 target
  else if c.restart then d.complete h (if d.upd.boot.newest.trial && d.upd.running = d.upd.boot.newest.version then stDONE else stINCOMPLETE)
  else if !d.active then d.activateFw
  else if !d.is HNG_STATUS_PARTNER_STANDING then d.activateFw
  else if d.hng.exchange.isSome then d.complete h stREFUSED_STATE
  else ({ (d.addAct h 1 target) with pwr := { d.pwr with warmWait := some 4 } }).beginExchange 0 (1 - target)

/-- The unit that ACTIVATE names is in range (R551). -/
def Leaf.actUnit (d : Leaf) (c : Cmd) : Option Nat :=
  match c.par 0 8 with
  | 1 => if c.par 8 8 ≤ 1 then some (c.par 8 8) else none
  | 3 => if c.par 8 6 < 48 then some (c.par 8 6) else none
  | 4 => if d.slotMapped (c.par 8 14) then some (c.par 8 14) else none
  | _ => none

/-- ACTIVATE (log entry 72, DEDUCED). -/
def Leaf.updActivate (h : Handle) (d : Leaf) : Leaf :=
  d.runCmd h 4 4 fun c d =>
    let kind := c.par 0 8
    match d.actUnit c, d.activationStop with
    | none, _ => d.complete h stINVALID
    | _, some st => d.refuseAct h st
    | some u, none =>
      let again := kind = 1 && u = d.ident.leaf && c.restart
      if !again && (!actState kind d.conv.st || (d.sessOf kind).st ≠ 4) then d.complete h stREFUSED_STATE
      else if kind = 4 && d.slotState u ≠ slJOINED && d.slotState u ≠ slBYPASSED then d.complete h stREFUSED_STATE
      else if kind = 1 then d.activateLeaf c h u
      else if !d.active then d
      else
        let f := bareUpd (kind = 4) (pkTag (d.sessOf kind).hdr)
        let d := d.addAct h kind u
        if kind = 3 then d.sendUpd u opACTIVATE f else d.sendCells [u] [(opACTIVATE, f)]

def execActivate (l : LeafId) (h : Handle) (s : State) : Host.Outcome State Fault Refusal := onLeaf l s (Leaf.updActivate h)

/-- What an ACTIVATE that waits completes with, none while it waits: the part reports the new VERSION; an exchange that came to nothing leaves
this leaf as it was. -/
def Leaf.actDone (d : Leaf) (w : State) (kind u : Nat) : Option Nat :=
  let v := pkVersion (d.sessOf kind).hdr
  let runs (f : PartFw) : Option Nat := if f.up && f.version = v then some stDONE else none
  match kind with
  | 1 =>
    if u = d.ident.leaf then (if d.hng.exchange.isNone && d.pwr.warmWait.isNone then some stINCOMPLETE else none)
    else match d.hng.partner.ident with
      | some i => if i.trial && i.fwVersion = v then some stDONE else none
      | none => none
  | 3 => runs (SMap.get {} w.concs u).fw
  | _ => if (d.cellAt w u).sw.st = .updating then none else runs (d.cellAt w u).fw

/-- The activations of the active leaf that wait (log entry 70, DESIGN CHOICE). -/
def Leaf.pollActs (w : State) (d : Leaf) : Leaf :=
  if !d.active then d
  else d.upd.acts.foldl (fun d a => match d.actDone w a.2.1 a.2.2 with
    | some st => ({ d with upd := { d.upd with acts := d.upd.acts.filter (·.1 ≠ a.1) } }).complete a.1 st
    | none => d) d

/-! ## Waves (R544) -/

/-- The states that allow a WAVE (Table 17.1). -/
def waveState (c : Conv) : Bool := c = .keyedIdle || c = .blockedReady || c = .tripped

/-- UPD_WAVE shows a wave. -/
def Leaf.showWave (busy : Bool) (j : WaveJob) (d : Leaf) : Leaf :=
  ((((d.wr UPD_WAVE_BUSY (b2n busy)).wr UPD_WAVE_ARM j.arm).wr UPD_WAVE_DONE j.done.length).wr UPD_WAVE_IN_WAVE (min 255 j.cells.length)).wr
    UPD_WAVE_FAILED (min 255 j.failed.length)

/-- The cells of the next wave: eligible, with a VERIFIED idle bank of the session's VERSION, in ascending position (log entry 71, DEDUCED). -/
def Leaf.wavePick (d : Leaf) (w : State) (j : WaveJob) : List Nat :=
  let v := pkVersion (d.sessOf 4).hdr
  let ok (s : Nat) : Bool := d.eligible s && !j.failed.contains s && (d.cellAt w s).fw.sess.st = 4 && (d.cellAt w s).fw.idleVersion = v
  let ps := (List.range 2048).filter fun p => (d.mapped j.arm).any (·.1 = p)
  ((ps.map fun p => j.arm * 2048 + p).filter ok).take (min j.max (d.healthy j.arm - d.rd TUM_SPARE_N_REQ j.arm))

def Leaf.putWave (h : Handle) (x : List WaveJob) (d : Leaf) : Leaf :=
  { d with upd := { d.upd with waves := d.upd.waves.filter (·.handle ≠ h) ++ x } }

/-- Log entry 71, DEDUCED. -/
def Leaf.endWave (j : WaveJob) (st : Nat) (d : Leaf) : Leaf :=
  ((d.putWave j.handle []).showWave false j).complete j.handle st j.done.length j.failed.length

/-- The next wave is picked and sent, or the command ends (log entry 71, DEDUCED). -/
def Leaf.nextWave (w : State) (j : WaveJob) (d : Leaf) : Leaf :=
  if !waveState d.conv.st || (d.conv.st = .tripped && j.start < d.conv.since) || d.is PWR_STATUS_AUX_LOW then d.endWave j stINCOMPLETE
  else if d.healthy j.arm ≤ d.rd TUM_SPARE_N_REQ j.arm then d.endWave j stREFUSED_STATE
  else
    let cs := d.wavePick w j
    if cs.isEmpty then d.endWave j stDONE
    else
      let j := { j with cells := cs, begun := d.tim.c }
      ((d.sendCells cs [(opACTIVATE, bareUpd true (pkTag (d.sessOf 4).hdr))]).putWave j.handle [j]).showWave true j

/-- WAVE (log entry 71, DEDUCED). -/
def Leaf.updWave (w : State) (h : Handle) (d : Leaf) : Leaf :=
  d.runCmd h 4 6 fun c d =>
    let a := c.par 0 8
    let m := c.par 8 16
    let declares : Bool := match d.key.active with | some im => decide (a < im.arms.length) | none => false
    if 6 ≤ a || m < 1 || 2048 < m then d.complete h stINVALID
    else match d.activationStop with
      | some st => d.refuseAct h st
      | none =>
        if !declares || !waveState d.conv.st || d.upd.waves.any (·.arm = a) then d.complete h stREFUSED_STATE
        else if !d.active then d
        else d.nextWave w { handle := h, arm := a, max := m, start := d.tim.cyc }

def execWave (l : LeafId) (h : Handle) (s : State) : Host.Outcome State Fault Refusal := onLeaf l s (Leaf.updWave s h)

/-- A cell of a wave reports READY with the new version (log entry 70, DESIGN CHOICE). -/
def Leaf.waveReady (d : Leaf) (w : State) (slot : Nat) : Bool :=
  let f := (d.cellAt w slot).fw
  d.rd CT_CELL_STATE slot = 1 && f.up && f.version = pkVersion (d.sessOf 4).hdr

/-- A wave ends when all its cells report, or after 1 s (log entry 71, DEDUCED). -/
def Leaf.waveStep (w : State) (j : WaveJob) (d : Leaf) : Leaf :=
  let good := j.cells.filter (d.waveReady w)
  let bad := j.cells.filter fun s => !good.contains s
  if bad.isEmpty || j.begun + 800000000 ≤ d.tim.c then
    d.nextWave w { j with cells := [], done := j.done ++ good, failed := j.failed ++ bad }
  else d

def execWaveNext (l : LeafId) (s : State) : Host.Outcome State Fault Refusal :=
  onLeaf l s fun d => if d.active then d.upd.waves.foldl (fun d j => d.waveStep s j) d else { d with upd := { d.upd with waves := [] } }

/-! ## Confirmation (R538) -/

/-- A pointer is in TRIAL with the VERSION that a command names; 0 names any. -/
def PtrCopy.named (c : PtrCopy) (v : Nat) : Bool := c.trial && (v = 0 || c.version = v)

/-- CONFIRM of the pointers of both leaves; the partner's firmware is known from its identity, and its keying pointer follows this one (log entry 72, DEDUCED). -/
def Leaf.confirmOwn (kind v h : Nat) (d : Leaf) : Leaf :=
  let p := if kind = 1 then d.upd.boot.newest else d.upd.kptr.newest
  let own := p.named v
  let partner : Bool := match d.hng.partner.ident with
    | some i => d.is HNG_STATUS_PARTNER_UP && (if kind = 1 then i.trial && (v = 0 || i.fwVersion = v) else own)
    | none => false
  let d := if own then (if kind = 1 then d.writeBoot { p with trial := false } else d.writeKptr { p with trial := false }) else d
  let d := if kind = 1 && partner then
      { d with hng := { d.hng with partner := { d.hng.partner with ident := d.hng.partner.ident.map fun i => { i with trial := false } } } }
    else d
  d.complete h stDONE (b2n own + b2n partner)

/-- A part runs an image in TRIAL with the VERSION named. -/
def PartFw.named (f : PartFw) (v : Nat) : Bool := f.up && f.ptr.newest.trial && (v = 0 || f.version = v)

/-- SCOPE and UNIT are in range. -/
def scopeOk (sc u : Nat) : Bool := match sc with | 0 => u = 0 | 1 => u < 48 | 2 => u < 6 | _ => false

/-- CONFIRM (log entry 72, DEDUCED). -/
def Leaf.updConfirm (w : State) (h : Handle) (d : Leaf) : Leaf :=
  d.runCmd h 4 7 fun c d =>
    let kind := c.par 0 8
    let v := c.par 8 32
    let sc := c.par 40 8
    let u := c.par 48 8
    if kind < 1 || 4 < kind then d.complete h stINVALID
    else if kind ≤ 2 then d.confirmOwn kind v h
    else if !scopeOk sc u then d.complete h stINVALID
    else if !d.active then d
    else
      let inScope (n : Nat) : Bool := sc = 0 || (sc = 1 && n = u) || (sc = 2 && d.key.active.bind (fun im => im.armOf n) = some u)
      if kind = 3 then
        let ns := d.declared.filter fun n => inScope n && (SMap.get {} w.concs n).fw.named v
        (ns.foldl (fun d n => d.sendUpd n opCONFIRM (bareUpd false 0)) d).complete h stDONE ns.length
      else
        let ss := d.mappedSlots.filter fun s => (match d.portOf s with | some x => inScope x.1 | none => false) && (d.cellAt w s).fw.named v
        (d.sendCells ss [(opCONFIRM, bareUpd true 0)]).complete h stDONE ss.length

def execConfirm (l : LeafId) (h : Handle) (s : State) : Host.Outcome State Fault Refusal := onLeaf l s (Leaf.updConfirm s h)

/-! ## The hasp and the floors (R532, R533, R540) -/

/-- HASP_SET. -/
def Leaf.haspSetCmd (h : Handle) (d : Leaf) : Leaf := d.runCmd h 4 9 fun _ d => (d.wr UPD_HASP_SET 1).complete h stDONE

def execHaspSet (l : LeafId) (h : Handle) (s : State) : Host.Outcome State Fault Refusal := onLeaf l s (Leaf.haspSetCmd h)

/-- The ASCII bytes "HASPLIFT". -/
def haspText : List Byte := [0x48, 0x41, 0x53, 0x50, 0x4C, 0x49, 0x46, 0x54]

/-- The buffer of a HASP_LIFT holds the owner key and its signature over the text, the nonce and the serial number of leaf 0 (log entry 81, DEDUCED). -/
def liftGood (owner : Option Nat) (nonce serial : Nat) (buf : List Byte) : Bool :=
  let key := sliceOf buf 0 96
  owner = some (Config.sha384 key) &&
  Config.ecdsaVerify (Config.sha384 key) (Config.sha384 (haspText ++ leBytes 8 nonce ++ leBytes 8 serial)) (sliceOf buf 96 96)

/-- HASP_LIFT: `serial` is the serial number of leaf 0. A new nonce follows on the active leaf and goes to the other one (log entry 4, DESIGN CHOICE; log entry 81, DEDUCED). -/
def Leaf.haspLiftCmd (serial : Nat) (h : Handle) (buf : List Byte) (d : Leaf) : Leaf :=
  d.runCmd h 4 10 fun _ d =>
    let d := d.passBuffer h buf
    let same := h ≠ 0 && d.rd64 UPD_HASP_LIFT_LO_HANDLE UPD_HASP_LIFT_HI_HANDLE = h
    let ok := same || liftGood d.upd.owner (d.rd64 UPD_HASP_NONCE_LO_NONCE UPD_HASP_NONCE_HI_NONCE) serial buf
    let d := if ok && !same then (d.wr UPD_HASP_SET 0).wr64 UPD_HASP_LIFT_LO_HANDLE UPD_HASP_LIFT_HI_HANDLE h else d
    let d := if d.active then
        let v := d.free % 2 ^ 64
        ((d.wr64 UPD_HASP_NONCE_LO_NONCE UPD_HASP_NONCE_HI_NONCE v).useFree).mirror (.nonce v)
      else d
    d.complete h (if ok then stDONE else stINVALID)

def execHaspLift (l : LeafId) (h : Handle) (buf : List Byte) (s : State) : Host.Outcome State Fault Refusal :=
  onLeaf l s (Leaf.haspLiftCmd s.leaf0.ident.serial h buf)

/-- HASP_ENROLL. -/
def Leaf.haspEnrollCmd (h : Handle) (buf : List Byte) (d : Leaf) : Leaf :=
  d.runCmd h 4 11 fun _ d =>
    let d := d.passBuffer h buf
    if d.is UPD_HASP_ENROLLED then d.complete h stREFUSED_STATE
    else ({ d with upd := { d.upd with owner := some (Config.sha384 (sliceOf buf 0 96)) } }.wr UPD_HASP_ENROLLED 1).complete h stDONE

def execHaspEnroll (l : LeafId) (h : Handle) (buf : List Byte) (s : State) : Host.Outcome State Fault Refusal :=
  onLeaf l s (Leaf.haspEnrollCmd h buf)

/-- The image that a part runs is confirmed, with a SEC_CTR below a value. -/
def PartFw.below (f : PartFw) (v : Nat) : Bool := f.up && !f.ptr.newest.trial && f.secCtr < v

/-- A confirmed image with a SEC_CTR below `v` runs on a part of the KIND (R540). -/
def Leaf.floorTooHigh (d : Leaf) (w : State) (kind v : Nat) : Bool :=
  match kind with
  | 1 =>
    let below (x : Leaf) : Bool := !x.upd.boot.newest.trial && x.upd.boot.newest.secCtr < v
    below d || (d.is HNG_STATUS_PARTNER_UP && below (w.leaf d.leafId.other))
  | 3 => d.declared.any fun n => (SMap.get {} w.concs n).fw.below v
  | _ => d.mappedSlots.any fun s => (d.cellAt w s).fw.below v

/-- RAISE_FLOOR of KIND 1, 3 or 4. -/
def Leaf.updRaiseFloorCmd (w : State) (h : Handle) (d : Leaf) : Leaf :=
  d.runCmd h 4 12 fun c d =>
    let kind := c.par 0 8
    let v := c.par 8 32
    if d.is UPD_HASP_SET then d.complete h stREFUSED_HASP
    else if !(kind = 1 || kind = 3 || kind = 4) || d.floorTooHigh w kind v then d.complete h stINVALID
    else (d.wr UPD_Sk_FLOOR_FLOOR (max v (d.rd UPD_Sk_FLOOR_FLOOR (kind - 1))) (kind - 1)).complete h stDONE

def execUpdRaiseFloor (l : LeafId) (h : Handle) (s : State) : Host.Outcome State Fault Refusal := onLeaf l s (Leaf.updRaiseFloorCmd s h)

end Sys2Proof.Machine
end

