-- ==== Sys2Proof/Machine/Effects.lean ====
section
/-! DEFINITION. Announced effects, executed by a leaf that is not active, and the records of the journal as a leaf adopts them
(12_host_interface_and_handles.md R403, R410 to R412, R419, R420). -/

namespace Sys2Proof.Machine
open Reg

/-! ## Announced effects (R412) -/

/-- A command whose effect lies outside the pair, or that only reads: it runs on the active leaf alone, at its turn (R413). -/
def outerCmd (c : Cmd) : Bool :=
  match c.cls with
  | 8 => decide (c.op = 1 || c.op = 2)
  | 5 => decide (c.op = 4)
  | 6 => decide (c.op = 1 || c.op = 2)
  | 7 => true
  | _ => false

/-- The update commands that carry a buffer: the other leaf executes them when the buffer arrives (17_updates.md R523). -/
def bufferCmd (c : Cmd) : Bool := c.cls = 4 && (c.op = 1 || c.op = 2 || c.op = 10 || c.op = 11)

/-- The active leaf announces every accepted command that has no effect yet for the next boundary (log entry 13, DEDUCED). -/
def Leaf.announceAll (d : Leaf) : Leaf :=
  (d.hnd.cmds.filter fun c => c.ann.isNone && !c.effective && !outerCmd c).foldl
    (fun d c => (d.modCmd c.handle fun c => { c with ann := some (d.tim.cyc + 1) }).mirror (.announce c.handle (d.tim.cyc + 1))) d

/-- The effect of a command inside the pair, by its class and opcode. -/
def Leaf.runByHandle (x : Delays) (w : State) (d : Leaf) (c : Cmd) : Leaf :=
  let h := c.handle
  match c.cls, c.op with
  | 1, 1 => d.charge h
  | 1, 2 => d.deblock h
  | 1, 3 => d.blockCmd h
  | 1, 4 => d.clearTrip h
  | 2, op => d.setpoint op h
  | 3, 1 => d.keyLoad h
  | 3, 2 => d.keySwap x h
  | 3, 3 => d.keyDiscard h
  | 3, 4 => d.keyFallback h
  | 3, 5 => d.keyRaiseFloor h
  | 4, 3 => d.updVerify h
  | 4, 4 => d.updActivate h
  | 4, 5 => d.updDistribute h
  | 4, 6 => d.updWave w h
  | 4, 7 => d.updConfirm w h
  | 4, 8 => d.updAbortCmd h
  | 4, 9 => d.haspSetCmd h
  | 4, 12 => d.updRaiseFloorCmd w h
  | 5, 1 => d.recArm h
  | 5, 2 => d.recStop h
  | 5, 3 => d.recForce h
  | 5, 5 => d.recRelease h
  | 6, 0x30 => d.replace h
  | 8, 3 => d.formatJournal h
  | _, _ => d

/-- A leaf that is not active applies the effects announced for the boundaries that have come, in acceptance order. -/
def Leaf.runAnnounced (x : Delays) (w : State) (d : Leaf) : Leaf :=
  if d.active then d
  else (d.hnd.cmds.filter fun c => !c.effective && c.due d.tim.cyc && !bufferCmd c).foldl (Leaf.runByHandle x w) d

/-- The buffer of an update command arrives at the leaf that is not active (17_updates.md R523). -/
def Leaf.bufferArrives (serial h : Nat) (buf : List Byte) (d : Leaf) : Leaf :=
  match d.cmd h with
  | some c =>
    if d.active || !bufferCmd c then d
    else
      let d := d.modCmd h fun c => { c with ann := some 0 }
      if c.op = 1 then d.updBegin h buf
      else if c.op = 2 then d.updPiece h buf
      else if c.op = 10 then d.haspLiftCmd serial h buf
      else d.haspEnrollCmd h buf
  | none => d

/-! ## Commands and completions from journal records (Tables 12.6 and 12.7) -/

/-- The command of an ACCEPT record with the two PARAM records of its handle. -/
def cmdOf (recs : List JRec) (r : JRec) : Cmd :=
  let e := match recs.filter (fun p : JRec => p.kind = 6 && p.handle = r.handle) with
    | a :: b :: _ => a.data + b.data * 2 ^ 192
    | a :: _ => a.data
    | [] => 0
  Cmd.mk r.handle (r.handle / 2 ^ 56) (bits e 23 16) (bits e 383 64) r.sqIndex r.tagOrCseq r.crcOrStatus r.cycle none false false none false

/-- The sequence number in a handle (R402). -/
def seqOf (h : Nat) : Nat := h % 2 ^ 48

/-- A command at its place in acceptance order. -/
def insCmd (c : Cmd) : List Cmd → List Cmd
  | [] => [c]
  | x :: r => if seqOf c.handle < seqOf x.handle then c :: x :: r else if c.handle = x.handle then x :: r else x :: insCmd c r

/-- The 48-bit CSEQ of a COMPLETE or ACK record. -/
def recCseq (r : JRec) : Nat := r.tagOrCseq + r.crcOrStatus / 65536 * 2 ^ 32

/-- The completion that a COMPLETE record holds. -/
def complOf (r : JRec) : Compl := Compl.mk r.handle (recCseq r) (r.crcOrStatus / 256 % 256) r.result r.detail r.cycle

def insCompl (c : Compl) : List Compl → List Compl
  | [] => [c]
  | x :: r => if c.cseq < x.cseq then c :: x :: r else if c.cseq = x.cseq then x :: r else x :: insCompl c r

/-- HND_SEQ shows the sequence number last given. -/
def Leaf.showSeq (d : Leaf) : Leaf := d.wr64 HND_SEQ_LO_VALUE HND_SEQ_HI_VALUE (d.hnd.seq % 2 ^ 48)

/-- A completion decided on the active leaf: the command waits for nothing any more (R400). -/
def Leaf.adoptComplete (r : JRec) (d : Leaf) : Leaf :=
  let d := d.modCmd r.handle fun c => { c with effective := true, decided := true }
  let d := { d with conv := { d.conv with deblockWait := if d.conv.deblockWait = some r.handle then none else d.conv.deblockWait,
                                          blockWait := d.conv.blockWait.filter (· ≠ r.handle) } }
  { d with hnd := { d.hnd with compl := insCompl (complOf r) d.hnd.compl, cseq := max d.hnd.cseq (recCseq r + 1) } }

/-- What a record of the active leaf says to a leaf that is not active. The START of an effect outside the pair lets the commands behind it
take their turn (R417) (log entry 94, DEDUCED). -/
def Leaf.adoptMeaning (recs : List JRec) (d : Leaf) (r : JRec) : Leaf :=
  match r.kind with
  | 1 => { d with hnd := { d.hnd with cmds := insCmd (cmdOf recs r) d.hnd.cmds, seq := max d.hnd.seq (seqOf r.handle) } }.showSeq
  | 3 => d.modCmd r.handle fun c => if outerCmd c then { c with effective := true } else c
  | 4 => d.adoptComplete r
  | _ => d

/-- Records of the active leaf enter the buffer and the MRAM of its partner, which acknowledges acceptance records (R403) (log entry 94, DEDUCED). -/
def Leaf.adoptJournal (recs : List JRec) (d : Leaf) : Leaf :=
  if d.active then d
  else
    let d := recs.foldl (fun d r => (d.jwrite r).adoptMeaning recs r) d
    if recs.any (·.kind = 1) then d.mirror .journalAck else d

/-! ## The whole journal: adoption and rebuilding (R410, R411) -/

/-- The records of a journal in the order of writing: from the next index around the ring. -/
def Hnd.inOrder (h : Hnd) (m : SMap JRec) : List JRec :=
  (m.filter (fun (p : Nat × JRec) => h.jnext ≤ p.1) ++ m.filter (fun (p : Nat × JRec) => p.1 < h.jnext)).map (·.2)

/-- The commands and completions that the records of a journal hold: those acknowledged have gone (R409). -/
def Leaf.fromRecords (recs : List JRec) (d : Leaf) : Leaf :=
  let ack := (recs.filter (·.kind = 5)).foldl (fun a r => max a (recCseq r)) 0
  let cs := recs.filter (·.kind = 4)
  let gone (h : Nat) : Bool := cs.any fun r => r.handle = h && recCseq r < ack
  let done (h : Nat) : Bool := cs.any (·.handle = h)
  let begun (h : Nat) : Bool := recs.any fun r => r.kind = 3 && r.handle = h
  let as_ := recs.filter (·.kind = 1)
  let cmds := (as_.filter fun r => !gone r.handle).foldl (fun l r =>
    insCmd { cmdOf recs r with effective := begun r.handle || done r.handle, decided := done r.handle } l) []
  let compl := (cs.filter fun r => ack ≤ recCseq r).foldl (fun l r => insCompl (complOf r) l) []
  let cseq := cs.foldl (fun a r => max a (recCseq r + 1)) ack
  let seq := as_.foldl (fun a r => max a (seqOf r.handle)) 0
  let h := { d.hnd with cmds := cmds, compl := compl, ack := ack, cqNext := ack, cseq := max d.hnd.cseq cseq, seq := max d.hnd.seq seq }
  ((({ d with hnd := h }.showSeq).wr HND_CQ_ACK_CSEQ ack).wr64 HND_CQ_NEXT_LO_VALUE HND_CQ_NEXT_HI_VALUE ack).wr HND_JRNL_LIVE h.live

/-- The counters stand at least at the values that the leaf's own MRAM gives them (R410) (log entry 94, DEDUCED). -/
def Leaf.ownCounters (d : Leaf) : Leaf :=
  let recs := d.hnd.inOrder d.hnd.mram
  let seq := (recs.filter (·.kind = 1)).foldl (fun a r => max a (seqOf r.handle)) d.hnd.seq
  let cseq := (recs.filter (·.kind = 4)).foldl (fun a r => max a (recCseq r + 1)) d.hnd.cseq
  { d with hnd := { d.hnd with seq := seq, cseq := cseq } }.showSeq

/-- Counters that the joining leaf's MRAM holds higher raise the active leaf's (R410) (log entry 94, DEDUCED). -/
def Leaf.raiseCounters (seq cseq : Nat) (d : Leaf) : Leaf :=
  let idle : Bool := d.hnd.cqNext = d.hnd.cseq
  let q := max d.hnd.cseq cseq
  let d := { d with hnd := { d.hnd with seq := max d.hnd.seq seq, cseq := q, cqNext := if idle then q else d.hnd.cqNext } }.showSeq
  d.wr64 HND_CQ_NEXT_LO_VALUE HND_CQ_NEXT_HI_VALUE d.hnd.cqNext

/-- A joining leaf adopts the live records, both counters and the head (R410) (log entry 94, DEDUCED). -/
def Leaf.adoptAll (recs : List JRec) (seq cseq head : Nat) (d : Leaf) : Leaf :=
  let d := d.ownCounters
  let own := (d.hnd.seq, d.hnd.cseq)
  let d := { d with hnd := { d.hnd with journal := [], newest := none } }
  let d := ((recs.foldl Leaf.jwrite d).fromRecords recs).raiseCounters seq cseq
  let d := { d with hng := { d.hng with journalOk := true } }.wr HND_SQ_HEAD_HEAD head
  if seq < own.1 || cseq < own.2 then d.mirror (.journalAdopt [] own.1 own.2 0) else d

/-- The live records, for a leaf that joins; the effects announced and not yet made follow. -/
def Leaf.sendJournal (d : Leaf) : Leaf :=
  let live := d.hnd.journal.filter fun (p : Nat × JRec) => d.hnd.isLive p.1 p.2
  let d := d.mirror (.journalAdopt (d.hnd.inOrder live) d.hnd.seq d.hnd.cseq d.journalHead)
  d.hnd.cmds.foldl (fun d c => match c.ann with
    | some b => if c.effective then d else d.mirror (.announce c.handle b)
    | none => d) d

/-- The last column of Table 12.8 for a command that a restart found without its completion (R411) (log entry 95, DEDUCED). -/
def Leaf.restartCmd (d : Leaf) (c : Cmd) : Leaf :=
  if c.decided then d
  else if c.cls = 1 || c.cls = 2 || c.cls = 7 then d.complete c.handle stABORTED_FAULT
  else if c.cls = 3 && (c.op = 2 || c.op = 4) then d.complete c.handle stINCOMPLETE
  else d.modCmd c.handle fun c => { c with effective := false, ann := none, restart := true }

/-- A leaf that becomes active without a partner to adopt from rebuilds its journal from its MRAM (R411) (log entry 95, DEDUCED). -/
def Leaf.rebuildJournal (d : Leaf) : Leaf :=
  let recs := d.hnd.inOrder d.hnd.mram
  let last := (d.hnd.mram.filter (fun (p : Nat × JRec) => p.2.kind = 1 || p.2.kind = 2))
  let newest := match (last.filter (fun (p : Nat × JRec) => p.1 < d.hnd.jnext)).getLast?, last.getLast? with
    | some p, _ => some (p.1, p.2.handle)
    | none, some p => some (p.1, p.2.handle)
    | none, none => none
  let d := { d with hnd := { d.hnd with journal := d.hnd.mram, newest := newest } }.fromRecords recs
  let d := d.hnd.cmds.foldl Leaf.restartCmd d
  { d with hng := { d.hng with journalOk := true } }

/-! ## After a takeover (R419, R420) -/

/-- A job of this leaf will still complete the command (log entry 95, DEDUCED). -/
def Leaf.jobOf (d : Leaf) (h : Nat) : Bool :=
  d.key.load.map (·.handle) = some h || d.key.waitPartner.map (·.handle) = some h || d.key.pend.map (·.handle) = some h ||
  d.hng.exchange.map (·.handle) = some h

/-- The second column of Table 12.8: a command completes as this leaf would have completed it, goes on, or is repeated (log entry 95, DEDUCED). -/
def Leaf.afterHinge (d : Leaf) (c : Cmd) : Leaf :=
  if c.decided then d
  else match c.own with
    | some r => d.complete c.handle r.1 r.2.1 r.2.2
    | none =>
      if c.cls = 3 && c.effective && !d.jobOf c.handle then d.modCmd c.handle fun c => { c with effective := false, ann := none }
      else if c.cls = 4 then d.modCmd c.handle fun c => { c with effective := false, ann := none, restart := true }
      else if c.cls = 5 || c.cls = 6 || c.cls = 8 then d.modCmd c.handle fun c => { c with effective := false, ann := none }
      else d

end Sys2Proof.Machine
end

