-- ==== Sys2Proof/Machine/Join.lean ====
section
/-! DEFINITION. How a STARTING leaf takes its role: pairing, the start-up keying load, joining as standby and taking the active role (13_the_hinge.md
R423, R424; 06_keying_image.md R236 to R239; 17_updates.md R523, R533, R536). -/

namespace Sys2Proof.Machine
open Reg

/-! ## Pairing (00_scope.md R2, 01_architecture.md R21) -/

/-- The partner is of the same variant, with the other leaf number. -/
def Leaf.pairOk (d : Leaf) (i : Identity) : Bool := i.idCap = idCapOf d.ident.variant && i.leaf ≠ d.ident.leaf

/-- The identity of the partner is judged. -/
def Leaf.judgePair (d : Leaf) : Leaf :=
  match d.hng.partner.ident with
  | some i => if d.pairOk i then d else (d.wr HNG_STATUS_PAIR_FAULT 1).raise 0x0002 .alarm
  | none => d

/-! ## The start-up load (06_keying_image.md R239; 17_updates.md R536) -/

/-- The keying pointer is read before the load: BOOTS counts in TRIAL, and a pointer that has used its three boots names the other ward. -/
def Leaf.readKptr (d : Leaf) : Leaf :=
  let p := d.upd.kptr
  let c := p.newest
  if !c.trial then d
  else if c.boots < 3 then ({ d with upd := { d.upd with kptr := p.write { c with boots := c.boots + 1 } } }).showPtrs
  else ((({ d with upd := { d.upd with kptr := p.fall (!c.second) d.keyWard } }).showPtrs.showWards).wr UPD_STATUS_FELL_BACK 1).raise 0x2A01 .alarm 0 0 2

/-- Step 7: the ward that the pointer names, or the one that holds the image that the partner has active (R236, R239). -/
def Leaf.startUpLoad (want : Option Nat) (d : Leaf) : Leaf :=
  let d := { d with pwr := { d.pwr with step := 7 } }.readKptr
  let other : Bool := want.isSome && (d.keyWard (!d.keyPtr)).hash = want && (d.keyWard d.keyPtr).hash ≠ want
  d.loadStart { handle := 0, ward := if other then !d.keyPtr else d.keyPtr, startUp := true }

/-! ## What a joining leaf is given (12_host_interface_and_handles.md R410; 17_updates.md R523, R533) -/

/-- Log entry 93, DEDUCED. -/
def Leaf.sendOwner (d : Leaf) : Leaf :=
  d.mirror (.owner d.upd.owner (d.is UPD_HASP_SET) (d.rd64 UPD_HASP_LIFT_LO_HANDLE UPD_HASP_LIFT_HI_HANDLE))

/-- The active leaf sends its journal, its stores and its nonce to a partner that starts. -/
def Leaf.sendAdoption (d : Leaf) : Leaf :=
  if !d.active then d
  else
    let d := d.sendJournal
    let d := [1, 2, 3, 4].foldl (fun d k => d.mirror (.store k (d.sessOf k).st (d.storeOf k).hdr (d.storeOf k).pieces (d.storeOf k).hash)) d
    let d := d.mirror (.nonce (d.rd64 UPD_HASP_NONCE_LO_NONCE UPD_HASP_NONCE_HI_NONCE))
    d.mirror (.hngCfg (d.rd HNG_CFG_ALIGN_HOLD_MS) (d.rd HNG_CFG_CMP_PERSIST) (d.rd HNG_SOLO_MS))

/-- A store and its session as the partner has them, on a leaf that joins (R523) (log entry 93, DEDUCED). -/
def Leaf.takeStore (kind st : Nat) (hdr : List Byte) (pieces : List (Nat × List Byte)) (hash : Option Nat) (d : Leaf) : Leaf :=
  if d.hng.role ≠ .starting || kind < 1 || 4 < kind then d
  else
    let ps := pieces.foldl (fun (m : SMap (List Byte)) (p : Nat × List Byte) => SMap.put [] m p.1 p.2) []
    let bs := pieces.foldl (fun (m : SMap Nat) (p : Nat × List Byte) => SMap.put 0 m p.1 1) []
    let d := d.setStore kind { hdr := hdr, pieces := ps, hash := hash }
    (d.setSess kind (if st = 0 then {} else { st := st, hdr := hdr, bits := bs })).showKind kind

/-- The owner key of the partner: adopted by a leaf without one, and a mismatch otherwise (R533); the hasp follows the active leaf (log entry 93, DEDUCED). -/
def Leaf.takeOwner (key : Option Nat) (set : Bool) (lift : Nat) (d : Leaf) : Leaf :=
  let differs : Bool := match key, d.upd.owner with | some a, some b => decide (a ≠ b) | _, _ => false
  let d := if differs then d.raise 0x2A01 .alarm 0 0 0xFF else d
  if d.active then d
  else
    let d := { d with upd := { d.upd with ownerBad := differs } }
    let d := if d.upd.owner.isNone && key.isSome then { d with upd := { d.upd with owner := key } }.wr UPD_HASP_ENROLLED 1 else d
    if differs then d else (d.wr UPD_HASP_SET (b2n set)).wr64 UPD_HASP_LIFT_LO_HANDLE UPD_HASP_LIFT_HI_HANDLE lift

/-! ## Taking the first role (Table 13.2, R424) -/

/-- STARTING to ACTIVE: the journal is rebuilt, the floor and the image are the leaf's own. -/
def Leaf.firstActive (d : Leaf) : Leaf := ((d.setRole .active).wr HND_STATUS_ROLE 1).rebuildJournal.startUpLoad none

/-- KEY_FLOOR rises to the active leaf's (R237); a raise counts (R241) (log entry 93, DEDUCED). -/
def Leaf.joinFloor (v : Nat) (d : Leaf) : Leaf :=
  if d.rd KEY_FLOOR_FLOOR < v then (d.wr KEY_FLOOR_FLOOR v).wr KEY_FLOOR_LEFT_LEFT (d.rd KEY_FLOOR_LEFT_LEFT - 1) else d

/-- Station time and cycle number are the partner's (02_clocks_and_time.md R61). -/
def Leaf.sameTime (d p : Leaf) : Bool := d.tim.cyc = p.tim.cyc && (d.now - p.now).natAbs ≤ 65536

/-- The conditions of R424 beyond the pairing, with an owner key that agrees (17_updates.md R533). -/
def Leaf.mayStand (d p : Leaf) : Bool :=
  d.pwr.step = 8 && d.key.active.map (·.hash) = d.hng.partner.hash && d.hng.journalOk && d.sameTime p && !d.upd.ownerBad

/-- A STARTING leaf in step 6 or later with the mirror link UP (Table 13.2); `p` is the partner, for its time. A partner that reports
DEADBOLTED holds it (01_architecture.md R42). -/
def Leaf.tryJoin (d p : Leaf) : Leaf :=
  if d.hng.role ≠ .starting || d.pwr.step < 6 || !d.is HNG_STATUS_PARTNER_UP || d.hng.partner.conv = 6 then d
  else match d.hng.partner.ident with
    | none => d
    | some i =>
      if !d.pairOk i then d
      else if i.role = 1 then
        let d := d.joinFloor i.floor
        if d.pwr.step = 6 then d.startUpLoad d.hng.partner.hash
        else if d.mayStand p then (d.setRole .standby).raise 0x2601 .note
        else d
      else if i.role = 3 || (i.role = 0 && d.ident.leaf = 0) then
        if d.pwr.step = 6 then d.firstActive else ((d.setRole .active).wr HND_STATUS_ROLE 1).rebuildJournal
      else d

end Sys2Proof.Machine
end

