-- ==== Sys2Proof/Machine/Time.lean ====
section
/-! DEFINITION. Reference selection, the clock monitor, alignment across the mirror link, time triggers and PTP stamps
(02_clocks_and_time.md R47 to R82, R89; 13_the_hinge.md R430). -/

namespace Sys2Proof.Machine
open Reg

/-! ## The reference selector (R50, Table 2.2) -/

/-- STATE of TIM_CLK_STATUS while locked to an input: 1 LOCKED_A, 2 LOCKED_B. -/
def refState : RefInput → Nat
  | .a => 1
  | .b => 2

def refOther : RefInput → RefInput
  | .a => .b
  | .b => .a

/-- The QUAL field of an input. -/
def refQual : RefInput → Fld
  | .a => TIM_CLK_STATUS_QUAL_A
  | .b => TIM_CLK_STATUS_QUAL_B

/-- SEL_MODE allows an input: AUTO (0, and 3 treated as AUTO) allows both. -/
def Leaf.refAllowed (d : Leaf) (i : RefInput) : Bool :=
  let m := d.rd TIM_CLK_SEL_MODE
  if m = 1 then i = .a else if m = 2 then i = .b else true

def Leaf.selAuto (d : Leaf) : Bool := d.rd TIM_CLK_SEL_MODE = 0 || d.rd TIM_CLK_SEL_MODE = 3
def Leaf.prefInput (d : Leaf) : RefInput := if d.is TIM_CLK_PREF then .b else .a

/-- The selector takes a state. A standby whose mirror link is down loses MIR_ALIGN with the state it last reported (13_the_hinge.md
R430). -/
def Leaf.setSel (d : Leaf) (v : Nat) : Leaf :=
  let d' := d.wr TIM_CLK_STATUS_STATE v
  if !d.active && !d.is HNG_STATUS_PARTNER_UP && v ≠ d.rd TIM_CLK_STATUS_STATE then d'.wr TIM_CLK_STATUS_MIR_ALIGN 0 else d'

/-- A sticky timebase flag is set; its rise fires vector 8 (12_host_interface_and_handles.md Table 12.2). -/
def Leaf.timeFlag (d : Leaf) (f : Fld) : Leaf := if d.is f then d else (d.wr f 1).msix 8

/-- The selector switches to the other reference: ALARM, SWITCHED. -/
def Leaf.switchRef (d : Leaf) (i : RefInput) : Leaf := ((d.setSel (refState i)).timeFlag TIM_CLK_STATUS_SWITCHED).raise 0x0101 .alarm

/-- A forced input that is qualified takes the selector from the other one. -/
def Leaf.forceRef (d : Leaf) : Leaf :=
  if d.rd TIM_CLK_STATUS_STATE = 1 && d.rd TIM_CLK_SEL_MODE = 2 && d.is TIM_CLK_STATUS_QUAL_B then d.switchRef .b
  else if d.rd TIM_CLK_STATUS_STATE = 2 && d.rd TIM_CLK_SEL_MODE = 1 && d.is TIM_CLK_STATUS_QUAL_A then d.switchRef .a
  else d

/-- The input the selector locks to when it leaves ACQUIRE or HOLDOVER: PREF if both are allowed and qualified. -/
def Leaf.lockChoice (d : Leaf) : Option RefInput :=
  let ok (i : RefInput) := d.refAllowed i && d.is (refQual i)
  if ok d.prefInput then some d.prefInput else if ok (refOther d.prefInput) then some (refOther d.prefInput) else none

/-- An input becomes qualified. In ACQUIRE after the reset timer it lets start-up proceed (R53; 19_power_reset_startup.md R581). -/
def Leaf.refQualified (i : RefInput) (d : Leaf) : Leaf :=
  let d := d.wr (refQual i) 1
  let st := d.rd TIM_CLK_STATUS_STATE
  if st = 0 then
    match d.lockChoice with
    | some j => d.setSel (refState j) |>.afterReference
    | none => d
  else if st = 3 then
    match d.lockChoice with
    | some j => ((d.setSel (refState j)).wr TIM_CLK_STATUS_HOLD_MS 0).raise 0x0104 .note
    | none => d
  else d.forceRef

def execReferenceQualified (l : LeafId) (inp : RefInput) (s : State) : Host.Outcome State Fault Refusal :=
  onLeaf l s (Leaf.refQualified inp)

/-- An input loses qualification: the selector switches in AUTO to a qualified input, and enters HOLDOVER otherwise. -/
def Leaf.refLost (i : RefInput) (d : Leaf) : Leaf :=
  let d := d.wr (refQual i) 0
  if d.rd TIM_CLK_STATUS_STATE = (refState i) then
    if d.is (refQual (refOther i)) && d.selAuto then d.switchRef (refOther i)
    else ((({ d with tim := { d.tim with holdFrom := d.tim.c } }.setSel 3).wr TIM_CLK_STATUS_HOLD_MS 0).timeFlag TIM_CLK_STATUS_HOLD_SEEN).raise 0x0102 .alarm
  else d

def execReferenceLost (l : LeafId) (inp : RefInput) (s : State) : Host.Outcome State Fault Refusal := onLeaf l s (Leaf.refLost inp)

/-- PREF has been qualified for 10 s: with REVERT and AUTO the selector reverts. -/
def Leaf.refReverted (d : Leaf) : Leaf :=
  let i := d.prefInput
  if d.is TIM_CLK_REVERT && d.selAuto && d.is (refQual i) && d.rd TIM_CLK_STATUS_STATE = refState (refOther i) then
    (d.setSel (refState i)).raise 0x0103 .note
  else d

def execReferenceReverted (l : LeafId) (s : State) : Host.Outcome State Fault Refusal := onLeaf l s Leaf.refReverted

/-- 10 s in HOLDOVER: a TRIP while moving, an ALARM otherwise (log entry 83, DEDUCED). -/
def Leaf.holdoverExpired (d : Leaf) : Leaf :=
  if d.rd TIM_CLK_STATUS_STATE = 3 then
    ((d.timeFlag TIM_CLK_STATUS_HOLD_EXPIRED).wr TIM_CLK_STATUS_HOLD_MS (max 10000 (d.rd TIM_CLK_STATUS_HOLD_MS))).raise 0x0105
      (if d.moving then .trip else .alarm)
  else d

def execHoldoverExpired (l : LeafId) (s : State) : Host.Outcome State Fault Refusal := onLeaf l s Leaf.holdoverExpired

/-- A write of TIM_CLK. -/
def Leaf.timClkWrite (val : Word) (d : Leaf) : Leaf :=
  if !d.writable then d
  else (((d.wr TIM_CLK_REVERT (bits val.toNat 8 8)).wr TIM_CLK_SEL_MODE (bits val.toNat 5 4)).wr TIM_CLK_PREF (bits val.toNat 0 0)).forceRef

def execTimClkWrite (l : LeafId) (val : Word) (s : State) : Host.Outcome State Fault Refusal := onLeaf l s (Leaf.timClkWrite val)

/-! ## The clock monitor (R54, R55) -/

/-- A window's count deviates by more than 10 % from 8,192. -/
def countBad (count : Nat) : Bool := count * 10 < 8192 * 9 || 8192 * 11 < count * 10

/-- The clock-monitor fault: a self-diagnosis cause on the active leaf (R55). -/
def Leaf.clockFault (d : Leaf) : Leaf := { d with conv := { d.conv with clockBad := true } }.selfDiag 4 0x0106 .trip 0 0

def Leaf.clockWindow (count : Nat) (d : Leaf) : Leaf :=
  if countBad count then d.clockFault else { d with conv := { d.conv with clockBad := false } }

def execClockMonitorWindow (l : LeafId) (count : Nat) (s : State) : Host.Outcome State Fault Refusal := onLeaf l s (Leaf.clockWindow count)

def execRootPllLossOfLock (l : LeafId) (s : State) : Host.Outcome State Fault Refusal := onLeaf l s Leaf.clockFault

/-! ## Alignment over the mirror link (R59, 13_the_hinge.md R430) -/

/-- The trim of a leaf that is not ACTIVE has converged with the mirror link UP. -/
def Leaf.mirAlign (d : Leaf) : Leaf := if !d.active && d.is HNG_STATUS_PARTNER_UP then d.wr TIM_CLK_STATUS_MIR_ALIGN 1 else d

def execMirAlignConverged (l : LeafId) (s : State) : Host.Outcome State Fault Refusal := onLeaf l s Leaf.mirAlign

/-- ALIGN_HOLD_MS after the mirror link left UP. -/
def Leaf.alignExpired (d : Leaf) : Leaf := if !d.active && !d.is HNG_STATUS_PARTNER_UP then d.wr TIM_CLK_STATUS_MIR_ALIGN 0 else d

def execAlignHoldExpired (l : LeafId) (s : State) : Host.Outcome State Fault Refusal := onLeaf l s Leaf.alignExpired

/-! ## Time triggers (R73) -/

/-- Arm a trigger for a linear time; a time already past sets TRIG_LATE. -/
def Leaf.arm (d : Leaf) (n : Nat) (t : Int) : Leaf :=
  let d := if t < d.now then d.timeFlag TIM_STATUS_TRIG_LATE else d
  { d with tim := { d.tim with armed := d.tim.armed.filter (·.1 ≠ n) ++ [(n, t)] } }

/-- A trigger fires when station time is at or after its time (log entry 6, DESIGN CHOICE). -/
def Leaf.timeTrigger (n : Nat) (d : Leaf) : Leaf :=
  match d.tim.armed.find? (·.1 = n) with
  | some a => if a.2 ≤ d.now then { d with tim := { d.tim with armed := d.tim.armed.filter (·.1 ≠ n) } }.emit (.trigger n) else d
  | none => d

def execTimeTrigger (l : LeafId) (trg : Nat) (s : State) : Host.Outcome State Fault Refusal := onLeaf l s (Leaf.timeTrigger trg)

/-! ## PTP stamps (R78 to R82, R89) -/

/-- The stamp of a message: the boundary instant plus E on egress, minus I on ingress (R82); constants in 1/16 ns. -/
def Leaf.ptpTime (d : Leaf) (e : PtpEvent) : Int :=
  if e.egress then d.now + sext 16 (d.rd TIM_Pn_ASYM_EGRESS e.port.val) * 4096
  else d.now - sext 16 (d.rd TIM_Pn_ASYM_INGRESS e.port.val) * 4096

/-- An event message of Table 2.5: Sync 0, Delay_Req 1, Pdelay_Req 2, Pdelay_Resp 3. -/
def Leaf.ptpEvent (e : PtpEvent) (d : Leaf) : Leaf :=
  if !d.is TIM_Pn_CFG_EN e.port.val || 3 < e.msgType then d
  else
    let t := d.ptpTime e
    let k := e.port.val * 2 + b2n e.egress
    let q := SMap.get [] d.tim.fifo k
    let d := if q.length < 16 then
        { d with tim := { d.tim with fifo := SMap.put [] d.tim.fifo k (q ++ [⟨e.msgType, e.seqId % 65536, toTs96 t, d.is TIM_STATUS_UNSET⟩]) } }
      else d.sat (if e.egress then TIM_Pn_STAT_TX_LOST else TIM_Pn_STAT_RX_LOST) e.port.val
    if e.egress && d.is TIM_Pn_CFG_ONE_STEP e.port.val && (e.msgType = 0 || e.msgType = 3) then
      d.emit (.ptp e.port.val e.msgType (if e.msgType = 0 then toTs96 t else 0) (if e.msgType = 3 then t - ofTs96 e.reqIngress else 0)
        (d.is TIM_Pn_CFG_TRANSPORT e.port.val))
    else d

def execPtpEventMessage (l : LeafId) (ptp : PtpEvent) (s : State) : Host.Outcome State Fault Refusal := onLeaf l s (Leaf.ptpEvent ptp)

/-- A read of a TAG register pops the head of its FIFO and loads its TS96 (R89); an empty FIFO reads VALID 0. -/
def Leaf.tagRead (n dir : Nat) (t0 t1 t2 : Fld) (d : Leaf) : Leaf :=
  match SMap.get [] d.tim.fifo (n * 2 + dir) with
  | [] => { d with rdata := 0 }
  | x :: r =>
    let d := { d with tim := { d.tim with fifo := SMap.put [] d.tim.fifo (n * 2 + dir) r } }
    { ((d.wr t0 x.ts n).wr t1 (x.ts / 2 ^ 32) n).wr t2 (x.ts / 2 ^ 64) n with rdata := 2 ^ 31 + x.msgType % 16 * 65536 + x.seqId }

def execTimPnRxtagRead (l : LeafId) (n : Fin 2) (s : State) : Host.Outcome State Fault Refusal :=
  onLeaf l s (Leaf.tagRead n.val 0 TIM_Pn_RXTS0_VALUE TIM_Pn_RXTS1_VALUE TIM_Pn_RXTS2_VALUE)

def execTimPnTxtagRead (l : LeafId) (n : Fin 2) (s : State) : Host.Outcome State Fault Refusal :=
  onLeaf l s (Leaf.tagRead n.val 1 TIM_Pn_TXTS0_VALUE TIM_Pn_TXTS1_VALUE TIM_Pn_TXTS2_VALUE)

/-! ## The passing of time (log entry 1, DESIGN CHOICE) -/

/-- HOLD_MS, the time in the current holdover, in ms of 800,000 FCLK cycles (Table 2.11); the 10 s of HOLDOVER_EXPIRED stand once that
command has been given (log entry 6, DESIGN CHOICE) (log entry 83, DEDUCED). -/
def Leaf.holdTime (d : Leaf) : Leaf :=
  if d.rd TIM_CLK_STATUS_STATE = 3 then
    d.wr TIM_CLK_STATUS_HOLD_MS (max (d.rd TIM_CLK_STATUS_HOLD_MS) (min 65535 ((d.tim.c - d.tim.holdFrom) / 800000)))
  else d

/-- ROOT runs, and FCLK with it: the leaf is not held in reset, and a reference has been qualified (R53, 19_power_reset_startup.md R577) (log entry 37, DEDUCED). -/
def Leaf.clocked (d : Leaf) : Bool := !d.pwr.held && d.pwr.step ≠ 1 && d.pwr.step ≠ 2

/-- One cycle of FCLK at a leaf: the free-running counter counts once the leaf has left its reset (R62) (log entry 1, DESIGN CHOICE; log entry 37, DEDUCED). -/
def Leaf.tick (d : Leaf) : Leaf := if !d.clocked then d else { d with tim := { d.tim with c := (d.tim.c + 1) % 2 ^ 64 } }.holdTime

/-- One cycle of FCLK passes on both leaves (log entry 1, DESIGN CHOICE). -/
def State.tick (s : State) : State := { s with leaf0 := s.leaf0.tick, leaf1 := s.leaf1.tick }

end Sys2Proof.Machine
end

