-- ==== Sys2Proof/Machine/Cycle.lean ====
section
/-! DEFINITION. CYCLE_START: the boundary between two control cycles, with everything the manual applies there (03_control_cycle.md R91; 01_architecture.md
R36, R38, R43; 02_clocks_and_time.md R73, R75, R77; 07_setpoint_profiler.md R248; 12_host_interface_and_handles.md R412; 13_the_hinge.md R441). -/

namespace Sys2Proof.Machine
open Reg

/-! ## The grid (02_clocks_and_time.md R73, R75, R77) -/

/-- The end of the cycle that starts: T_c later, or the first grid instant at least T_c later when the grid is re-phased; the grid is counted
from station time 0 (log entry 84, DEDUCED; log entry 89, DEDUCED). -/
def Leaf.cycleEnd (d : Leaf) (start : Int) : Int :=
  if d.tim.rephase && 0 < d.tc then -(Int.fdiv (-(start + d.tc)) d.tc) * d.tc else start + d.tc

/-- The slip of the cycle nine ahead is planned from the applied rate: the last cycle of the plan that the next set carries (R75, R76) (log entry 84, DEDUCED). -/
def Leaf.planSlip (d : Leaf) : Leaf :=
  let one : Int := 81920 * 2 ^ 40
  let e := d.tim.gerr + d.tc * d.rate
  let s : Int := if one ≤ e then -1 else if e ≤ -one then 1 else 0
  let old := d.tim.slips.filter fun (x : Nat × Int) => d.tim.cyc ≤ x.1 + 3
  let slips := if s = 0 then old else old ++ [(d.tim.cyc + 9, s)]
  let e := e + s * one
  { d with tim := { d.tim with slips := slips, gerr := e } }.wr TIM_GRID_ERROR (pat 16 (Int.fdiv e (2 ^ 52)))

/-- A new cycle begins: its number, its start, its slip, and the triggers of the next start and of S (R73) (log entry 84, DEDUCED; log entry 89, DEDUCED). -/
def Leaf.beginCycle (d : Leaf) : Leaf :=
  let c := d.tim.cyc + 1
  let start := d.now
  let d := { d with tim := { d.tim with cyc := c, starts := ((c, start) :: d.tim.starts).take 16 } }
  let d := d.wr64 CYC_COUNT_LO_VALUE CYC_COUNT_HI_VALUE c
  let d := if d.tim.slips.any (·.1 = c) then d.inc TIM_GRID_SLIPS else d
  let d := (d.arm 0 (d.cycleEnd start)).arm 1 (start + (d.rd CYC_SAMPLE_OFS_VALUE * 81920 : Nat))
  let d := { d with tim := { d.tim with rephase := false } }
  if d.is TIM_STATUS_FOLLOWING then d else d.planSlip

/-! ## Split grants (13_the_hinge.md R441, R442) -/

/-- The map of the concentrators that name a leaf. -/
def mapOf (l : List Nat) : Nat := l.foldl (fun m n => setBit m n true) 0

/-- The majority leaf of a split (log entry 91, DEDUCED). -/
def Leaf.majority (d : Leaf) : Nat :=
  let a := (d.naming 0).length
  let b := (d.naming 1).length
  if a = b then d.hng.splitActive else if b < a then 0 else 1

/-- The grants are compared at the boundary. A leaf in DEADBOLTED keeps its role (R423) (log entry 91, DEDUCED). -/
def Leaf.splitCheck (d : Leaf) : Leaf :=
  let d := (d.wr64 HNG_GRANT0_LO_MAP HNG_GRANT0_HI_MAP (mapOf (d.naming 0))).wr64 HNG_GRANT1_LO_MAP HNG_GRANT1_HI_MAP (mapOf (d.naming 1))
  if !d.split then { (d.wr HNG_STATUS_SPLIT 0).wr HNG_SPLIT_NOW 0 with hng := { d.hng with splitRaised := false } }
  else
    let d := if d.is HNG_STATUS_SPLIT then d else { d.sat HNG_SPLIT_SPLITS with hng := { d.hng with splitActive := d.activeLeaf } }
    let d := ((d.wr HNG_STATUS_SPLIT 1).wr HNG_STATUS_SPLIT_SEEN 1).sat HNG_SPLIT_NOW
    let d := d.wr HNG_SPLIT_LONGEST (max (d.rd HNG_SPLIT_LONGEST) (d.rd HNG_SPLIT_NOW))
    if d.majority = d.ident.leaf || d.conv.st = .deadbolted then d
    else if d.active then d.giveUp 7
    else d.sendUplinks (fun n => d.grantOf n = d.ident.leaf) 6 fun _ => [d.releaseHdr false 7 0]

/-! ## What the leaves tell each other in every cycle -/

/-- The active leaf's settings, state and time; both leaves' demand and standing (R34, R61; 16_personnel_safety.md R511). -/
def Leaf.tellPartner (d : Leaf) : Leaf :=
  let d := if d.active then
      let d := d.mirror (.hndSettings d.sqBase d.sqSize d.cqBase d.cqSize (d.rd HND_SQ_HEAD_HEAD) d.hnd.ack)
      d.mirror (.time (d.rd TIM_RATE_VALUE) d.tim.ofs d.tim.cyc (d.is TIM_STATUS_UNSET) d.tim.slips d.tim.gerr (d.rd CYC_PERIOD_PERIOD))
    else d
  let d := if d.active || d.conv.st = .deadbolted then d.mirror (.convState d.conv.st.code d.tim.cyc) else d
  (d.mirror (.safety (d.safHas && d.ownDemand))).sendStanding

/-- HNG_HEALTH_AGE: the time since the last report, in ms (Table 13.13). -/
def Leaf.healthAge (d : Leaf) : Leaf :=
  d.wr HNG_HEALTH_AGE_MS (match d.hng.healthAt with | some t => min 65535 ((d.tim.c - t) / 800000) | none => 65535)

/-! ## The boundary -/

/-- The events of the boundary, by rank (01_architecture.md R38): a deadbolt, then on the active leaf a trip and the thresholds, that of the
ready count among them, before the state commands of the boundary. A standby takes
its state from the active leaf (R34) (log entry 42, DEDUCED; log entry 96, DEDUCED). -/
def Leaf.convEvents (d : Leaf) : Leaf :=
  let d := d.boltConv
  if d.active then d.tripConv.thresholds.countReady.readyMet else d

/-- The profiler's tick (07_setpoint_profiler.md R248, R249). -/
def Leaf.cycleTick (d : Leaf) : Leaf := if d.active then (d.profTick.profMirror).deliverProf d.tim.cyc else d

/-- The copies of the cycle before are dropped (R132, R198), and CLEARING ends with the first lists that run (06_keying_image.md R229). -/
def Leaf.dropCopies (d : Leaf) : Leaf := { d with cyc := { d.cyc with ctOld := [], hostCt := [] } }
/-- Log entry 82, DEDUCED. -/
def Leaf.endClearing (d : Leaf) : Leaf := if d.key.runFrom ≤ d.tim.cyc then d.wr FAB_STATUS_CLEARING 0 else d

/-- The number, the members and the fabric of the new cycle (log entry 43, DEDUCED). -/
def Leaf.cycleEnter (d : Leaf) : Leaf := d.beginCycle.dropCopies.applyMembers.concMissing.endClearing

/-- The commands that wait for a boundary are announced, and the partner is told (log entry 90, DEDUCED). -/
def Leaf.cycleTell (d : Leaf) : Leaf := (if d.active then d.announceAll else d).tellPartner

/-- The RELEASE of the cycle before is over, and HNG shows the standing (log entry 91, DEDUCED). -/
def Leaf.cycleShow (d : Leaf) : Leaf := ({ d with hng := { d.hng with relSeen := false } }).healthAge.hngShow

/-- The cycle starts: `p` is the partner, `w` the whole state, for the registers that the leaf polls. -/
def Leaf.cycleStart (x : Delays) (p : Leaf) (w : State) (d : Leaf) : Leaf :=
  if !d.running then d
  else
    let d := (d.cycleEnter.convEvents.runAnnounced x w).cycleTick
    let d := d.splitCheck.judgeExchange.cycleTell.tryJoin p
    ((d.judgeFallbacks.pollActs w).pollDist w).cycleShow

def execCycleStart (l : LeafId) (s : State) : Host.Outcome State Fault Refusal :=
  onLeaf l s (Leaf.cycleStart ((s.leaf l).delays (s.leaf l.other) s.concs) (s.leaf l.other) s)

end Sys2Proof.Machine
end

