-- ==== Sys2Proof/Machine/FaultCmds.lean ====
section
/-! DEFINITION. Fault records between the parts, closing, the fault lines and injection (14_faults.md R451 to R453, R460 to R462,
R465). -/

namespace Sys2Proof.Machine
open Reg

/-! ## Records that arrive (R451, R452) -/

/-- Two records have one SOURCE (Table 14.3) (log entry 45, DEDUCED). -/
def sameSource (a b : FaultRec) : Bool := a.part = b.part && a.unit = b.unit && a.code / 256 = b.code / 256 && a.inst = b.inst

/-- UNIT as the leaf fills it in, and the INJECTED bit that a cell's DETAIL stands for (R451, R465). -/
def Leaf.fillIn (d : Leaf) (n : Nat) (r : FaultRec) : FaultRec :=
  if r.part = 2 then
    { r with unit := (d.slotAt n r.inst).getD 0x3FFF, injected := r.injected || r.detail = 0xFFFFFFFF }
  else { r with unit := n }

/-- The open record that a received one names takes its MERGED, CAUSE, COUNT and DETAIL, and closes with it (R452). -/
def recUpdate (r x : FaultRec) : FaultRec :=
  { x with merged := r.merged, cause := r.cause, count := r.count, detail := r.detail, isOpen := r.isOpen }

/-- The first open record with the SOURCE and SEQ of a received one, updated; none where the store holds no such record (log entry 45, DEDUCED). -/
def FltEnt.updateFirst (r : FaultRec) : List FltEnt → Option (List FltEnt)
  | [] => none
  | x :: rest =>
    if x.r.isOpen && sameSource x.r r && x.r.seq = r.seq then some ({ x with r := recUpdate r x.r } :: rest)
    else (FltEnt.updateFirst r rest).map (x :: ·)

/-- A received record enters the ring (R452, R457). Its class has no reaction on the leaf beyond record, vector 2 and ALARM_OUT
(Table 14.1: a TRIP of one concentrator or cell blocks only its cells) (log entry 45, DEDUCED). -/
def Leaf.takeRecord (r : FaultRec) (d : Leaf) : Leaf :=
  match FltEnt.updateFirst r d.flt.recs with
  | some rs => { d with flt := { d.flt with recs := rs } }.fltRefresh
  | none =>
    if d.flt.recs.any fun x => !x.r.isOpen && sameSource x.r r && x.r.seq = r.seq && x.r.time = r.time then d
    else
      let a := FltStore.place 1024 d.flt r
      let d := { d with flt := a.1 }
      let d := if 1 ≤ r.cls.code then d.msix 2 else d
      let d := if a.2 = .lost then (d.sat FLT_CNT_LOST).wr FLT_STATUS_RING_OVF 1 else d
      d.fltRefresh

def execFault (l : LeafId) (n : Conc) (r : FaultRec) (s : State) : Host.Outcome State Fault Refusal :=
  onLeaf l s fun d => if d.running then d.takeRecord (d.fillIn n.val r) else d

/-- The record that a cell-lane FAULT body stands for (Table 14.4): PART 2, INSTANCE the port, OPEN 1. -/
def bodyRec (p body : Nat) : FaultRec where
  time := bits body 218 123
  code := bits body 122 107
  cls := FaultClass.ofCode (bits body 106 105)
  unset := bitOf body 104
  injected := false
  isOpen := true
  superseded := false
  seq := bits body 103 96
  part := 2
  unit := 0x3FFF
  inst := p
  merged := bits body 95 80
  cause := bits body 79 64
  count := bits body 63 48
  cycle := bits body 47 32
  detail := bits body 31 0

def execCellFault (n : Conc) (p : Port) (body : BitVec 219) (s : State) : Host.Outcome State Fault Refusal :=
  onConc n s fun d => if d.fw.up then d.sendFault n (bodyRec p.val body.toNat) else d

/-! ## Closing (R453, Table 14.1) -/

/-- A leaf closes the records that satisfy `p`. -/
def Leaf.closeRecs (p : FaultRec → Bool) (d : Leaf) : Leaf := { d with flt := d.flt.close fun x => x.r.isOpen && p x.r }.fltRefresh

/-- A NOTE or ALARM record. -/
def lowClass (r : FaultRec) : Bool := r.cls.code ≤ 1

/-- A write of FLT_CLEAR (Table 14.10). A TRIP record stays open while the converter is TRIPPED, a DEADBOLT record always. -/
def Leaf.fltClear (val : Nat) (d : Leaf) : Leaf :=
  if !d.writable then d
  else if bitOf val 10 then d.closeRecs lowClass
  else
    let may (r : FaultRec) := lowClass r || (r.cls.code = 2 && d.conv.st ≠ .tripped)
    { d with flt := d.flt.close fun x => x.idx = bits val 9 0 && x.r.isOpen && may x.r }.fltRefresh

def execFltClear (l : LeafId) (val : Word) (s : State) : Host.Outcome State Fault Refusal := onLeaf l s (Leaf.fltClear val.toNat)
def execFltClearAll (l : LeafId) (val : Word) (s : State) : Host.Outcome State Fault Refusal := onLeaf l s (Leaf.fltClear val.toNat)

/-- Register writes act on a concentrator: its image runs, and its latch is not set (R464) (log entry 33, DEDUCED). -/
def Concentrator.writable (d : Concentrator) : Bool := d.fw.up && !d.is AFLT_STATUS_DEADBOLT

/-- The cause of a concentrator's record still stands (Table 14.7; log entry 33, DEDUCED). -/
def Concentrator.causeStands (d : Concentrator) (r : FaultRec) : Bool :=
  match r.code with
  | 0x5401 => d.rd (XX_STATE_STATE.at (0x400 + 64 * r.inst)) ≠ 7
  | 0x5502 => d.rd ATIM_STATUS_LOCK ≠ 1
  | 0x5601 => d.is AGRT_STATUS_BLOCKING
  | 0x5701 => bitOf (d.rd AFLT_LINES_BROKEN) r.inst
  | 0x5801 => d.rd (XX_STATE_STATE.at (0x4000 + 64 * r.inst)) ≠ 7
  | _ => false

/-- A concentrator closes the open records that satisfy `p`, and sends them closed (R451, R452). -/
def Concentrator.closeRecs (n : Conc) (p : FltEnt → Bool) (d : Concentrator) : Concentrator :=
  let sel (x : FltEnt) := x.r.isOpen && x.r.cls.code ≤ 2 && p x
  let hit := d.flt.recs.filter sel
  let d := { d with flt := d.flt.close sel }.fltRefresh
  hit.foldl (fun d x => d.sendFault n { x.r with isOpen := false }) d

/-- A write of AFLT_CLEAR (Table 14.11) (log entry 33, DEDUCED). -/
def Concentrator.fltClear (n : Conc) (val : Nat) (d : Concentrator) : Concentrator :=
  if !d.writable then d
  else if bitOf val 4 then d.closeRecs n fun x => !d.causeStands x.r
  else d.closeRecs n fun x => x.idx = bits val 3 0 && (lowClass x.r || !d.causeStands x.r)

def execAfltClear (n : Conc) (val : Word) (s : State) : Host.Outcome State Fault Refusal := onConc n s (Concentrator.fltClear n val.toNat)
def execAfltClearAll (n : Conc) (val : Word) (s : State) : Host.Outcome State Fault Refusal := onConc n s (Concentrator.fltClear n val.toNat)

/-- A write of CFLT_CLEAR (Table 14.12). A TRIP record closes under R287 only. -/
def Cell.fltClear (val : Nat) (d : Cell) : Cell :=
  if bitOf val 8 then d.closeRecs lowClass else d.closeRecs fun r => lowClass r && r.seq = bits val 7 0

def execCfltClear (c : CellId) (val : Word) (s : State) : Host.Outcome State Fault Refusal :=
  onCell c s fun d => d.takes (Cell.fltClear val.toNat)
def execCfltClearAll (c : CellId) (val : Word) (s : State) : Host.Outcome State Fault Refusal :=
  onCell c s fun d => d.takes (Cell.fltClear val.toNat)

/-! ## Fault lines (R459 to R462) -/

/-- A valid pair has brought an input line to a level: the line is not broken any more (log entry 47, DEDUCED). -/
def Leaf.lineIn (line : Nat) (active : Bool) (d : Leaf) : Leaf :=
  if !d.running || !d.is FLT_STATUS_MODE || line < 4 || 6 < line then d
  else
    let was := bitOf (d.rd FLT_LINES_LEVEL) line
    let d := (d.wr FLT_LINES_BROKEN (setBit (d.rd FLT_LINES_BROKEN) line false)).wr FLT_LINES_LEVEL (setBit (d.rd FLT_LINES_LEVEL) line active)
    if was || !active then d
    else if line = 4 then d.raise 0x2702 .trip
    else if line = 5 then d.raise 0x2703 .alarm
    else d.raise 0x2704 .alarm

/-- BLOCK_IN of the leaf that holds the grant makes the concentrator send BLOCK until the next valid set after it has gone (R462). -/
def Concentrator.lineIn (line : Nat) (active : Bool) (d : Concentrator) : Concentrator :=
  if !d.fw.up || !d.is AFLT_STATUS_MODE || line < 1 || 2 < line then d
  else
    let d := (d.wr AFLT_LINES_BROKEN (setBit (d.rd AFLT_LINES_BROKEN) line false)).wr AFLT_LINES_LEVEL
      (setBit (d.rd AFLT_LINES_LEVEL) line active)
    if active && d.rd AGRT_STATUS_GRANT + 1 = line then { d with sw := { d.sw with blockHold := true } } else d

/-- Log entry 47, DEDUCED. -/
def execFaultLineInput (part : Part) (line : Nat) (active : Bool) (s : State) : Host.Outcome State Fault Refusal :=
  match part with
  | .leaf l => onLeaf l s (Leaf.lineIn line active)
  | .conc n => onConc n s (Concentrator.lineIn line active)
  | _ => .next s

/-- A pair has stood at equal levels, or an output read back wrong, for 10 µs (R461). The line keeps its last valid level (log entry 47, DEDUCED). -/
def Leaf.lineBroken (line : Nat) (readback : Bool) (d : Leaf) : Leaf :=
  if !d.running || !d.is FLT_STATUS_MODE || 6 < line || readback ≠ decide (line < 4) then d
  else
    let d := (d.wr FLT_LINES_BROKEN (setBit (d.rd FLT_LINES_BROKEN) line true)).wr FLT_STATUS_BROKEN 1
    d.raise 0x2701 .alarm line

/-- Log entry 47, DEDUCED. -/
def Concentrator.lineBroken (n : Conc) (line : Nat) (readback : Bool) (d : Concentrator) : Concentrator :=
  if !d.fw.up || !d.is AFLT_STATUS_MODE || 2 < line || readback ≠ decide (line = 0) then d
  else
    let d := (d.wr AFLT_LINES_BROKEN (setBit (d.rd AFLT_LINES_BROKEN) line true)).wr AFLT_STATUS_BROKEN 1
    d.raise n 0x5701 .alarm line

/-- Log entry 47, DEDUCED. -/
def execBrokenWire (part : Part) (line : Nat) (readback : Bool) (s : State) : Host.Outcome State Fault Refusal :=
  match part with
  | .leaf l => onLeaf l s (Leaf.lineBroken line readback)
  | .conc n => onConc n s (Concentrator.lineBroken n line readback)
  | _ => .next s

/-! ## Injection (R465) -/

/-- The self-diagnosis cause of a code (13_the_hinge.md Table 13.5) (log entry 46, DEDUCED). -/
def diagCause (code : Nat) : Option Nat :=
  match code with
  | 0x2B01 => some 1
  | 0x0407 => some 2
  | 0x0406 => some 3
  | 0x2B02 => some 3
  | 0x4001 => some 3
  | 0x0106 => some 4
  | 0x0203 => some 5
  | 0x2502 => some 6
  | _ => none

def LeafIdent.test (i : LeafIdent) : Bool := i.testStrap && i.testFuse
def ConcIdent.test (i : ConcIdent) : Bool := i.testStrap && i.testFuse
def CellIdent.test (i : CellIdent) : Bool := i.testStrap && i.testFuse

/-- A write of FLT_INJ_CAUSE: the fault with the code, class, source and cause written. BLOCK of the record is CODE[15:8] (Table 14.3) (log entry 46, DEDUCED). -/
def Leaf.inject (val : Nat) (d : Leaf) : Leaf :=
  if !d.writable || !d.ident.test then d
  else
    let src := d.rd FLT_INJ_SRC_SOURCE
    let code := d.rd FLT_INJ_CODE_CODE
    let release := (diagCause code).isSome && d.active && d.is HNG_STATUS_PARTNER_STANDING && !d.is FLT_STATUS_DEADBOLT
    let r := { d.errorRec code (FaultClass.ofCode (d.rd FLT_INJ_CODE_CLASS)) (bits src 7 0) (bits val 15 0) 0 release with
               injected := true, part := bits src 31 30, unit := bits src 29 16 }
    let d := d.raiseRec r
    if release then d.giveUp ((diagCause code).getD 0) else d

def execFltInjCause (l : LeafId) (val : Word) (s : State) : Host.Outcome State Fault Refusal := onLeaf l s (Leaf.inject val.toNat)

/-- Log entry 46, DEDUCED. -/
def Concentrator.inject (n : Conc) (val : Nat) (d : Concentrator) : Concentrator :=
  if !d.writable || !d.ident.test then d
  else d.raiseRec n { d.errorRec n (d.rd AFLT_INJ_CODE_CODE) (FaultClass.ofCode (d.rd AFLT_INJ_CODE_CLASS)) (bits val 31 24) (bits val 15 0) 0
                      with injected := true }

def execAfltInjCause (n : Conc) (val : Word) (s : State) : Host.Outcome State Fault Refusal := onConc n s (Concentrator.inject n val.toNat)

/-- The reaction of a cell to a TRIP-class fault that no input has caused (Table 14.1, R285, R288). -/
def Cell.tripFault (c : CellId) (d : Cell) : Cell :=
  match d.sw.st with
  | .bolted => d
  | .updating => d
  | .tripBlocked => d.sat CTRP_CNT_MERGED
  | .bypassFired => let d := d.countTrip; if 3 ≤ d.trip.window.length then d.bolt c 2 else d
  | _ => let d := d.countTrip; if 3 ≤ d.trip.window.length then d.bolt c 2 else d.tripBlock

/-- An injected fault of a cell carries DETAIL 0xFFFF_FFFF (log entry 46, DEDUCED). -/
def Cell.inject (c : CellId) (val : Nat) (d : Cell) : Cell :=
  if !d.ident.test then d
  else
    let cls := FaultClass.ofCode (d.rd CFLT_INJ_CODE_CLASS)
    let r := { d.errorRec (d.rd CFLT_INJ_CODE_CODE) cls (bits val 15 0) 0xFFFFFFFF with injected := true }
    match cls with
    | .trip => (d.raiseRec c r).tripFault c
    | .deadbolt =>
      let d := (d.wr CFLT_STATUS_DEADBOLT 1).raiseRec c r
      if d.sw.st = .bolted then d else if d.sw.st = .tripBlocked then d.softOff else d.countTrip.tripBlock
    | _ => d.raiseRec c r

def execCfltInjCause (c : CellId) (val : Word) (s : State) : Host.Outcome State Fault Refusal :=
  onCell c s fun d => d.takes (Cell.inject c val.toNat)

end Sys2Proof.Machine
end

