-- ==== Sys2Proof/Machine/Hinge.lean ====
section
/-! DEFINITION. The hinge: grant blocks, mirror frames, roles, takeovers, planned exchanges and health reports (13_the_hinge.md R422 to R446;
12_host_interface_and_handles.md R420). -/

namespace Sys2Proof.Machine
open Reg

/-! ## Grant blocks (R438) -/

/-- A grant block on an own uplink is kept and forwarded. -/
def Leaf.ownGrant (n : Nat) (g : GrantMsg) (d : Leaf) : Leaf :=
  if !d.running || !d.uplinkUp n then d
  else { d with hng := { d.hng with grantOwn := SMap.put {} d.hng.grantOwn n ⟨g.grant, some d.tim.cyc⟩ } }.mirror (.grant n g)

/-- A grant block that the partner forwarded. -/
def Leaf.fwdGrant (n : Nat) (g : GrantMsg) (d : Leaf) : Leaf :=
  if !d.running then d else { d with hng := { d.hng with grantFwd := SMap.put {} d.hng.grantFwd n ⟨g.grant, some d.tim.cyc⟩ } }

def execGrantBlock (l : LeafId) (n : Conc) (g : GrantMsg) (fwd : Bool) (s : State) : Host.Outcome State Fault Refusal :=
  onLeaf l s (if fwd then Leaf.fwdGrant n.val g else Leaf.ownGrant n.val g)

/-! ## Mirror frames -/

/-- The converter state of the partner (01_architecture.md R34, R40, R42): DEADBOLTED is taken by a leaf that is not fresh from power-on, and a
leaf that is not active follows the active leaf's state, as it stands before the host commands of the boundary (R38) (log entry 43, DEDUCED). -/
def Leaf.takeConv (code cycle : Nat) (d : Leaf) : Leaf :=
  let d := { d with hng := { d.hng with partner := { d.hng.partner with conv := code } } }
  if code = 6 then
    if d.hng.role = .starting || d.conv.st = .deadbolted then d
    else ({ d.wr FLT_STATUS_DEADBOLT 1 with conv := { d.conv with boltPend := true } }).emit (.pin "DEADBOLT_N" 0)
  else if d.active || d.conv.st = .deadbolted || cycle < d.conv.since ||
      (cycle = d.conv.since && code = d.conv.before.code) then d
  else
    let c : Conv := match code with
      | 0 => .unkeyed
      | 1 => .keyedIdle
      | 2 => .charging
      | 3 => .blockedReady
      | 4 => .deblocked
      | _ => .tripped
    d.setConv c

/-- The active leaf's time, on a leaf that is not active (02_clocks_and_time.md R61, R71): `pc` is the partner's counter, from which its
station time follows. A STARTING leaf takes the cycle number too (log entry 90, DEDUCED). -/
def Leaf.takeTime (pc rate : Nat) (ofs : Int) (cyc : Nat) (unset : Bool) (slips : List (Nat × Int)) (err : Int) (per : Nat) (d : Leaf) : Leaf :=
  if d.active then d
  else
    let r := sext 32 rate
    let d := { d with tim := { d.tim with ofs := linearAt pc r + ofs - linearAt d.tim.c r, slips := slips, gerr := err } }
    let d := ((d.wr TIM_RATE_VALUE rate).wr TIM_STATUS_UNSET (b2n unset)).both CYC_PERIOD_PERIOD per 0
    if d.hng.role = .starting then { d with tim := { d.tim with cyc := cyc } }.wr64 CYC_COUNT_LO_VALUE CYC_COUNT_HI_VALUE cyc else d

/-- The standing of the partner; the active leaf serves a partner that starts until it has adopted the journal. -/
def Leaf.takeStanding (summary role : Nat) (hash : Option Nat) (d : Leaf) : Leaf :=
  let p := d.hng.partner
  let ident := p.ident.map fun (i : Identity) => { i with role := role }
  let d := { d with hng := { d.hng with partner := { p with summary := summary, hash := hash, ident := ident } } }
  let d := d.wr HNG_STATUS_PARTNER_STANDING (b2n (bitOf summary 31))
  if role = 0 && !bitOf summary 1 then d.sendAdoption else d

/-- A commit made on the active leaf; its instant in this leaf's counter (03_control_cycle.md R124) (log entry 90, DEDUCED). -/
def Leaf.takeCommit (pc mask at_ : Nat) (shadow : List (Nat × Nat)) (coefs : List (Nat × List (Nat × Nat))) (d : Leaf) : Leaf :=
  if d.active then d
  else
    let sh := shadow.foldl (fun (m : SMap Nat) (e : Nat × Nat) => SMap.ins m e.1 e.2) []
    let pages := coefs.foldl (fun (m : SMap (SMap Nat)) (e : Nat × List (Nat × Nat)) =>
      SMap.put [] m e.1 (e.2.foldl (fun (m : SMap Nat) (x : Nat × Nat) => SMap.put 0 m x.1 x.2) [])) []
    let d := (maskGroups mask).foldl (fun d g => (d.groupFields g).foldl (fun d f => d.wrShadow f.1 (bankRd sh f.1 f.2) f.2) d) d
    let d := coefs.foldl (fun d e => d.setTile e.1 { d.tile e.1 with coefShadow := SMap.get [] pages e.1 }) d
    d.addStage { mask := mask, at_ := d.tim.c + at_ - pc, shadow := sh, coefs := pages }

/-- The ring settings, head and acknowledgement of the active leaf (log entry 90, DEDUCED). -/
def Leaf.takeSettings (sqBase sqSize cqBase cqSize head ack : Nat) (d : Leaf) : Leaf :=
  if d.active then d
  else
    let d := (d.wr HND_SQ_BASE_LO_ADDR (sqBase % 2 ^ 32 / 4096)).wr HND_SQ_BASE_HI_ADDR (sqBase / 2 ^ 32)
    let d := (d.wr HND_CQ_BASE_LO_ADDR (cqBase % 2 ^ 32 / 4096)).wr HND_CQ_BASE_HI_ADDR (cqBase / 2 ^ 32)
    let d := ((d.wr HND_SQ_SIZE_SIZE sqSize).wr HND_CQ_SIZE_SIZE cqSize).wr HND_SQ_HEAD_HEAD head
    if d.hnd.ack < ack then d.ackTo ack else d

/-- The health report reaches the active leaf (R431) (log entry 68, DEDUCED). -/
def Leaf.takeHealth (h : Health) (d : Leaf) : Leaf :=
  ({ d with hng := { d.hng with healthAt := some d.tim.c, healthLate := false } }.wr HNG_HEALTH_SUMMARY h.summary).wr HNG_HEALTH_AGE_MS 0

/-- A mismatched cycle, as the standby reports it to the active leaf (R428) (log entry 68, DEDUCED). -/
def Leaf.takeMismatch (cycle slot : Nat) (raised : Bool) (d : Leaf) : Leaf :=
  if !d.active then d
  else
    let d := ((d.sat HNG_CMP_BAD_MISMATCHED).wr HNG_CMP_LAST_CYCLE cycle).wr HNG_CMP_LAST_SLOT slot
    let d := { d with hng := { d.hng with lastMis := some d.tim.cyc } }
    if raised then (d.wr HNG_STATUS_MISMATCH 1).raise 0x2604 .alarm else d

/-- RELEASE FAULT of the partner: it no longer stands by (R433, R435). -/
def Leaf.takeRelease (cause : Nat) (d : Leaf) : Leaf :=
  let p := d.hng.partner
  let d := { d with hng := { d.hng with relSeen := true, partner := { p with ident := p.ident.map fun (i : Identity) => { i with role := 3 } } } }
  (if d.hng.role = .standby then { d with hng := { d.hng with cause := cause } } else d).wr HNG_STATUS_PARTNER_STANDING 0

/-- HNG_CFG and HNG_SOLO of the active leaf (R447). -/
def Leaf.takeHngCfg (hold persist solo : Nat) (d : Leaf) : Leaf :=
  if d.active then d else ((d.wr HNG_CFG_ALIGN_HOLD_MS hold).wr HNG_CFG_CMP_PERSIST persist).wr HNG_SOLO_MS solo

/-- The stale map of the partner (03_control_cycle.md R104). -/
def Leaf.takeStale (k map : Nat) (d : Leaf) : Leaf :=
  { d with cyc := { d.cyc with partnerStale := (d.cyc.partnerStale ++ [(k, map)]).filter fun (x : Nat × Nat) => k ≤ x.1 + 8 } }

/-- The profiler of the active leaf (07_setpoint_profiler.md R267). -/
def Leaf.takeProf (cycle mode left : Nat) (chans : List (Nat × Chan)) (waiting : List Nat) (d : Leaf) : Leaf :=
  if d.active then d else (d.profAdopt cycle mode left chans waiting).deliverProf d.tim.cyc

/-- The identity of the partner: the leaves are paired. -/
def Leaf.takeIdentity (i : Identity) (d : Leaf) : Leaf :=
  let p := d.hng.partner
  ({ d with hng := { d.hng with partner := { p with ident := some i, conv := i.conv } } }).judgePair.sendOwner

/-- The journal of the active leaf, or the counters of a leaf that joins it (12_host_interface_and_handles.md R410). -/
def Leaf.takeAdopt (recs : List JRec) (seq cseq head : Nat) (d : Leaf) : Leaf :=
  if d.active then d.raiseCounters seq cseq else d.adoptAll recs seq cseq head

/-- What a mirror frame carries takes effect: `x` are the delays of the pair, `pc` the partner's counter, `serial` the serial number of leaf 0. -/
def Leaf.mirrorFrame (x : Delays) (pc serial : Nat) (m : MirrorMsg) (d : Leaf) : Leaf :=
  match m with
  | .convState code cycle => d.takeConv code cycle
  | .publishedSet k over_ sets => d.partnerSet k over_ sets
  | .identity i => d.takeIdentity i
  | .journal recs => d.adoptJournal recs
  | .journalAdopt recs seq cseq head => d.takeAdopt recs seq cseq head
  | .journalAck => d.journalAck
  | .journalLate => { d with hng := { d.hng with journalOk := false } }
  | .announce h b => if d.active then d else d.modCmd h fun c => { c with ann := some b }
  | .hndSettings sb ss cb cs head ack => d.takeSettings sb ss cb cs head ack
  | .health h => if d.active then d.takeHealth h else d
  | .mismatch k slot raised => d.takeMismatch k slot raised
  | .release planned cause _ => if planned then d else d.takeRelease cause
  | .standing summary role hash => d.takeStanding summary role hash
  | .hngCfg hold persist solo => d.takeHngCfg hold persist solo
  | .commit mask at_ sh pages => d.takeCommit pc mask at_ sh pages
  | .staleMap k map => d.takeStale k map
  | .time rate ofs cyc unset slips err per => d.takeTime pc rate ofs cyc unset slips err per
  | .keyStaged hash failed => d.partnerKey x hash failed
  | .profiler cycle mode left chans waiting => d.takeProf cycle mode left chans waiting
  | .safety order => { d with hng := { d.hng with partner := { d.hng.partner with demand := order } } }
  | .slots l => d.takeSlots l
  | .serials l => d.takeSerials l
  | .grant n g => d.fwdGrant n g
  | .buffer h bytes => d.bufferArrives serial h bytes
  | .exchange h target j => if d.active then d else { d with hng := { d.hng with exchange := some ⟨h, target, j⟩ } }
  | .store kind st hdr pieces hash => d.takeStore kind st hdr pieces hash
  | .owner key set_ lift => d.takeOwner key set_ lift
  | .nonce v => if d.active then d else d.wr64 UPD_HASP_NONCE_LO_NONCE UPD_HASP_NONCE_HI_NONCE v

def execMirror (l : LeafId) (m : MirrorMsg) (s : State) : Host.Outcome State Fault Refusal :=
  onLeaf l s fun d =>
    if !d.running || !d.is HNG_STATUS_PARTNER_UP then d
    else (d.mirrorFrame (d.delays (s.leaf l.other) s.concs) (s.leaf l.other).tim.c s.leaf0.ident.serial m).hngShow

/-! ## First roles (Table 13.2) -/

/-- The mirror link reaches UP: the leaves exchange identities and compare them, and a STARTING leaf goes on. -/
def Leaf.mirrorLinkUp (p : Leaf) (d : Leaf) : Leaf :=
  if !d.running || !d.is HNG_STATUS_PARTNER_UP then d
  else
    let d := { d with hng := { d.hng with mirrorAt := d.tim.c, healthLate := false } }
    ((d.mirror (.identity d.identity)).sendOwner.judgePair.tryJoin p).hngShow

def execMirrorLinkUp (l : LeafId) (s : State) : Host.Outcome State Fault Refusal := onLeaf l s (Leaf.mirrorLinkUp (s.leaf l.other))

/-- HNG_SOLO.MS without the mirror link: the leaf runs alone, unless a grant block on an UP uplink names the partner (log entry 6, DESIGN CHOICE). -/
def Leaf.soloTimeout (d : Leaf) : Leaf :=
  let named := (List.range 48).any fun n => d.uplinkUp n && (SMap.get {} d.hng.grantOwn n).grant = 1 - d.ident.leaf
  if d.hng.role ≠ .starting || d.pwr.step ≠ 6 || d.is HNG_STATUS_PARTNER_UP || named then d
  else d.firstActive.raise 0x2602 .alarm

def execSoloTimeout (l : LeafId) (s : State) : Host.Outcome State Fault Refusal := onLeaf l s Leaf.soloTimeout

/-! ## Takeover (R439, R420) -/

/-- The latest grant blocks on the own uplinks name this leaf for more than half of the declared concentrators (log entry 91, DEDUCED). -/
def Leaf.ownMajority (d : Leaf) : Bool :=
  d.declared.length < 2 * (d.declared.filter fun n => (SMap.get {} d.hng.grantOwn n).grant = d.ident.leaf).length

/-- The standby that stands by takes the active role, unless it is DEADBOLTED (R423): the hinge over is raised with its cause, and a pending exchange to this leaf completes
(R446) (log entry 69, DEDUCED; log entry 91, DEDUCED). -/
def Leaf.takeover (why : TakeoverCause) (d : Leaf) : Leaf :=
  let holds : Bool := match why with | .release => d.hng.relSeen | .majority => d.ownMajority
  if !d.standing || !holds || d.conv.st = .deadbolted then d
  else
    let cause := match why with | .release => d.hng.cause | .majority => 0
    let d := (d.takeRole.sat HNG_CNT_HINGE_OVERS).raise 0x2603 .alarm 0 0 cause
    match d.hng.exchange with
    | some e => if e.target = d.ident.leaf then d.endExchange stDONE (d.naming e.target).length else d.endExchange stINCOMPLETE 0
    | none => d

def execTakeover (l : LeafId) (why : TakeoverCause) (s : State) : Host.Outcome State Fault Refusal := onLeaf l s (Leaf.takeover why)

/-- The takeover ends (12_host_interface_and_handles.md R419, R420, R607) (log entry 95, DEDUCED). -/
def Leaf.takeoverComplete (d : Leaf) : Leaf :=
  if !d.active || !d.hng.takeover then d
  else
    let d := { d with hng := { d.hng with takeover := false } }
    let d := d.hnd.cmds.foldl Leaf.afterHinge d
    (d.resumeRings.wr HND_STATUS_ROLE 1).msix 3

def execTakeoverComplete (l : LeafId) (s : State) : Host.Outcome State Fault Refusal := onLeaf l s Leaf.takeoverComplete

/-! ## Split grants (R442) -/

/-- A split at more than 4 consecutive boundaries: the majority leaf raises the TRIP, once for the run. -/
def Leaf.splitGrant (d : Leaf) : Leaf :=
  if d.is HNG_STATUS_SPLIT && 4 < d.rd HNG_SPLIT_NOW && d.majority = d.ident.leaf && !d.hng.splitRaised then
    ({ d with hng := { d.hng with splitRaised := true } }).raise 0x2606 .trip
  else d

def execSplitGrant (l : LeafId) (s : State) : Host.Outcome State Fault Refusal := onLeaf l s Leaf.splitGrant

/-! ## Planned exchanges (R443 to R445) -/

/-- The SWAP is refused (Table 13.10). -/
def Leaf.swapRefusedNow (d : Leaf) : Bool :=
  let recent : Bool := match d.hng.lastMis with | some c => decide (d.tim.cyc < c + d.cyclesIn 1000) | none => false
  !d.is HNG_STATUS_PARTNER_STANDING || d.split || d.key.pend.isSome || d.hng.exchange.isSome || d.conv.st = .deadbolted || recent

/-- SWAP (log entry 69, DEDUCED). -/
def Leaf.hngSwap (h : Handle) (d : Leaf) : Leaf :=
  d.runOuter h 7 1 false fun c d =>
    let target := c.par 0 1
    if target = d.ident.leaf then d.complete h stDONE 0 (d.naming target).length
    else if d.swapRefusedNow then d.complete h stREFUSED_STATE
    else d.beginExchange h target

def execHngSwap (l : LeafId) (h : Handle) (s : State) : Host.Outcome State Fault Refusal := onLeaf l s (Leaf.hngSwap h)

/-- The start of cycle j-1: the roles exchange, and a leaf that hands over for its new firmware restarts (R444; 17_updates.md R541) (log entry 69, DEDUCED). -/
def Leaf.plannedExchange (d : Leaf) : Leaf :=
  match d.hng.exchange with
  | none => d
  | some e =>
    if d.tim.cyc + 1 < e.j || d.conv.st = .deadbolted then d
    else if d.hng.role = .standby && e.target = d.ident.leaf then
      let d := (d.takeRole.sat HNG_CNT_SWAPS)
      { d with hng := { d.hng with takenAt := none } }
    else if d.active && e.target ≠ d.ident.leaf then
      let d := ((d.setRole .standby).wr TIM_CLK_STATUS_MIR_ALIGN 1).sat HNG_CNT_SWAPS
      match d.pwr.warmWait with
      | some 4 => d.activateFw
      | some k => d.warmReset k
      | none => d
    else d

def execPlannedExchange (l : LeafId) (s : State) : Host.Outcome State Fault Refusal := onLeaf l s Leaf.plannedExchange

/-! ## Health reports (R431) -/

/-- The report of this leaf. -/
def Leaf.healthOf (d : Leaf) : Health where
  summary := d.summary
  compared := d.rd HNG_CMP_COMPARED
  mismatched := d.rd HNG_CMP_BAD_MISMATCHED
  uncompared := d.rd HNG_CMP_BAD_UNCOMPARED
  passes := d.rd FAB_SCRUB_PASSES
  runs := d.rd FAB_STEST_RUNS
  eccTotal := (List.range 256).foldl (fun a t => a + d.rd TILE_ECC_UNCORR t + d.rd TILE_ECC_CORR t) 0

/-- The standby reports; both leaves show the report (log entry 92, DEDUCED). -/
def Leaf.healthReport (d : Leaf) : Leaf :=
  if d.hng.role ≠ .standby then d
  else
    let d := { d with hng := { d.hng with healthAt := some d.tim.c } }
    ((d.wr HNG_HEALTH_SUMMARY d.summary).wr HNG_HEALTH_AGE_MS 0).mirror (.health d.healthOf)

def execHealthReport (l : LeafId) (s : State) : Host.Outcome State Fault Refusal := onLeaf l s Leaf.healthReport

/-- No report for 3 s with the mirror link UP (log entry 92, DEDUCED). -/
def Leaf.healthReportLate (d : Leaf) : Leaf :=
  let last := match d.hng.healthAt with | some t => max t d.hng.mirrorAt | none => d.hng.mirrorAt
  if d.active && d.is HNG_STATUS_PARTNER_UP && last + 2400000000 ≤ d.tim.c && !d.hng.healthLate then
    (({ d with hng := { d.hng with healthLate := true } }).wr HNG_STATUS_REPORT_LATE 1).raise 0x2605 .alarm
  else d

def execHealthReportLate (l : LeafId) (s : State) : Host.Outcome State Fault Refusal := onLeaf l s Leaf.healthReportLate

end Sys2Proof.Machine
end

