-- ==== Sys2Proof/Machine/Markers.lean ====
section
/-! DEFINITION. Marker blocks, the delay measurement and the grid that they carry down the tree (02_clocks_and_time.md R58, R83, R84;
10_flenor_links.md R364, R365). -/

namespace Sys2Proof.Machine
open Reg

/-! ## The delay of a link (R83) -/

/-- The asymmetry constants of a lane end, in 1/16 ns (log entry 27, DEDUCED). -/
structure Asym where
  egress : Int := 0
  ingress : Int := 0
  deriving DecidableEq, Repr

def lnAsym (b : SMap Nat) (base : Nat) : Asym := { egress := sext 16 (lnRd b base XX_ASYM_EGRESS), ingress := sext 16 (lnRd b base XX_ASYM_INGRESS) }

/-- The constants of the other end, which the upstream end computes with (log entry 27, DEDUCED). -/
def State.peerAsym (s : State) (e : LaneEnd) : Asym :=
  match e with
  | .uplinkLeaf l n => lnAsym (s.conc n).bank (laneBase (.uplinkConc n l))
  | .mirror l i => lnAsym (s.leaf l.other).bank (laneBase (.mirror l.other i))
  | .uplinkConc n u => lnAsym (s.leaf u).bank (laneBase (.uplinkLeaf u n))
  | .port n p => lnAsym (s.cell ⟨n, p⟩).bank 0x400
  | .cell c => lnAsym (s.conc c.conc).bank (laneBase (.port c.conc c.port))

/-- The fibre delay F of R83. -/
def fibreDelay (rtt turn : Nat) (up down : Asym) : Int :=
  Int.fdiv (((rtt : Int) - turn) - up.egress - down.ingress - down.egress - up.ingress) 2

/-- The downstream D and the up-path delay of a measurement, in 1/16 ns. -/
def measured (rtt turn : Nat) (up down : Asym) : Nat × Nat :=
  let f := fibreDelay rtt turn up down
  ((up.egress + f + down.ingress).toNat, (down.egress + f + up.ingress).toNat)

/-- The difference of two delays (log entry 27, DEDUCED). -/
def delayDiff (a b : Nat) : Nat := (a - b) + (b - a)

/-- One sixteenth of a nanosecond from `cur` toward `t`. -/
def creep (cur t : Nat) : Nat := if cur < t then cur + 1 else if t < cur then cur - 1 else cur

/-- A measurement at the upstream end (R84): the link's memory and its applied D. In UP a median within `step` of D is applied, by at most
1/16 ns per marker while the converter is moving; a larger one waits for its confirmation (log entry 27, DEDUCED). -/
def LinkMeas.measure (isUp moving : Bool) (step : Nat) (cur : Nat) (dm : Nat × Nat) (m : LinkMeas) : LinkMeas × Nat :=
  let m := { m with last := (dm.1 :: m.last).take 16, up := dm.2, trips := m.trips + 1 }
  if !isUp || m.last.length < 16 then (m, cur)
  else
    let md := medianOf m.last
    let m := { m with confirm := if delayDiff dm.1 cur ≤ step then 0 else m.confirm + 1 }
    match m.target with
    | some t =>
      let t := if delayDiff md t ≤ step then md else t
      let c := if moving then creep cur t else t
      ({ m with target := if c = t then none else some t }, c)
    | none =>
      if delayDiff md cur ≤ step then
        let c := if moving then creep cur md else md
        (m, c)
      else (m, cur)

/-- The step that 16 consecutive measurements have confirmed (R84). -/
def LinkMeas.confirmStep (moving : Bool) (cur : Nat) (m : LinkMeas) : LinkMeas × Nat :=
  let md := medianOf m.last
  if moving then ({ m with confirm := 0, target := some md }, cur) else ({ m with confirm := 0, target := none }, md)

/-! ## A marker arrives (R364, R365) -/

/-- Whole cycles that have passed since the start of MK_CYCLE when the marker arrives: D and MK_PHASE, in 1/16 ns, in cycles of `tc` ticks. -/
def markerAdvance (tc : Nat) (m : Marker) : Nat := (m.delay + m.phase) / max 1 (tc * 10)

/-- The number of the cycle that runs at the arrival, and the station time of its start in units of 2^-16 ns. -/
def markerCycle (tc : Nat) (m : Marker) : Nat := (m.cycle + markerAdvance tc m) % 65536
def markerTime (tc : Nat) (m : Marker) : Int := m.time + (markerAdvance tc m * tc * 40960 : Nat)

/-- The lane registers of a marker: the round trip, or a failed CRC. -/
def lnMarker (base rtt : Nat) (b : SMap Nat) : SMap Nat := lnWr base XX_RTT_RTT rtt b
def lnBad (base : Nat) (b : SMap Nat) : SMap Nat := lnSat base XX_ERR_BAD b

/-- Markers are taken from TRAIN_DONE onward. -/
def takesMarker (b : SMap Nat) (base : Nat) : Bool := lnState b base = 6 || lnState b base = 7

/-- DLY_STEP of a leaf, which has no register for it (R84) (log entry 40, DEDUCED). -/
def leafDlyStep : Nat := 32

/-- Log entry 40, DEDUCED. -/
def Leaf.marker (e : LaneEnd) (m : Marker) (rtt : Nat) (peer : Asym) (d : Leaf) : Leaf :=
  let base := laneBase e
  if !takesMarker d.bank base then d
  else
    let k := measKey e
    let q := SMap.get {} d.lanes k
    let d := { d with bank := lnMarker base rtt d.bank, lanes := SMap.put {} d.lanes k { q with echo := m.id % 256 } }
    let x : LinkMeas := SMap.get {} d.tim.meas k
    if d.upstream e then
      let r := x.measure (d.laneUp e) d.moving leafDlyStep (lnRd d.bank base XX_DELAY_D) (measured rtt m.turn (lnAsym d.bank base) peer)
      { d with tim := { d.tim with meas := SMap.put {} d.tim.meas k r.1 }, bank := lnWr base XX_DELAY_D r.2 d.bank }
    else
      { d with tim := { d.tim with meas := SMap.put {} d.tim.meas k { x with trips := x.trips + 1 } }, bank := lnWr base XX_DELAY_D m.delay d.bank }

/-- A concentrator's port measures its cell link; its uplinks take D, and the followed one gives the grid. -/
def Concentrator.marker (g : Grid) (e : LaneEnd) (m : Marker) (rtt : Nat) (peer : Asym) (d : Concentrator) : Concentrator :=
  let base := laneBase e
  if !takesMarker d.bank base then d
  else
    let k := measKey e
    let d := { d with bank := lnMarker base rtt d.bank, lanes := SMap.put {} d.lanes k { d.sender e with echo := m.id % 256 } }
    let x : LinkMeas := SMap.get {} d.meas k
    match e with
    | .port _ _ =>
      let r := x.measure (d.laneUp e) d.moving (d.rd ATIM_CFG_DLY_STEP) (lnRd d.bank base XX_DELAY_D) (measured rtt m.turn (lnAsym d.bank base) peer)
      { d with meas := SMap.put {} d.meas k r.1, bank := lnWr base XX_DELAY_D r.2 d.bank }
    | .uplinkConc _ u =>
      let d := { d with meas := SMap.put {} d.meas k { x with trips := x.trips + 1 }, bank := lnWr base XX_DELAY_D m.delay d.bank }
      let d := d.wr (if u = .leaf0 then ATIM_DLY0_D else ATIM_DLY1_D) m.delay
      if d.rd ATIM_STATUS_REF = u.num + 1 then { d with cyc := markerCycle g.tc m, time := markerTime g.tc m, timeUnset := m.unset } else d
    | _ => d

/-- A cell takes its grid and its time; a marker in UP lets it execute latch times again (R58). -/
def Cell.marker (g : Grid) (m : Marker) (rtt : Nat) (d : Cell) : Cell :=
  if !takesMarker d.bank 0x400 then d
  else
    let d := { d with bank := lnWr 0x400 XX_DELAY_D m.delay (lnMarker 0x400 rtt d.bank), lanes := SMap.put {} d.lanes 0 { d.sender with echo := m.id % 256 } }
    let d := { d with cyc := markerCycle g.tc m, time := markerTime g.tc m, timeUnset := m.unset }
    if d.laneUp then { d with sw := { d.sw with laneMarked := true, laneClock := true } }.judgeStart else d

/-- A marker block; one that fails its CRC contributes no measurement, and the grid runs on (R365). -/
def execMarkerBlock (e : LaneEnd) (m : Marker) (rtt : Nat) (crcOk : Bool) (s : State) : Host.Outcome State Fault Refusal :=
  let base := laneBase e
  if crcOk then
    onLane e s (Leaf.marker e m rtt (s.peerAsym e)) (fun _ d => Concentrator.marker s.grid e m rtt (s.peerAsym e) d)
      (fun _ d => d.runs (Cell.marker s.grid m rtt))
  else
    onLane e s (fun d => { d with bank := lnBad base d.bank }) (fun _ d => { d with bank := lnBad base d.bank })
      (fun _ d => d.runs fun d => { d with bank := lnBad base d.bank })

/-- Sixteen consecutive measurements have confirmed a step: it is applied, with a NOTE (R84; the mirror link has no code for it) (log entry 40, DEDUCED). -/
def Leaf.delayStep (e : LaneEnd) (d : Leaf) : Leaf :=
  let k := measKey e
  let x : LinkMeas := SMap.get {} d.tim.meas k
  if x.confirm < 16 || !d.upstream e then d
  else
    let r := x.confirmStep d.moving (lnRd d.bank (laneBase e) XX_DELAY_D)
    let d := { d with tim := { d.tim with meas := SMap.put {} d.tim.meas k r.1 }, bank := lnWr (laneBase e) XX_DELAY_D r.2 d.bank }
    match e with | .uplinkLeaf _ n => d.raise 0x2204 .note n.val | _ => d

def Concentrator.delayStep (e : LaneEnd) (n : Conc) (d : Concentrator) : Concentrator :=
  match e with
  | .port _ p =>
    let k := measKey e
    let x : LinkMeas := SMap.get {} d.meas k
    if x.confirm < 16 then d
    else
      let r := x.confirmStep d.moving (lnRd d.bank (laneBase e) XX_DELAY_D)
      { d with meas := SMap.put {} d.meas k r.1, bank := lnWr (laneBase e) XX_DELAY_D r.2 d.bank }.raise n 0x5503 .note p.val
  | _ => d

/-- The downstream end measures nothing, so a cell confirms no step. -/
def execDelayStepConfirmed (e : LaneEnd) (s : State) : Host.Outcome State Fault Refusal :=
  onLane e s (Leaf.delayStep e) (Concentrator.delayStep e) (fun _ d => d)

/-! ## A marker is sent (R364) -/

/-- The marker of a lane end: its number, the echo, and what the part knows of its cycle. T_TURN and MK_PHASE are instants that no rule fixes
(log entry 4, DESIGN CHOICE). -/
def markerOf (q : LaneQ) (free : Nat) (free' : Nat) (cycle : Nat) (time : Int) (unset upstream : Bool) (delay lane st : Nat) : Marker where
  id := q.mkId
  echo := q.echo
  turn := free % 2 ^ 24
  cycle := cycle % 65536
  phase := free' % 2 ^ 24
  delay := if upstream then delay else 0
  time := time
  lane := lane
  trainOk := 6 ≤ st
  upstream := upstream
  unset := unset

/-- Station time at the start of the running cycle (log entry 22, DEDUCED). -/
def Leaf.cycleTime (d : Leaf) : Int := match d.tim.starts with | x :: _ => x.2 | [] => d.now

def Leaf.markerSend (e : LaneEnd) (d : Leaf) : Leaf :=
  let st := lnState d.bank (laneBase e)
  if st = 0 || 8 ≤ st then d
  else
    let q := SMap.get {} d.lanes (measKey e)
    let lane := match e with | .mirror _ i => i.val | _ => 0
    let m := markerOf q d.free d.useFree.free d.tim.cyc d.cycleTime (d.is TIM_STATUS_UNSET) (d.upstream e) (lnRd d.bank (laneBase e) XX_DELAY_D) lane st
    { d.useFree.useFree with lanes := SMap.put {} d.lanes (measKey e) { q with mkId := (q.mkId + 1) % 256 } }.log (.marker e m)

def Concentrator.markerSend (e : LaneEnd) (d : Concentrator) : Concentrator :=
  let st := lnState d.bank (laneBase e)
  if st = 0 || 8 ≤ st then d
  else
    let q := d.sender e
    let m := markerOf q d.free d.useFree.free d.cyc d.time d.timeUnset (cellLane e) (lnRd d.bank (laneBase e) XX_DELAY_D) 0 st
    ({ d.useFree.useFree with lanes := d.lanes }.setSender e { q with mkId := (q.mkId + 1) % 256 }).log (.marker e m)

def Cell.markerSend (c : CellId) (d : Cell) : Cell :=
  let st := lnState d.bank 0x400
  if st = 0 || 8 ≤ st then d
  else
    let q := d.sender
    let m := markerOf q d.free d.useFree.free d.cyc d.time d.timeUnset false 0 0 st
    (d.useFree.useFree.setSender { q with mkId := (q.mkId + 1) % 256 }).log (.marker (.cell c) m)

def execMarkerSend (e : LaneEnd) (s : State) : Host.Outcome State Fault Refusal :=
  onLane e s (Leaf.markerSend e) (fun _ d => d.markerSend e) (fun c d => d.runs (Cell.markerSend c))

/-- Two consecutive expected markers are missing: the lane leaves UP (R365). -/
def execMarkerMissing (e : LaneEnd) (s : State) : Host.Outcome State Fault Refusal := laneEvent e true (lnFrom 7 (laneBase e) 1) s

end Sys2Proof.Machine
end

