-- ==== Sys2Proof/Machine/RegRead.lean ====
section
/-! DEFINITION. Reading a register (00_scope.md R5 to R17, 02_clocks_and_time.md R65): the word at an offset of a part, the holding copies, and
an access that is not an aligned word. -/

namespace Sys2Proof.Machine
open Reg

/-! ## Words -/

/-- What an access code lets a read return: nothing of a WO field, the shadow of an RWC field (Table 0.7). -/
def fldRead (b sh : SMap Nat) (f : Fld) (i : Nat) : Nat :=
  match f.acc with
  | .wo => 0
  | .rwc => bankRd sh f i
  | _ => bankRd b f i

/-- The word at an offset, put together from the fields that hold part of it; 0 where no field does (R12, R16). -/
def fieldsWord (fs : List Fld) (b sh : SMap Nat) (off : Nat) : Nat :=
  fs.foldl (fun v f => match f.copyAt off with | some i => v + fldRead b sh f i * 2 ^ f.lo | none => v) 0

/-- The lane register set that an offset of a leaf lies in: its base (10_flenor_links.md Table 10.11). -/
def leafLane (l : LeafId) (off : Nat) : Option LaneEnd :=
  if 0x220000 ≤ off && off < 0x22C000 && off % 1024 < 0x40 then
    if h : (off - 0x220000) / 1024 < 48 then some (.uplinkLeaf l ⟨(off - 0x220000) / 1024, h⟩) else none
  else if 0x230100 ≤ off && off < 0x230200 then
    if h : (off - 0x230100) / 64 < 4 then some (.mirror l ⟨(off - 0x230100) / 64, h⟩) else none
  else none

/-- The word of a lane register set at `base`. -/
def laneWord (b : SMap Nat) (base off : Nat) : Nat := fieldsWord (laneFields.map (·.at base)) b [] off

/-! ## A leaf -/

/-- Register accesses are answered: all after the boot ROM's jump, ID and PWR in BOOT_FAILED, ID from the end of step 2 on (R13,
19_power_reset_startup.md R583). -/
def Leaf.answers (d : Leaf) (off : Nat) : Bool :=
  d.running || (d.pwr.step = 0 && (off < 0x10000 || (0x2C0000 ≤ off && off < 0x2D0000))) || (d.pwr.step = 3 && off < 0x10000)

/-- The offset belongs to an absent unit: the recorder or the safety block of a KV-6040, or a cell-table entry beyond the variant's limit
(R6, R11). -/
def Leaf.absentAt (d : Leaf) (off : Nat) : Bool :=
  (d.ident.variant = 3 && 0x280000 ≤ off && off < 0x2A0000) ||
  (0x400000 ≤ off && off < 0x460000 && d.armLimit ≤ (off - 0x400000) / 32 % 2048)

/-- A field with the reset value of the variant: REC_SEG.SIZE is 512 on a KV-6080 (15_disturbance_recorder.md Table 15.11). -/
def Leaf.fld (d : Leaf) (f : Fld) : Fld := if f.off = REC_SEG_SIZE.off && f.lo = REC_SEG_SIZE.lo then d.segSizeFld else f

/-- The ID registers (Table 0.11). -/
def Leaf.idWord (d : Leaf) (off : Nat) : Nat :=
  match off with
  | 0x0 => (match d.ident.variant with | 1 => 0x6120 | 2 => 0x6080 | _ => 0x6040) * 65536 + d.ident.stepping % 256 * 256
  | 0x4 => d.ident.vendor % 65536
  | 0x8 => idCapOf d.ident.variant
  | 0xC => 2 * b2n d.ident.testFuse + b2n d.ident.fuseOk
  | 0x10 => d.ident.serial % 2 ^ 32
  | 0x14 => d.ident.serial / 2 ^ 32 % 2 ^ 32
  | 0x18 => d.rd ID_FW_VER_VERSION
  | 0x1C => d.ident.romVer % 2 ^ 32
  | _ => 0

/-- Word `n` of a TS96 or of another 96-bit number, word 0 lowest. -/
def word96 (v n : Nat) : Nat := v / 2 ^ (32 * n) % 2 ^ 32

/-- The digest that KEY_HASH_SEL selects (06_keying_image.md Table 6.17). -/
def Leaf.shownHash (d : Leaf) : Nat :=
  match d.rd KEY_HASH_SEL_SEL with
  | 0 => (d.key.active.map (·.hash)).getD 0
  | 1 => (d.key.active.map (·.stateHash)).getD 0
  | 2 => (d.key.staged.map (·.hash)).getD 0
  | 3 => (d.key.staged.map (·.stateHash)).getD 0
  | 4 => d.upd.keyA.hash.getD 0
  | 5 => d.upd.keyB.hash.getD 0
  | _ => 0

/-- Word `n` of the record at an index of a fault store (14_faults.md Table 14.2). -/
def FltStore.word (st : FltStore) (i n : Nat) : Nat :=
  match st.recs.find? (·.idx = i) with
  | some x => (recWords x.r).getD (7 - n) 0
  | none => 0

/-- The words of a tile window that the tile itself holds (05_control_fabric.md Table 5.12) (log entry 80, DEDUCED). -/
def Leaf.tileWord (d : Leaf) (t o : Nat) : Option Nat :=
  let x := d.tile t
  if o = 0x18 then some (SMap.get 0 x.sp (d.rd TILE_SP_ADDR_ADDR t))
  else if o = 0x20 then some (SMap.get 0 x.coefShadow (d.rd TILE_CO_ADDR_ADDR t) % 2 ^ 32)
  else if o = 0x24 then some (SMap.get 0 x.coefShadow (d.rd TILE_CO_ADDR_ADDR t) / 2 ^ 32 % 64)
  else if o = 0x30 then some (pat 64 x.acc % 2 ^ 32)
  else if o = 0x34 then some (pat 64 x.acc / 2 ^ 32)
  else if 0x100 ≤ o && o < 0x200 then some (SMap.get 0 x.s ((o - 0x100) / 4))
  else if 0x200 ≤ o && o < 0x300 then
    some (SMap.get 0 (if d.fab.delivered.getD 0 % 2 = 0 then x.in0 else x.in1) ((o - 0x200) / 4))
  else if 0x300 ≤ o && o < 0x310 then some (SMap.get 0 x.mb ((o - 0x300) / 4))
  else none

/-- The registers that show state kept elsewhere; none where the bank holds the word. -/
def Leaf.shownWord (d : Leaf) (off : Nat) : Option Nat :=
  if off < 0x10000 then some (d.idWord off)
  else if off = 0x10010 || off = 0x10014 then some (word96 d.tim.c ((off - 0x10010) / 4))
  else if 0x10018 ≤ off && off < 0x10024 then some (word96 (toTs96 d.now) ((off - 0x10018) / 4))
  else if 0x1003C ≤ off && off < 0x10048 then some (word96 (pat 96 d.tim.ofs) ((off - 0x1003C) / 4))
  else if 0x100000 ≤ off && off < 0x200000 then d.tileWord ((off - 0x100000) / 4096) (off % 4096)
  else if 0x200040 ≤ off && off < 0x200070 then some (d.shownHash / 2 ^ (352 - 8 * (off - 0x200040)) % 2 ^ 32)
  else if 0x270020 ≤ off && off < 0x270040 then some (d.flt.word (d.rd FLT_REC_SEL_INDEX) ((off - 0x270020) / 4))
  else if (off = 0x270040 || off = 0x270044) && !d.ident.test then some 0
  else if off = 0x270000 then some (fieldsWord vcpFields d.bank d.shadow off % 1024 + bits (fieldsWord vcpFields d.bank d.shadow off) 31 11 * 2048 +
    1024 * b2n d.ident.test)
  else if off = 0x280054 then let g := d.segOf (d.rd REC_SEGSEL_SEG); some (g.2 * 65536 + g.1 * 16384)
  else if 0x280094 ≤ off && off < 0x2800A4 then
    let m := SMap.get (0, 0, 0) d.rcd.miss (d.rd REC_MISS_IDX_IDX)
    some (if off = 0x2800A0 then m.2.1 * 65536 + m.2.2 else word96 m.1 ((off - 0x280094) / 4))
  else if off = 0x2B0034 then
    let x := d.thr (d.rd SCH_THR_SEL_THREAD)
    some (x.st.code * 2 ^ 30 + b2n x.pend * 2 ^ 29 + x.pair * 2 ^ 27 + x.prio * 256 + x.aff)
  else if off = 0x2B0048 then some (SMap.get 0 d.sch.trace (d.rd SCH_TRACE_ADDR_ADDR))
  else if off = PWR_UPTIME_SECONDS.off then some (min (2 ^ 32 - 1) ((d.tim.c - d.pwr.upAt) / 800000000))
  else if off = 0x260000 then
    some (fieldsWord vcpFields d.bank d.shadow off % 8 + bits (fieldsWord vcpFields d.bank d.shadow off) 31 4 * 16 + 8 * d.ident.leaf)
  else none

/-- The word at an offset of BAR0. -/
def Leaf.word (d : Leaf) (off : Nat) : Nat :=
  if !d.answers off || d.absentAt off then 0
  else match d.shownWord off, leafLane d.leafId off with
    | some v, _ => v % 2 ^ 32
    | none, some e => laneWord d.bank (laneBase e) off
    | none, none => fieldsWord (vcpFields.map d.fld) d.bank d.shadow off

/-- The lower and the upper offset of the pair that an offset belongs to (R15). -/
def pairOf (ps : List (Nat × Nat × Nat × Nat)) (off : Nat) : Option (Nat × Nat) :=
  (ps.find? fun p => ((Fld.mk p.1 0 32 .ro 0 p.2.2.1 p.2.2.2 .any).copyAt off).isSome ||
      ((Fld.mk p.2.1 0 32 .ro 0 p.2.2.1 p.2.2.2 .any).copyAt off).isSome).map fun p =>
    match (Fld.mk p.1 0 32 .ro 0 p.2.2.1 p.2.2.2 .any).copyAt off, (Fld.mk p.2.1 0 32 .ro 0 p.2.2.1 p.2.2.2 .any).copyAt off with
    | some i, _ => (p.1 + i * p.2.2.1, p.2.1 + i * p.2.2.1)
    | none, some i => (p.1 + i * p.2.2.1, p.2.1 + i * p.2.2.1)
    | none, none => (p.1, p.2.1)

/-- The lowest offset of the TS96 register set that an offset belongs to (02_clocks_and_time.md R65). -/
def ts96Base (off : Nat) : Option Nat :=
  ([0x10018, 0x10030, 0x1003C, 0x1010C, 0x1014C, 0x1011C, 0x1015C, 0x280094].find? fun b => b ≤ off && off < b + 12)

/-- A read of BAR0 (R15, R65): the lowest word of a pair or set captures the others into their holding copies, and a read of another word
returns its copy as it stands. -/
def Leaf.readAt (off : Nat) (d : Leaf) : Leaf :=
  match pairOf vcpPairs off, ts96Base off with
  | some (lo, hi), _ =>
    if off = lo then { d with rdata := d.word lo, hold := SMap.put 0 d.hold hi (d.word hi) } else { d with rdata := SMap.get 0 d.hold off }
  | none, some b =>
    if off = b then
      { d with rdata := d.word b, hold := SMap.put 0 (SMap.put 0 d.hold (b + 4) (d.word (b + 4))) (b + 8) (d.word (b + 8)) }
    else { d with rdata := SMap.get 0 d.hold off }
  | none, none => { d with rdata := d.word off }

/-- The word of a pair's core-local block (18_cores_and_scheduler.md Table 18.6). -/
def Leaf.coreWord (d : Leaf) (p off : Nat) : Nat :=
  match off with
  | 0x0 => p
  | 0x4 => match d.onPair p with | some t => 2 ^ 31 + t | none => 0
  | 0x10 => d.tim.c % 2 ^ 32
  | 0x14 => d.tim.c / 2 ^ 32 % 2 ^ 32
  | 0x18 => d.mtimecmp p % 2 ^ 32
  | 0x1C => d.mtimecmp p / 2 ^ 32 % 2 ^ 32
  | 0x24 => if p = 0 then Nat.land d.sch.released 14 else 0
  | _ => 0

/-- The key of a holding copy of a pair's core-local block. -/
def coreHold (p off : Nat) : Nat := p * 64 + off

/-- A read of a pair's core-local block (log entry 99, DESIGN CHOICE). -/
def Leaf.coreReadAt (p off : Nat) (d : Leaf) : Leaf :=
  if off = 0x10 || off = 0x18 then
    { d with rdata := d.coreWord p off, sch := { d.sch with hold := SMap.put 0 d.sch.hold (coreHold p (off + 4)) (d.coreWord p (off + 4)) } }
  else if off = 0x14 || off = 0x1C then { d with rdata := SMap.get 0 d.sch.hold (coreHold p off) }
  else { d with rdata := d.coreWord p off }

/-! ## A concentrator -/

/-- The lane register set that an offset of a concentrator lies in. -/
def concLane (n : Conc) (off : Nat) : Option LaneEnd :=
  if 0x400 ≤ off && off < 0x440 then some (.uplinkConc n .leaf0)
  else if 0x440 ≤ off && off < 0x480 then some (.uplinkConc n .leaf1)
  else if h : (off - 0x4000) / 64 < 256 then
    if 0x4000 ≤ off && off % 64 < 0x28 then some (.port n ⟨(off - 0x4000) / 64, h⟩) else none
  else none

/-- The offset belongs to a decimator or port that a KA-0128 lacks (R6). -/
def Concentrator.absentAt (d : Concentrator) (off : Nat) : Bool :=
  d.ident.variant ≠ 1 && ((0x800 ≤ off && off < 0x900) || (0x4000 + 64 * 128 ≤ off && off < 0x8000))

/-- The word at an offset of a concentrator. -/
def Concentrator.word (d : Concentrator) (n : Conc) (off : Nat) : Nat :=
  if d.absentAt off then 0
  else if off = 0x8 then if d.ident.variant = 1 then 0x01008008 else 0x02007000
  else if 0x720 ≤ off && off < 0x740 then d.flt.word (d.rd AFLT_REC_SEL_INDEX) ((off - 0x720) / 4)
  else if off = 0x740 && !d.ident.test then 0
  else
    let v := match concLane n off with
      | some e => laneWord d.bank (laneBase e) off
      | none => fieldsWord concFields d.bank [] off
    if off = 0x700 then v % 1024 + bits v 31 11 * 2048 + 1024 * b2n d.ident.test else v

/-! ## A cell controller -/

/-- The offset belongs to the delta-sigma channel or a trip input that a KC-0020 lacks (R6, 08_cell_switching.md). -/
def Cell.absentAt (d : Cell) (off : Nat) : Bool := d.ident.variant ≠ 1 && ((0x3A0 ≤ off && off < 0x3C0) || off = 0x20C || off = 0x210)

/-- The word at an offset of a cell controller. CRET_WIN_DATA has its own row. -/
def Cell.word (d : Cell) (off : Nat) : Nat :=
  if d.absentAt off then 0
  else if off = 0x8 then if d.ident.variant = 1 then 0x01000041 else 0x02000020
  else if 0x3E0 ≤ off && off < 0x400 then d.logWord (d.rd CRET_LOG_IDX_IDX) ((off - 0x3E0) / 4)
  else if off = 0x48C then SMap.get 0 d.ret.counters (d.rd CFLT_CNT_IDX_IDX)
  else if off = 0x490 && !d.ident.test then 0
  else
    let v := if 0x400 ≤ off && off < 0x428 then laneWord d.bank 0x400 off else fieldsWord cellFields d.bank [] off
    if off = 0x480 then v % 1024 + bits v 31 11 * 2048 + 1024 * b2n d.ident.test
    else if off = 0x200 && d.ident.variant ≠ 1 then v - bits v 3 2 * 4 - bits v 11 10 * 1024
    else v

/-- A read at a cell's register: CRET_WIN_DATA shows the retention window, and CPWM_SHORT_CNT re-arms its NOTE (R281) (log entry 76, DEDUCED). -/
def Cell.readAt (off : Nat) (d : Cell) : Cell :=
  if off = 0x3D8 then d.winData none else if off = 0x140 then d.shortCntRead else { d with rdata := d.word off }

/-! ## The rows -/

/-- A read of a register. -/
def readRegister (part : Part) (off : Nat) (s : State) : Host.Outcome State Fault Refusal :=
  match part with
  | .leaf l => onLeaf l s (Leaf.readAt off)
  | .conc n => onConc n s fun d => { d with rdata := d.word n off }
  | .cell c => onCell c s fun d => d.runs (Cell.readAt off)
  | .core l p => onLeaf l s (Leaf.coreReadAt p.val off)

def execLowerWordRead (part : Part) (off : Nat) (s : State) : Host.Outcome State Fault Refusal := readRegister part off s
def execTs96LowestWordRead (part : Part) (off : Nat) (s : State) : Host.Outcome State Fault Refusal := readRegister part off s

/-- An access of another width or alignment: ignored, 0 to a read, and the ALARM of the part (R14). -/
def execInvalidRegisterAccess (part : Part) (write : Bool) (off width : Nat) (s : State) : Host.Outcome State Fault Refusal :=
  if off % 4 = 0 && width = 4 then .next s
  else
    let leaf (d : Leaf) : Leaf :=
      if !d.running then d else let d := d.raise 0x0001 .alarm; if write then d else { d with rdata := 0 }
    let conc (n : Conc) (d : Concentrator) : Concentrator :=
      if !d.fw.up then d else let d := d.raise n 0x5001 .alarm; if write then d else { d with rdata := 0 }
    let cell (c : CellId) (d : Cell) : Cell :=
      d.runs fun d => let d := Cell.raise c 0x8001 .alarm 0 0 d; if write then d else { d with rdata := 0 }
    match part with
    | .leaf l => onLeaf l s leaf
    | .core l _ => onLeaf l s leaf
    | .conc n => onConc n s (conc n)
    | .cell c => onCell c s (cell c)

end Sys2Proof.Machine
end

