-- ==== Sys2Proof/Machine/RegWrite.lean ====
section
/-! DEFINITION. Writing a register (00_scope.md Table 0.7, R17) on each part, with the locks, ranges and refusals of the register tables, and
the warm-reset request (19_power_reset_startup.md R579). A register that has a row of its own takes the same write here. -/

namespace Sys2Proof.Machine
open Reg

/-! ## Access codes -/

/-- The bits of `v` where `mask` has ones, and those of `old` elsewhere (log entry 35, DEDUCED). -/
def mergeBits (old v mask : Nat) : Nat := Nat.land v mask + (old - Nat.land old mask)

/-- What a field holds after a write of the bits of `mask` (Table 0.7). -/
def fldWrite (f : Fld) (old v mask : Nat) : Nat :=
  match f.acc with
  | .ro => old
  | .wo => old
  | .w1c => old - Nat.land old (Nat.land v mask)
  | .w1s => Nat.lor old (Nat.land v mask)
  | _ => if mask = 0 then old else f.fix.apply old (mergeBits old v mask)

/-- The part of a word that a field holds. -/
def Fld.part (f : Fld) (v : Nat) : Nat := bits v (f.lo + f.w - 1) f.lo

/-- A bank after a write of the bits of `mask` at an offset, to the fields that `p` lets take it. -/
def bankWrite (fs : List Fld) (p : Access → Bool) (off v mask : Nat) (b : SMap Nat) : SMap Nat :=
  fs.foldl (fun b f => match f.copyAt off with
    | some i => if p f.acc then bankWr b f (fldWrite f (bankRd b f i) (f.part v) (f.part mask)) i else b
    | none => b) b

def ones : Nat := 0xFFFFFFFF
/-- The codes of fields that act at once. -/
def plainAcc (a : Access) : Bool := a = .rw || a = .w1c || a = .w1s

/-! ## A leaf -/

/-- The fields of codes RW, W1C and W1S take the write. -/
def Leaf.plainWrite (off v : Nat) (d : Leaf) : Leaf := { d with bank := bankWrite (vcpFields.map d.fld) plainAcc off v ones d.bank }

/-- A group is open from the first write on (03_control_cycle.md R123). -/
def Leaf.openGroup (g : Nat) (d : Leaf) : Leaf :=
  if d.cyc.opened.any (·.1 = g) then d else { d with cyc := { d.cyc with opened := d.cyc.opened ++ [(g, d.tim.cyc)] } }

/-- The group of copy `i` of an RWC field (R117). -/
def Leaf.groupOf (d : Leaf) (f : Fld) (i : Nat) : Option Nat :=
  if cycleGroup.any (·.1 = f) then some 0
  else if timeGroup.any (·.1 = f) then some 1
  else if tumFields.contains f then d.key.active.bind fun im => (im.pols[i]?).map (·.group)
  else if mwFields.contains f then d.key.active.bind fun im => (im.prot.mw[i]?).map (·.group)
  else none

/-- The RWC fields at an offset, with their copies. -/
def rwcAt (off : Nat) : List (Fld × Nat) := vcpFields.filterMap fun f => if f.acc = .rwc then (f.copyAt off).map (f, ·) else none

/-- A write of RWC fields goes to their shadows and opens their groups; on a leaf that is not active it is ignored (R123, R124). -/
def Leaf.rwcWrite (off v : Nat) (d : Leaf) : Leaf :=
  if (rwcAt off).isEmpty then d
  else if !d.active then d.wr CYC_STATUS_STBY_WRITE 1
  else (rwcAt off).foldl (fun d x =>
    let d := d.wrShadow x.1 (x.1.fix.apply (d.rdShadow x.1 x.2) (x.1.part v)) x.2
    match d.groupOf x.1 x.2 with | some g => d.openGroup g | none => d) d

/-- A write of TILE_CO_DATA, or of TILE_CO_SHIFT, goes to the shadow page (05_control_fabric.md Table 5.13; 06_keying_image.md R222). -/
def Leaf.coWrite (t : Nat) (shift : Bool) (v : Nat) (d : Leaf) : Leaf :=
  if !d.active then d.wr CYC_STATUS_STBY_WRITE 1
  else if d.loadHolds then d.wr KEY_STATUS_CO_WR_REFUSED 1
  else
    let x := d.tile t
    let a := d.rd TILE_CO_ADDR_ADDR t
    let o := SMap.get 0 x.coefShadow a
    let n := if shift then v % 64 * 2 ^ 32 + o % 2 ^ 32 else o / 2 ^ 32 * 2 ^ 32 + v % 2 ^ 32
    let d := d.setTile t { x with coefShadow := SMap.put 0 x.coefShadow a n }
    match d.key.active.bind (fun im => im.coefs.find? (·.tile = t)) with
    | some c => d.openGroup c.group
    | none => d

/-- A write in a tile window (Table 5.12) (log entry 80, DEDUCED). -/
def Leaf.tileWrite (t o : Nat) (v : Word) (d : Leaf) : Leaf :=
  if o = 0x18 then d.spData t (some v)
  else if o = 0x20 then d.coWrite t false v.toNat
  else if o = 0x24 then d.coWrite t true v.toNat
  else if 0x100 ≤ o && o < 0x200 then d.snWrite t ((o - 0x100) / 4) v
  else
    let d := d.plainWrite (0x100000 + 4096 * t + o) v.toNat
    if o = 0 && !d.is TILE_STATUS_SAT t && !d.is TILE_STATUS_ACC_OVF t && !d.is TILE_STATUS_DIV_ZERO t && !d.is TILE_STATUS_SQRT_NEG t then
      d.wr TILE_FLAG_STEP_VALID 0 t
    else d

/-- A write of lane registers (10_flenor_links.md Tables 10.11 and 10.12): xx_CTL and xx_INJ act, the others are stored. -/
def lnWrite (moving refuse cell : Bool) (base off v mask : Nat) (b : SMap Nat) : SMap Nat :=
  if off = base then lnCtl moving refuse cell base (mergeBits (laneWord b base base) v mask) b
  else if off = base + 0x20 then lnInj moving base (mergeBits (laneWord b base off) v mask) b
  else bankWrite (laneFields.map (·.at base)) plainAcc off v mask b

/-- A write of a configuration register of the recorder is taken only in STOPPED (15_disturbance_recorder.md R487) (log entry 73, DEDUCED). -/
def Leaf.recWrite (off v : Nat) (d : Leaf) : Leaf :=
  let free := off = 0x280000 || off = 0x280050 || off = 0x280090
  if free then d.plainWrite off v
  else if !vcpFields.any fun f => f.acc = .rw && (f.copyAt off).isSome then d
  else if d.recLocked then d.wr REC_STATUS_CFG_LOCKED 1
  else (d.plainWrite off v).recShow

/-- A write in the safety block (16_personnel_safety.md R518, R521): LCK registers take it until the lock is set, and not in the hold of a bad
configuration. The range of TIME follows DIR (Table 16.10) (log entry 75, DEDUCED). -/
def Leaf.safWrite (off v : Nat) (d : Leaf) : Leaf :=
  if off = 0x290004 then d.safLock v
  else if d.is SAF_STATUS_LOCKED || d.is SAF_STATUS_CFG_ERR then { d with bank := bankWrite vcpFields (· = .w1c) off v ones d.bank }
  else
    let d := { d with bank := bankWrite vcpFields (fun a => a = .w1c || a = .lck) off v ones d.bank }
    match SAF_HASPc_CFG_DIR.copyAt off with
    | some c =>
      let t := bits v 25 16
      d.wr SAF_HASPc_CFG_TIME (if d.is SAF_HASPc_CFG_DIR c then min 500 (max 1 t) else min 1000 (max 2 t)) c
    | none => d

/-- HNG_CFG and HNG_SOLO: applied on both leaves by the active one, ignored on the standby (13_the_hinge.md R447). -/
def Leaf.hngWrite (off v : Nat) (d : Leaf) : Leaf :=
  if off = 0x260004 || off = 0x260008 then
    if d.hng.role = .standby then d
    else
      let d := d.plainWrite off v
      if d.active then d.mirror (.hngCfg (d.rd HNG_CFG_ALIGN_HOLD_MS) (d.rd HNG_CFG_CMP_PERSIST) (d.rd HNG_SOLO_MS)) else d
  else d.plainWrite off v

/-- The W1C bits of FLT_STATUS. RING_OVF goes with the record of lost alarms (14_faults.md Table 14.5a) (log entry 11, DEDUCED). -/
def Leaf.fltStatusWrite (v : Nat) (d : Leaf) : Leaf :=
  let d := d.plainWrite 0x270000 v
  if bitOf v 12 then { d with flt := { d.flt with lostAlarm := false } }.fltRefresh else d

/-- A write in the fault block (Table 14.10). -/
def Leaf.fltWrite (off : Nat) (v : Word) (d : Leaf) : Leaf :=
  if off = 0x270000 then d.fltStatusWrite v.toNat
  else if off = 0x270010 then d.fltClear v.toNat
  else if off = 0x270048 then d.inject v.toNat
  else if off = 0x270040 || off = 0x270044 then if d.ident.testFuse then d.plainWrite off v.toNat else d
  else d.plainWrite off v.toNat

/-- A write in the host-interface block (12_host_interface_and_handles.md Table 12.13). -/
def Leaf.hndWrite (off : Nat) (v : Word) (d : Leaf) : Leaf :=
  if off = 0x250014 then d.doorbell v
  else if off = 0x25002C then d.ackWrite v
  else if off = 0x250004 then if bitOf v.toNat 0 then d.hndEnable else d.hndDisable
  else if [0x250008, 0x25000C, 0x250010, 0x250020, 0x250024, 0x250028].contains off then d.ringSettingWrite off v
  else d.plainWrite off v.toNat

/-- PROF_CFG: TEST_ALLOW is LCK under LOCK (07_setpoint_profiler.md Table 7.6). -/
def Leaf.profWrite (off v : Nat) (d : Leaf) : Leaf :=
  let d' := d.plainWrite off v
  if off = 0x210004 && !d.is PROF_CFG_LOCK then d'.wr PROF_CFG_TEST_ALLOW (bits v 0 0) else d'

/-- A write in the scheduler's block: the host may write three registers only (18_cores_and_scheduler.md R568) (log entry 48, DEDUCED). -/
def Leaf.schWrite (ag : Agent) (off v : Nat) (d : Leaf) : Leaf :=
  let may := match ag with | .host => off = 0x2B0004 || off = 0x2B0030 || off = 0x2B0044 | .core _ => true
  if may then d.plainWrite off v else d

/-- A WARM request (19_power_reset_startup.md R579): at once on a leaf that is not ACTIVE; after a planned exchange with a partner that
stands by; alone only while the converter is not moving (log entry 49, DEDUCED). -/
def Leaf.warmRequest (val : Nat) (d : Leaf) : Leaf :=
  if !d.writable || bits val 31 16 ≠ 0x5AFE || bits val 1 0 ≠ 1 then d
  else if !d.active then d.warmReset 3
  else if d.is HNG_STATUS_PARTNER_STANDING then
    if d.hng.exchange.isSome || d.split then d.wr PWR_STATUS_WARM_REFUSED 1
    else ({ d with pwr := { d.pwr with warmWait := some 3 } }).beginExchange 0 (1 - d.ident.leaf)
  else if d.moving then d.wr PWR_STATUS_WARM_REFUSED 1
  else d.warmReset 3

/-- Log entry 49, DEDUCED. -/
def execWarmReset (l : LeafId) (val : Word) (s : State) : Host.Outcome State Fault Refusal := onLeaf l s (Leaf.warmRequest val.toNat)

/-- PWR_RAIL_ERR: a bit that goes shows its rail in its window again (R572) (log entry 49, DEDUCED). -/
def Leaf.pwrWrite (off v : Nat) (d : Leaf) : Leaf :=
  if off = 0x2C0004 then d.warmRequest v
  else
    let d' := d.plainWrite off v
    if off = 0x2C000C then d'.wr PWR_RAILS_IN_WINDOW (Nat.lor (d.rd PWR_RAILS_IN_WINDOW) (Nat.land (d.rd PWR_RAIL_ERR_OUT) v)) else d'

/-- A write of an aligned word at an offset of BAR0, by block (log entry 48, DEDUCED). -/
def Leaf.blockWrite (ag : Agent) (off : Nat) (v : Word) (d : Leaf) : Leaf :=
  let n := v.toNat
  if off = 0x10008 then d.timClkWrite v
  else if off = 0x20018 then d.cycCommit v
  else if off = 0x2001C then d.cycDiscard v
  else if 0x100000 ≤ off && off < 0x200000 then d.tileWrite ((off - 0x100000) / 4096) (off % 4096) v
  else if 0x210000 ≤ off && off < 0x220000 then d.profWrite off n
  else if 0x240000 ≤ off && off < 0x250000 then (d.plainWrite off n).discShow
  else if 0x250000 ≤ off && off < 0x260000 then d.hndWrite off v
  else if 0x260000 ≤ off && off < 0x270000 then d.hngWrite off n
  else if 0x270000 ≤ off && off < 0x280000 then d.fltWrite off v
  else if 0x280000 ≤ off && off < 0x290000 then d.recWrite off n
  else if 0x290000 ≤ off && off < 0x2A0000 then d.safWrite off n
  else if 0x2B0000 ≤ off && off < 0x2C0000 then d.schWrite ag off n
  else if 0x2C0000 ≤ off && off < 0x2D0000 then d.pwrWrite off n
  else if 0x400000 ≤ off && off < 0x460000 then d.controlHalfWrite ((off - 0x400000) / 32) (off % 32 / 4) n
  else match leafLane d.leafId off with
    | some e => d.laneStep e false (lnWrite d.moving true false (laneBase e) off n ones)
    | none => (d.plainWrite off n).rwcWrite off n

/-- A write at an offset of BAR0: ignored while it is not answered, at an absent unit, and under the deadbolt latch but for FLT_STATUS
(14_faults.md R464) (log entry 11, DEDUCED). -/
def Leaf.writeAt (ag : Agent) (off : Nat) (v : Word) (d : Leaf) : Leaf :=
  if !d.answers off || d.absentAt off then d
  else if d.is FLT_STATUS_DEADBOLT then if off = 0x270000 then d.fltStatusWrite v.toNat else d
  else d.blockWrite ag off v

/-- A kernel operation by its OP field (18_cores_and_scheduler.md Table 18.2) (log entry 99, DESIGN CHOICE). -/
def Leaf.coreOp (p : Nat) (v : Word) (d : Leaf) : Leaf :=
  match bits v.toNat 31 28 with
  | 1 => d.kernelOp p 1 v (Leaf.opReady v)
  | 2 => d.kernelOp p 2 v (Leaf.opBlock v)
  | 3 => d.kernelOp p 3 v (Leaf.opYield p v)
  | 4 => d.kernelOp p 4 v (Leaf.opSetPrio v)
  | 5 => d.kernelOp p 5 v (Leaf.opSetAff v)
  | 6 => d.kernelOp p 6 v (Leaf.opStart v)
  | 7 => d.kernelOp p 7 v (Leaf.opStop v)
  | 8 => d.opSwitched p v
  | _ => d.opUnknown p v

/-- A write of a half of CORE_MTIMECMP (R566). -/
def Leaf.cmpWrite (p : Nat) (upper : Bool) (v : Nat) (d : Leaf) : Leaf :=
  let o := d.mtimecmp p
  let n := if upper then v * 2 ^ 32 + o % 2 ^ 32 else o / 2 ^ 32 * 2 ^ 32 + v
  { d with sch := { d.sch with cmp := SMap.put (2 ^ 64 - 1) d.sch.cmp p n } }.machineTimer p

/-- A write in a pair's core-local block (Table 18.6); it is exempt from the deadbolt latch (R558) (log entry 48, DEDUCED; log entry 99, DESIGN CHOICE). -/
def Leaf.coreWriteAt (p off : Nat) (v : Word) (d : Leaf) : Leaf :=
  if !d.pairRuns p then d
  else match off with
    | 0x8 => d.coreOp p v
    | 0x18 => d.cmpWrite p false v.toNat
    | 0x1C => d.cmpWrite p true v.toNat
    | 0x20 => d.coreMsix p v
    | 0x24 => d.coreRelease p v
    | _ => d

/-! ## A concentrator -/

/-- A write of the bits of a mask at a concentrator's register. -/
def Concentrator.writeAt (n : Conc) (off v mask : Nat) (d : Concentrator) : Concentrator :=
  if !d.writable || d.absentAt off then d
  else if off = 0x70C then d.fltClear n (Nat.land v mask)
  else if off = 0x744 then d.inject n (Nat.land v mask)
  else if off = 0x740 && !d.ident.testFuse then d
  else match concLane n off with
    | some e => d.laneStep e false (lnWrite d.moving (!cellLane e) (cellLane e) (laneBase e) off v mask) n
    | none =>
      let d := { d with bank := bankWrite concFields plainAcc off v mask d.bank }
      if off = 0x700 && bitOf (Nat.land v mask) 12 then { d with flt := { d.flt with lostTrip := false } }.fltRefresh else d

/-- The active leaf's own write of the bits of a mask, of registers that a host cannot write as well: port entries, map tags, the publish
deadline and the fault mode (06_keying_image.md R230; log entry 28, DEDUCED). -/
def Concentrator.ownWrite (off v mask : Nat) (d : Concentrator) : Concentrator :=
  if !d.fw.up || d.absentAt off then d
  else
    let b := concFields.foldl (fun b f => match f.copyAt off with
      | some i => bankWr b f (mergeBits (bankRd b f i) (f.part v) (f.part mask)) i
      | none => b) d.bank
    { d with bank := b }.fltRefresh

/-! ## A cell controller -/

/-- The registers whose writes the switching unit, or the converter, holds back (08_cell_switching.md R282, 09_cell_measurement_and_sleep.md
R317). -/
def pwmHeldAt (off : Nat) : Bool := (0x108 ≤ off && off < 0x120) || (0x130 ≤ off && off < 0x140)
def adcHeldAt (off : Nat) : Bool := (0x314 ≤ off && off < 0x32C) || (0x340 ≤ off && off < 0x380)

/-- A write of CADC_CTL: continuous conversions start, and a general conversion that waits ends with EN (R314). -/
def Cell.adcCtl (d : Cell) : Cell :=
  if !d.is CADC_CTL_EN then { d with adc := { d.adc with general := false } }
  else if d.is CADC_CTL_CONT && d.adc.job = .none && d.idleRuns then d.startGeneral
  else d

/-- The fields of codes RW, W1C and W1S, and the LCK ones while CBYP_CFG.LOCK is 0, take the write. -/
def Cell.plainWrite (off v mask : Nat) (d : Cell) : Cell :=
  let lck := !d.is CBYP_CFG_LOCK
  { d with bank := bankWrite cellFields (fun a => plainAcc a || (lck && a = .lck)) off v mask d.bank }

/-- A write of the bits of a mask at a cell's register. -/
def Cell.writeAt (c : CellId) (off v mask : Nat) (d : Cell) : Cell :=
  let m := mergeBits (SMap.get (d.word off) (if adcHeldAt off || off = 0x310 then d.sw.adcHeld else d.sw.pwmHeld) off) v mask
  let act := Nat.land v mask
  if d.absentAt off then d
  else if off = 0x100 then d.ctlWrite m
  else if off = 0x120 then d.periodWrite m
  else if off = 0x124 then d.dutyWrite m
  else if pwmHeldAt off then d.holdPwm off m
  else if 0x204 ≤ off && off < 0x214 then d.filtWrite ((off - 0x204) / 4) m
  else if off = 0x21C then d.tripClear act
  else if off = 0x280 then (d.plainWrite off v mask).judgeStart
  else if off = 0x28C then d.bypCmd c act
  else if off = 0x300 then (d.plainWrite off v mask).adcCtl
  else if off = 0x304 then d.adcStart act
  else if off = 0x310 then d.privWrite m
  else if adcHeldAt off then d.holdAdc off m
  else if off = 0x33C then d.calWrite (if bitOf act 0 then setBit m 0 true else setBit m 0 false)
  else if off = 0x3D8 then d.winData (some (mergeBits (d.winData none).rdata v mask))
  else if 0x400 ≤ off && off < 0x428 then d.laneStep false (lnWrite d.moving false true 0x400 off v mask) c
  else if off = 0x484 then d.fltClear act
  else if off = 0x490 then if d.ident.testFuse then d.plainWrite off v mask else d
  else if off = 0x494 then d.inject c act
  else if off = 0x518 && bits m 7 0 ≤ d.rd CRET_SLEEP_SLEEP_V then d
  else d.plainWrite off v mask

/-! ## The row -/

def execRegisterWrite (part : Part) (agent : Agent) (off : Nat) (val : Word) (s : State) : Host.Outcome State Fault Refusal :=
  match part with
  | .leaf l => onLeaf l s (Leaf.writeAt agent off val)
  | .core l p => onLeaf l s (Leaf.coreWriteAt p.val off val)
  | .conc n => onConc n s (Concentrator.writeAt n off val.toNat ones)
  | .cell c => onCell c s fun d => d.takes (Cell.writeAt c off val.toNat ones)

end Sys2Proof.Machine
end

