-- ==== Sys2Proof/Machine/Remote.lean ====
section
/-! DEFINITION. Remote access to the registers of concentrators and cells (12_host_interface_and_handles.md R415, R416; 14_faults.md R464). -/

namespace Sys2Proof.Machine
open Reg

/-! ## The leaf (R415) -/

/-- The target of a CELL command and its OFFSET, VALUE and MASK, as R606 packs the parameters of Table 12.10: KIND, CONC and SLOT are
always present, since the table does not join CONC and SLOT by "or" (log entry 35, DEDUCED). -/
structure RemoteCmd where
  cell : Bool
  target : Nat
  off : Nat
  value : Nat
  mask : Nat
  deriving DecidableEq, Repr

/-- Log entry 35, DEDUCED. -/
def Cmd.remote (c : Cmd) : RemoteCmd :=
  ⟨c.par 0 8 ≠ 0, if c.par 0 8 = 0 then c.par 8 8 else c.par 16 16, c.par 32 16, c.par 48 32, c.par 80 32⟩

/-- The end of the register space of a concentrator, and of a cell controller (log entry 34, DEDUCED). -/
def RemoteCmd.spaceEnd (r : RemoteCmd) : Nat := if r.cell then 0x1000 else 0x8000

/-- The values are in range (R415; Table 12.10) (log entry 34, DEDUCED). -/
def RemoteCmd.ok (c : Cmd) (r : RemoteCmd) : Bool :=
  c.par 0 8 ≤ 1 && r.off % 4 = 0 && r.off < r.spaceEnd && r.target < (if r.cell then 12288 else 48)

/-- The concentrator that a command goes to, and the port plus 1 of its cell, 0 for the concentrator itself; none for a slot that no port
is mapped to (log entry 35, DEDUCED). -/
def Leaf.remoteTarget (d : Leaf) (r : RemoteCmd) : Option (Nat × Nat) :=
  if !r.cell then some (r.target, 0)
  else (d.key.active.bind fun im => im.entryOf r.target).map fun e => (e.conc, e.port + 1)

/-- A remote command goes out while its target's lanes are UP (R415). `portUp`: the state of a concentrator's port (log entry 35, DEDUCED). -/
def Leaf.remoteCmd (portUp : Nat → Nat → Bool) (op : Nat) (h : Handle) (d : Leaf) : Leaf :=
  d.runOuter h 6 op (op = 1) fun c d =>
    let r := c.remote
    if !RemoteCmd.ok c r then d.complete h stINVALID
    else if r.cell && d.armLimit ≤ r.target % 2048 then d.complete h stABSENT
    else match d.remoteTarget r with
      | none => d.complete h stTIMEOUT
      | some (n, p) =>
        if hn : n < 48 then
          if d.uplinkUp n && (p = 0 || portUp n (p - 1)) then
            ({ d with hnd := { d.hnd with remote := d.hnd.remote ++ [RemotePend.mk h (op = 2)] } }).remoteFrame ⟨n, hn⟩ h (op = 2) r.off
              (if op = 2 then r.value else 0) (if op = 2 then r.mask else 0) p
          else d.complete h stTIMEOUT
        else d.complete h stINVALID

/-- The state of a concentrator's port. -/
def State.portUp (s : State) (n p : Nat) : Bool :=
  if hn : n < 48 then (s.conc ⟨n, hn⟩).rd (XX_STATE_STATE.at (0x4000 + 64 * p)) = 7 else false

def execRemoteRead (l : LeafId) (h : Handle) (s : State) : Host.Outcome State Fault Refusal := onLeaf l s (Leaf.remoteCmd s.portUp 1 h)
def execRemoteWrite (l : LeafId) (h : Handle) (s : State) : Host.Outcome State Fault Refusal := onLeaf l s (Leaf.remoteCmd s.portUp 2 h)

/-- A remote command that waits for its response. -/
def Leaf.remoteWaits (d : Leaf) (h : Handle) : Bool := d.hnd.remote.any (·.handle = h)
def Leaf.remoteEnd (h : Handle) (d : Leaf) : Leaf := { d with hnd := { d.hnd with remote := d.hnd.remote.filter (·.handle ≠ h) } }

/-- A read of AID_FW_STATUS, or of CUPD_STATUS, that shows a fallback (17_updates.md R539) (log entry 58, DEDUCED). -/
def Leaf.noteFallback (c : Cmd) (v : Nat) (d : Leaf) : Leaf :=
  let r := c.remote
  if c.op = 1 && bitOf v 2 && r.off = (if r.cell then 0x500 else 0x10) then d.raise 0x2A01 .alarm (r.target % 256) 0 (if r.cell then 4 else 3)
  else d

/-- A REMOTE_RSP completes its command (R415). -/
def Leaf.remoteRsp (h : Handle) (v : Nat) (d : Leaf) : Leaf :=
  match d.cmd h with
  | some c => if d.remoteWaits h && d.active then ((d.remoteEnd h).complete h stDONE v).noteFallback c v else d
  | none => d

def execRemoteRsp (l : LeafId) (h : Handle) (val : Word) (s : State) : Host.Outcome State Fault Refusal := onLeaf l s (Leaf.remoteRsp h val.toNat)

/-- No response within 10 ms (R415) (log entry 6, DESIGN CHOICE). -/
def Leaf.remoteTimeout (h : Handle) (d : Leaf) : Leaf :=
  if d.remoteWaits h && d.active then (d.remoteEnd h).complete h stTIMEOUT else d

def execRemoteTimeout (l : LeafId) (h : Handle) (s : State) : Host.Outcome State Fault Refusal := onLeaf l s (Leaf.remoteTimeout h)

/-! ## The target (R416) -/

/-- The stored results with a new one: the last 16 (R416). -/
def keepResult (h v : Nat) (rs : List RemoteRes) : List RemoteRes := (rs ++ [RemoteRes.mk h v]).drop (rs.length + 1 - 16)

/-- A request at a concentrator: a read is answered always, a write once per handle and not under the latch; handle 0 is a write of the
leaf's own, which has no response (log entry 28, DEDUCED). -/
def Concentrator.remoteReq (n : Conc) (l : LeafId) (h : Nat) (w : Option Nat) (mask off : Nat) (d : Concentrator) : Concentrator :=
  let answer (v : Nat) (d : Concentrator) : Concentrator := d.emit (.frame (.uplinkConc n l) 10 [h, v])
  if !d.fw.up then d
  else match w with
    | none => answer (d.word n off) d
    | some v =>
      if d.is AFLT_STATUS_DEADBOLT then d
      else if h = 0 then d.ownWrite off v mask
      else match d.remote.find? (·.handle = h) with
        | some r => answer r.value d
        | none =>
          let d := d.writeAt n off v mask
          answer (d.word n off) { d with remote := keepResult h (d.word n off) d.remote }

/-- A request at a cell (log entry 28, DEDUCED). -/
def Cell.remoteReq (c : CellId) (h : Nat) (w : Option Nat) (mask off : Nat) (d : Cell) : Cell :=
  let answer (v : Nat) (d : Cell) : Cell := d.emit (.frame (.cell c) 7 [h, v])
  match w with
  | none => let d := d.readAt off; answer d.rdata d
  | some v =>
    if d.is CFLT_STATUS_DEADBOLT then d
    else match d.remote.find? (·.handle = h) with
      | some r => answer r.value d
      | none =>
        let d := d.writeAt c off v mask
        let x := (d.readAt off).rdata
        answer x { d with remote := keepResult h x d.remote }

def execRemoteReq (part : Part) (l : LeafId) (h : Handle) (w : Option Word) (mask : Word) (off : Nat) (s : State) :
    Host.Outcome State Fault Refusal :=
  match part with
  | .conc n => onConc n s (Concentrator.remoteReq n l h (w.map (·.toNat)) mask.toNat off)
  | .cell c => onCell c s fun d => d.runs (Cell.remoteReq c h (w.map (·.toNat)) mask.toNat off)
  | _ => .next s

end Sys2Proof.Machine
end

