-- ==== Sys2Proof/Machine/Dispatch.lean ====
section
/-! DEFINITION. The dispatch: one arm per command. -/

namespace Sys2Proof.Machine

def exec (i : Instr) (s : State) : Host.Outcome State Fault Refusal :=
  match i with
  | .registerWrite part agent off val => Sys2Proof.Machine.execRegisterWrite part agent off val s
  | .invalidRegisterAccess part write off width => Sys2Proof.Machine.execInvalidRegisterAccess part write off width s
  | .lowerWordRead part off => Sys2Proof.Machine.execLowerWordRead part off s
  | .ts96LowestWordRead part off => Sys2Proof.Machine.execTs96LowestWordRead part off s
  | .cycleStart l => Sys2Proof.Machine.execCycleStart l s
  | .readyPersistenceMet l => Sys2Proof.Machine.execReadyPersistenceMet l s
  | .chargeTimeLimitExpires l => Sys2Proof.Machine.execChargeTimeLimitExpires l s
  | .charge l h => Sys2Proof.Machine.execCharge l h s
  | .deblock l h => Sys2Proof.Machine.execDeblock l h s
  | .block l h => Sys2Proof.Machine.execBlock l h s
  | .clearTrip l h => Sys2Proof.Machine.execClearTrip l h s
  | .synchronousSample c => Sys2Proof.Machine.execSynchronousSample c s
  | .uplinkDeadline l => Sys2Proof.Machine.execUplinkDeadline l s
  | .fabricDoneInstant l => Sys2Proof.Machine.execFabricDoneInstant l s
  | .tumblerSelect l a => Sys2Proof.Machine.execTumblerSelect l a s
  | .predictionMismatch l slot => Sys2Proof.Machine.execPredictionMismatch l slot s
  | .publishDeadline l => Sys2Proof.Machine.execPublishDeadline l s
  | .shadowMismatch l => Sys2Proof.Machine.execShadowMismatch l s
  | .cmpRestored l => Sys2Proof.Machine.execCmpRestored l s
  | .budgetCheck l => Sys2Proof.Machine.execBudgetCheck l s
  | .cycCommit l mask => Sys2Proof.Machine.execCycCommit l mask s
  | .commitApply l => Sys2Proof.Machine.execCommitApply l s
  | .cycDiscard l mask => Sys2Proof.Machine.execCycDiscard l mask s
  | .groupOpenTimeout l g => Sys2Proof.Machine.execGroupOpenTimeout l g s
  | .referenceQualified l inp => Sys2Proof.Machine.execReferenceQualified l inp s
  | .referenceLost l inp => Sys2Proof.Machine.execReferenceLost l inp s
  | .referenceReverted l => Sys2Proof.Machine.execReferenceReverted l s
  | .holdoverExpired l => Sys2Proof.Machine.execHoldoverExpired l s
  | .timClkWrite l val => Sys2Proof.Machine.execTimClkWrite l val s
  | .clockMonitorWindow l count => Sys2Proof.Machine.execClockMonitorWindow l count s
  | .rootPllLossOfLock l => Sys2Proof.Machine.execRootPllLossOfLock l s
  | .mirAlignConverged l => Sys2Proof.Machine.execMirAlignConverged l s
  | .alignHoldExpired l => Sys2Proof.Machine.execAlignHoldExpired l s
  | .timeTrigger l trg => Sys2Proof.Machine.execTimeTrigger l trg s
  | .ptpEventMessage l ptp => Sys2Proof.Machine.execPtpEventMessage l ptp s
  | .timPnRxtagRead l n => Sys2Proof.Machine.execTimPnRxtagRead l n s
  | .timPnTxtagRead l n => Sys2Proof.Machine.execTimPnTxtagRead l n s
  | .markerBlock e m rtt crcOk => Sys2Proof.Machine.execMarkerBlock e m rtt crcOk s
  | .delayStepConfirmed e => Sys2Proof.Machine.execDelayStepConfirmed e s
  | .markerSend e => Sys2Proof.Machine.execMarkerSend e s
  | .markerMissing e => Sys2Proof.Machine.execMarkerMissing e s
  | .recordCutoff n k => Sys2Proof.Machine.execRecordCutoff n k s
  | .uplink n p frame crcOk => Sys2Proof.Machine.execUplink n p frame crcOk s
  | .uplinkSlot c => Sys2Proof.Machine.execUplinkSlot c s
  | .records l n recs => Sys2Proof.Machine.execRecords l n recs s
  | .sums l n rec => Sys2Proof.Machine.execSums l n rec s
  | .commandSet n u hdr words => Sys2Proof.Machine.execCommandSet n u hdr words s
  | .skip n u hdr => Sys2Proof.Machine.execSkip n u hdr s
  | .armInfo n u body => Sys2Proof.Machine.execArmInfo n u body s
  | .standby n u hdr => Sys2Proof.Machine.execStandby n u hdr s
  | .replayInstant n m => Sys2Proof.Machine.execReplayInstant n m s
  | .replayExhausted n => Sys2Proof.Machine.execReplayExhausted n s
  | .silenceGrantMove n => Sys2Proof.Machine.execSilenceGrantMove n s
  | .controlSlot n m => Sys2Proof.Machine.execControlSlot n m s
  | .control c body crcOk => Sys2Proof.Machine.execControl c body crcOk s
  | .cellCycleStart c => Sys2Proof.Machine.execCellCycleStart c s
  | .silenceBlock c => Sys2Proof.Machine.execSilenceBlock c s
  | .latchTime c overlap => Sys2Proof.Machine.execLatchTime c overlap s
  | .cpwmShortCntRead c => Sys2Proof.Machine.execCpwmShortCntRead c s
  | .softOffLeadExpired c => Sys2Proof.Machine.execSoftOffLeadExpired c s
  | .softOffHoldExpired c => Sys2Proof.Machine.execSoftOffHoldExpired c s
  | .trip c inp active => Sys2Proof.Machine.execTrip c inp active s
  | .ctrpFiltWrite c n val => Sys2Proof.Machine.execCtrpFiltWrite c n val s
  | .rearm c => Sys2Proof.Machine.execRearm c s
  | .ctrpClear c val => Sys2Proof.Machine.execCtrpClear c val s
  | .firePulseTimer c => Sys2Proof.Machine.execFirePulseTimer c s
  | .coilPulseEnd c => Sys2Proof.Machine.execCoilPulseEnd c s
  | .bypAuxConfirmed c => Sys2Proof.Machine.execBypAuxConfirmed c s
  | .boltConfirmTimeout c => Sys2Proof.Machine.execBoltConfirmTimeout c s
  | .fire c val => Sys2Proof.Machine.execFire c val s
  | .bolt c val => Sys2Proof.Machine.execBolt c val s
  | .release c val => Sys2Proof.Machine.execRelease c val s
  | .cpwmModeLocal c val => Sys2Proof.Machine.execCpwmModeLocal c val s
  | .cpwmModeLatch c val => Sys2Proof.Machine.execCpwmModeLatch c val s
  | .localPeriodStart c => Sys2Proof.Machine.execLocalPeriodStart c s
  | .cpwmPeriodWrite c val => Sys2Proof.Machine.execCpwmPeriodWrite c val s
  | .cpwmDutyWrite c val => Sys2Proof.Machine.execCpwmDutyWrite c val s
  | .compareTrigger c n => Sys2Proof.Machine.execCompareTrigger c n s
  | .laneClockLost c => Sys2Proof.Machine.execLaneClockLost c s
  | .capacitorConversionDone c code => Sys2Proof.Machine.execCapacitorConversionDone c code s
  | .cadcStart c val => Sys2Proof.Machine.execCadcStart c val s
  | .conversionDone c code => Sys2Proof.Machine.execConversionDone c code s
  | .housekeepingConversion c temp vdd33 vret vcore => Sys2Proof.Machine.execHousekeepingConversion c temp vdd33 vret vcore s
  | .pendingRunStart c => Sys2Proof.Machine.execPendingRunStart c s
  | .cadcPrivWrite c val => Sys2Proof.Machine.execCadcPrivWrite c val s
  | .cadcCalReq c val => Sys2Proof.Machine.execCadcCalReq c val s
  | .calibrationSliceStart c => Sys2Proof.Machine.execCalibrationSliceStart c s
  | .calibrationDone c ok => Sys2Proof.Machine.execCalibrationDone c ok s
  | .dsmOutput c data ovl cycle tick => Sys2Proof.Machine.execDsmOutput c data ovl cycle tick s
  | .retentionScrub c addr res => Sys2Proof.Machine.execRetentionScrub c addr res s
  | .retentionSupplyCheck c mv => Sys2Proof.Machine.execRetentionSupplyCheck c mv s
  | .cretWinDataAccess c w => Sys2Proof.Machine.execCretWinDataAccess c w s
  | .sleep c => Sys2Proof.Machine.execSleep c s
  | .retentionSupplyLost c => Sys2Proof.Machine.execRetentionSupplyLost c s
  | .wakeFromOff c => Sys2Proof.Machine.execWakeFromOff c s
  | .wakeFromSleep c => Sys2Proof.Machine.execWakeFromSleep c s
  | .laneEnable e => Sys2Proof.Machine.execLaneEnable e s
  | .laneDisable e => Sys2Proof.Machine.execLaneDisable e s
  | .signalDetected e => Sys2Proof.Machine.execSignalDetected e s
  | .phaseLocked e => Sys2Proof.Machine.execPhaseLocked e s
  | .commaAligned e => Sys2Proof.Machine.execCommaAligned e s
  | .polarityFound e inverted => Sys2Proof.Machine.execPolarityFound e inverted s
  | .laneOrderRead l order skew => Sys2Proof.Machine.execLaneOrderRead l order skew s
  | .linkUp e sn cap => Sys2Proof.Machine.execLinkUp e sn cap s
  | .linkDown e cause => Sys2Proof.Machine.execLinkDown e cause s
  | .laneStateTimeout e => Sys2Proof.Machine.execLaneStateTimeout e s
  | .retrain e val => Sys2Proof.Machine.execRetrain e val s
  | .testFacilityEnable e val => Sys2Proof.Machine.execTestFacilityEnable e val s
  | .testFacilityDisable e val => Sys2Proof.Machine.execTestFacilityDisable e val s
  | .linkAck e seq nak => Sys2Proof.Machine.execLinkAck e seq nak s
  | .retransmitTimeout e => Sys2Proof.Machine.execRetransmitTimeout e s
  | .cdcTimeout e => Sys2Proof.Machine.execCdcTimeout e s
  | .cdcResync e => Sys2Proof.Machine.execCdcResync e s
  | .grantBlock l n g fwd => Sys2Proof.Machine.execGrantBlock l n g fwd s
  | .knockInterval n p => Sys2Proof.Machine.execKnockInterval n p s
  | .probe c body => Sys2Proof.Machine.execProbe c body s
  | .join c body => Sys2Proof.Machine.execJoin c body s
  | .unjoin c body => Sys2Proof.Machine.execUnjoin c body s
  | .knockAnswer l n p body => Sys2Proof.Machine.execKnockAnswer l n p body s
  | .joinFailed l slot => Sys2Proof.Machine.execJoinFailed l slot s
  | .cellLost l slot => Sys2Proof.Machine.execCellLost l slot s
  | .portDownTimeout l n p => Sys2Proof.Machine.execPortDownTimeout l n p s
  | .replace l h => Sys2Proof.Machine.execReplace l h s
  | .doorbell l val => Sys2Proof.Machine.execDoorbell l val s
  | .entryFetched l entry => Sys2Proof.Machine.execEntryFetched l entry s
  | .journalAck l => Sys2Proof.Machine.execJournalAck l s
  | .mramWriteDone l ok => Sys2Proof.Machine.execMramWriteDone l ok s
  | .journalAckTimeout l => Sys2Proof.Machine.execJournalAckTimeout l s
  | .completionWrite l => Sys2Proof.Machine.execCompletionWrite l s
  | .hndCqAckWrite l val => Sys2Proof.Machine.execHndCqAckWrite l val s
  | .hndEnable l => Sys2Proof.Machine.execHndEnable l s
  | .hndDisable l => Sys2Proof.Machine.execHndDisable l s
  | .ringSettingWrite l off val => Sys2Proof.Machine.execRingSettingWrite l off val s
  | .functionLevelReset l => Sys2Proof.Machine.execFunctionLevelReset l s
  | .pcieLinkDown l => Sys2Proof.Machine.execPcieLinkDown l s
  | .completionIrqTimer l => Sys2Proof.Machine.execCompletionIrqTimer l s
  | .echo l h => Sys2Proof.Machine.execEcho l h s
  | .journalRead l h => Sys2Proof.Machine.execJournalRead l h s
  | .formatJournal l h => Sys2Proof.Machine.execFormatJournal l h s
  | .journalFormat l => Sys2Proof.Machine.execJournalFormat l s
  | .remoteRead l h => Sys2Proof.Machine.execRemoteRead l h s
  | .remoteWrite l h => Sys2Proof.Machine.execRemoteWrite l h s
  | .remoteReq part l h w mask off => Sys2Proof.Machine.execRemoteReq part l h w mask off s
  | .remoteRsp l h val => Sys2Proof.Machine.execRemoteRsp l h val s
  | .remoteTimeout l h => Sys2Proof.Machine.execRemoteTimeout l h s
  | .mirror l msg => Sys2Proof.Machine.execMirror l msg s
  | .mirrorLinkUp l => Sys2Proof.Machine.execMirrorLinkUp l s
  | .soloTimeout l => Sys2Proof.Machine.execSoloTimeout l s
  | .releaseFrame n u frame => Sys2Proof.Machine.execReleaseFrame n u frame s
  | .takeover l why => Sys2Proof.Machine.execTakeover l why s
  | .takeoverComplete l => Sys2Proof.Machine.execTakeoverComplete l s
  | .splitGrant l => Sys2Proof.Machine.execSplitGrant l s
  | .hngSwap l h => Sys2Proof.Machine.execHngSwap l h s
  | .plannedExchange l => Sys2Proof.Machine.execPlannedExchange l s
  | .healthReport l => Sys2Proof.Machine.execHealthReport l s
  | .healthReportLate l => Sys2Proof.Machine.execHealthReportLate l s
  | .fault l n rec => Sys2Proof.Machine.execFault l n rec s
  | .cellFault n p body => Sys2Proof.Machine.execCellFault n p body s
  | .fltClear l val => Sys2Proof.Machine.execFltClear l val s
  | .fltClearAll l val => Sys2Proof.Machine.execFltClearAll l val s
  | .afltClear n val => Sys2Proof.Machine.execAfltClear n val s
  | .afltClearAll n val => Sys2Proof.Machine.execAfltClearAll n val s
  | .cfltClear c val => Sys2Proof.Machine.execCfltClear c val s
  | .cfltClearAll c val => Sys2Proof.Machine.execCfltClearAll c val s
  | .faultLineInput part line active => Sys2Proof.Machine.execFaultLineInput part line active s
  | .brokenWire part line readback => Sys2Proof.Machine.execBrokenWire part line readback s
  | .fltInjCause l val => Sys2Proof.Machine.execFltInjCause l val s
  | .afltInjCause n val => Sys2Proof.Machine.execAfltInjCause n val s
  | .cfltInjCause c val => Sys2Proof.Machine.execCfltInjCause c val s
  | .decimatorSample n d sample ovr cycle tick => Sys2Proof.Machine.execDecimatorSample n d sample ovr cycle tick s
  | .decim l n d words => Sys2Proof.Machine.execDecim l n d words s
  | .autoTrigger l => Sys2Proof.Machine.execAutoTrigger l s
  | .postRowsComplete l => Sys2Proof.Machine.execPostRowsComplete l s
  | .recordClosed l => Sys2Proof.Machine.execRecordClosed l s
  | .rearmComplete l => Sys2Proof.Machine.execRearmComplete l s
  | .recArm l h => Sys2Proof.Machine.execRecArm l h s
  | .recStop l h => Sys2Proof.Machine.execRecStop l h s
  | .recForce l h => Sys2Proof.Machine.execRecForce l h s
  | .recDrain l h => Sys2Proof.Machine.execRecDrain l h s
  | .recRelease l h => Sys2Proof.Machine.execRecRelease l h s
  | .safetyTick l a b => Sys2Proof.Machine.execSafetyTick l a b s
  | .tickWatchdog l ns => Sys2Proof.Machine.execTickWatchdog l ns s
  | .channelDisagreement l => Sys2Proof.Machine.execChannelDisagreement l s
  | .ossdDemand l n ch => Sys2Proof.Machine.execOssdDemand l n ch s
  | .discrepancy l n => Sys2Proof.Machine.execDiscrepancy l n s
  | .twoHandTimeout l g => Sys2Proof.Machine.execTwoHandTimeout l g s
  | .resetButtonHeld l n => Sys2Proof.Machine.execResetButtonHeld l n s
  | .releaseOutputPermit l n => Sys2Proof.Machine.execReleaseOutputPermit l n s
  | .outputTestPulse l n readback low => Sys2Proof.Machine.execOutputTestPulse l n readback low s
  | .haspProduce l c => Sys2Proof.Machine.execHaspProduce l c s
  | .haspFrame l net frame => Sys2Proof.Machine.execHaspFrame l net frame s
  | .haspTimeExpectation l c => Sys2Proof.Machine.execHaspTimeExpectation l c s
  | .tripOrderRepeat l => Sys2Proof.Machine.execTripOrderRepeat l s
  | .tripOrderFrame l net frame => Sys2Proof.Machine.execTripOrderFrame l net frame s
  | .tripOrderMatchTimeout l r => Sys2Proof.Machine.execTripOrderMatchTimeout l r s
  | .safCfgLock l val => Sys2Proof.Machine.execSafCfgLock l val s
  | .setpointTarget l h => Sys2Proof.Machine.execSetpointTarget l h s
  | .hold l h => Sys2Proof.Machine.execHold l h s
  | .limits l h => Sys2Proof.Machine.execLimits l h s
  | .mode l h => Sys2Proof.Machine.execMode l h s
  | .preset l h => Sys2Proof.Machine.execPreset l h s
  | .blendExpired l => Sys2Proof.Machine.execBlendExpired l s
  | .keyLoad l h => Sys2Proof.Machine.execKeyLoad l h s
  | .keyLoadDone l => Sys2Proof.Machine.execKeyLoadDone l s
  | .keySwap l h => Sys2Proof.Machine.execKeySwap l h s
  | .planeSwap l => Sys2Proof.Machine.execPlaneSwap l s
  | .keyDiscard l h => Sys2Proof.Machine.execKeyDiscard l h s
  | .keyFallback l h => Sys2Proof.Machine.execKeyFallback l h s
  | .keyRaiseFloor l h => Sys2Proof.Machine.execKeyRaiseFloor l h s
  | .imageTransfer l image => Sys2Proof.Machine.execImageTransfer l image s
  | .begin l h buf => Sys2Proof.Machine.execBegin l h buf s
  | .piece l h buf => Sys2Proof.Machine.execPiece l h buf s
  | .verify l h => Sys2Proof.Machine.execVerify l h s
  | .verifyDone l => Sys2Proof.Machine.execVerifyDone l s
  | .activate l h => Sys2Proof.Machine.execActivate l h s
  | .distribute l h => Sys2Proof.Machine.execDistribute l h s
  | .distributionPieceSend n => Sys2Proof.Machine.execDistributionPieceSend n s
  | .wave l h => Sys2Proof.Machine.execWave l h s
  | .waveNext l => Sys2Proof.Machine.execWaveNext l s
  | .confirm l h => Sys2Proof.Machine.execConfirm l h s
  | .updAbort l h => Sys2Proof.Machine.execUpdAbort l h s
  | .haspSet l h => Sys2Proof.Machine.execHaspSet l h s
  | .haspLift l h buf => Sys2Proof.Machine.execHaspLift l h buf s
  | .haspEnroll l h buf => Sys2Proof.Machine.execHaspEnroll l h buf s
  | .updRaiseFloor l h => Sys2Proof.Machine.execUpdRaiseFloor l h s
  | .updateData part u => Sys2Proof.Machine.execUpdateData part u s
  | .updateHeader part u => Sys2Proof.Machine.execUpdateHeader part u s
  | .updateSelect part u => Sys2Proof.Machine.execUpdateSelect part u s
  | .updateVerify part u => Sys2Proof.Machine.execUpdateVerify part u s
  | .updateActivate part u => Sys2Proof.Machine.execUpdateActivate part u s
  | .updateConfirm part u => Sys2Proof.Machine.execUpdateConfirm part u s
  | .updateAbort part u => Sys2Proof.Machine.execUpdateAbort part u s
  | .updateFloor part u => Sys2Proof.Machine.execUpdateFloor part u s
  | .updateRestartDone c => Sys2Proof.Machine.execUpdateRestartDone c s
  | .trialAgeUpdate part secs => Sys2Proof.Machine.execTrialAgeUpdate part secs s
  | .trialExpired part secs => Sys2Proof.Machine.execTrialExpired part secs s
  | .tileListStart l t => Sys2Proof.Machine.execTileListStart l t s
  | .tileListAbort l t => Sys2Proof.Machine.execTileListAbort l t s
  | .stepNop l t chk => Sys2Proof.Machine.execStepNop l t chk s
  | .stepMov l t chk => Sys2Proof.Machine.execStepMov l t chk s
  | .stepAdd l t chk => Sys2Proof.Machine.execStepAdd l t chk s
  | .stepSub l t chk => Sys2Proof.Machine.execStepSub l t chk s
  | .stepNeg l t chk => Sys2Proof.Machine.execStepNeg l t chk s
  | .stepAbs l t chk => Sys2Proof.Machine.execStepAbs l t chk s
  | .stepMin l t chk => Sys2Proof.Machine.execStepMin l t chk s
  | .stepMax l t chk => Sys2Proof.Machine.execStepMax l t chk s
  | .stepCmp l t chk => Sys2Proof.Machine.execStepCmp l t chk s
  | .stepSel l t chk => Sys2Proof.Machine.execStepSel l t chk s
  | .stepLim l t chk => Sys2Proof.Machine.execStepLim l t chk s
  | .stepMul l t chk => Sys2Proof.Machine.execStepMul l t chk s
  | .stepAccout l t chk => Sys2Proof.Machine.execStepAccout l t chk s
  | .stepMac l t chk => Sys2Proof.Machine.execStepMac l t chk s
  | .stepDiv l t chk => Sys2Proof.Machine.execStepDiv l t chk s
  | .stepSqrt l t chk => Sys2Proof.Machine.execStepSqrt l t chk s
  | .stepSincos l t chk => Sys2Proof.Machine.execStepSincos l t chk s
  | .stepAbc2ab l t chk => Sys2Proof.Machine.execStepAbc2ab l t chk s
  | .stepRot l t chk => Sys2Proof.Machine.execStepRot l t chk s
  | .stepDelay l t chk => Sys2Proof.Machine.execStepDelay l t chk s
  | .stepRateLim l t chk => Sys2Proof.Machine.execStepRateLim l t chk s
  | .stepFilt1 l t chk => Sys2Proof.Machine.execStepFilt1 l t chk s
  | .stepFilt2 l t chk => Sys2Proof.Machine.execStepFilt2 l t chk s
  | .stepLoad l t chk => Sys2Proof.Machine.execStepLoad l t chk s
  | .stepStore l t chk => Sys2Proof.Machine.execStepStore l t chk s
  | .stepSend l t chk => Sys2Proof.Machine.execStepSend l t chk s
  | .channelEntryArrival l t ch => Sys2Proof.Machine.execChannelEntryArrival l t ch s
  | .stepRecv l t chk => Sys2Proof.Machine.execStepRecv l t chk s
  | .stepOut l t chk => Sys2Proof.Machine.execStepOut l t chk s
  | .stepCtld l t chk => Sys2Proof.Machine.execStepCtld l t chk s
  | .stepCtst l t chk => Sys2Proof.Machine.execStepCtst l t chk s
  | .cellTableRequestService l a => Sys2Proof.Machine.execCellTableRequestService l a s
  | .modelWatchAlarm l u => Sys2Proof.Machine.execModelWatchAlarm l u s
  | .modelWatchTrip l u => Sys2Proof.Machine.execModelWatchTrip l u s
  | .scrub l t mem addr res => Sys2Proof.Machine.execScrub l t mem addr res s
  | .tileSelfTest l pass => Sys2Proof.Machine.execTileSelfTest l pass s
  | .tileSpDataAccess l t w => Sys2Proof.Machine.execTileSpDataAccess l t w s
  | .tileSnWrite l t n val => Sys2Proof.Machine.execTileSnWrite l t n val s
  | .cellTableControlWrite l slot w val => Sys2Proof.Machine.execCellTableControlWrite l slot w val s
  | .coreOpReady l p val => Sys2Proof.Machine.execCoreOpReady l p val s
  | .coreOpBlock l p val => Sys2Proof.Machine.execCoreOpBlock l p val s
  | .coreOpYield l p val => Sys2Proof.Machine.execCoreOpYield l p val s
  | .coreOpSetPrio l p val => Sys2Proof.Machine.execCoreOpSetPrio l p val s
  | .coreOpSetAff l p val => Sys2Proof.Machine.execCoreOpSetAff l p val s
  | .coreOpStart l p val => Sys2Proof.Machine.execCoreOpStart l p val s
  | .coreOpStop l p val => Sys2Proof.Machine.execCoreOpStop l p val s
  | .coreOpSwitched l p val => Sys2Proof.Machine.execCoreOpSwitched l p val s
  | .coreNextRead l p => Sys2Proof.Machine.execCoreNextRead l p s
  | .lockstepMismatch l p => Sys2Proof.Machine.execLockstepMismatch l p s
  | .coreSramUecc l p addr => Sys2Proof.Machine.execCoreSramUecc l p addr s
  | .machineTimer l p => Sys2Proof.Machine.execMachineTimer l p s
  | .coreMsix l p val => Sys2Proof.Machine.execCoreMsix l p val s
  | .coreRelease l p val => Sys2Proof.Machine.execCoreRelease l p val s
  | .schTraceDataRead l => Sys2Proof.Machine.execSchTraceDataRead l s
  | .railOutOfRange l rail => Sys2Proof.Machine.execRailOutOfRange l rail s
  | .fullPowerOnReset part => Sys2Proof.Machine.execFullPowerOnReset part s
  | .corePowerOnReset part => Sys2Proof.Machine.execCorePowerOnReset part s
  | .pinReset part => Sys2Proof.Machine.execPinReset part s
  | .pinResetRelease part => Sys2Proof.Machine.execPinResetRelease part s
  | .resetTimerEnd l => Sys2Proof.Machine.execResetTimerEnd l s
  | .bootRomStart l => Sys2Proof.Machine.execBootRomStart l s
  | .concentratorStart n => Sys2Proof.Machine.execConcentratorStart n s
  | .warmReset l val => Sys2Proof.Machine.execWarmReset l val s
  | .holdUpLow l mv => Sys2Proof.Machine.execHoldUpLow l mv s
  | .holdUpNormal l mv => Sys2Proof.Machine.execHoldUpNormal l mv s

end Sys2Proof.Machine
end

