-- ==== Sys2Proof/Safety.lean ====
section
/-! DEFINITION. What the statements speak of: the part a command acts on, completion, what stays as it is, and the canonical form of the maps. -/

namespace Sys2Proof

/-- The part whose state holds a lane end (10_flenor_links.md Table 10.1). -/
def LaneEnd.owner : LaneEnd → Part
  | .uplinkLeaf l _ => .leaf l
  | .mirror l _ => .leaf l
  | .uplinkConc n _ => .conc n
  | .port n _ => .conc n
  | .cell c => .cell c

/-- The part whose state holds a register space; a core's registers are its leaf's (18_cores_and_scheduler.md). -/
def Part.owner : Part → Part
  | .core l _ => .leaf l
  | p => p

/-- The one part that a command acts on. -/
def Instr.part : Instr → Part
  | .registerWrite part _ _ _ => part.owner
  | .invalidRegisterAccess part _ _ _ => part.owner
  | .lowerWordRead part _ => part.owner
  | .ts96LowestWordRead part _ => part.owner
  | .cycleStart l => .leaf l
  | .readyPersistenceMet l => .leaf l
  | .chargeTimeLimitExpires l => .leaf l
  | .charge l _ => .leaf l
  | .deblock l _ => .leaf l
  | .block l _ => .leaf l
  | .clearTrip l _ => .leaf l
  | .synchronousSample c => .cell c
  | .uplinkDeadline l => .leaf l
  | .fabricDoneInstant l => .leaf l
  | .tumblerSelect l _ => .leaf l
  | .predictionMismatch l _ => .leaf l
  | .publishDeadline l => .leaf l
  | .shadowMismatch l => .leaf l
  | .cmpRestored l => .leaf l
  | .budgetCheck l => .leaf l
  | .cycCommit l _ => .leaf l
  | .commitApply l => .leaf l
  | .cycDiscard l _ => .leaf l
  | .groupOpenTimeout l _ => .leaf l
  | .referenceQualified l _ => .leaf l
  | .referenceLost l _ => .leaf l
  | .referenceReverted l => .leaf l
  | .holdoverExpired l => .leaf l
  | .timClkWrite l _ => .leaf l
  | .clockMonitorWindow l _ => .leaf l
  | .rootPllLossOfLock l => .leaf l
  | .mirAlignConverged l => .leaf l
  | .alignHoldExpired l => .leaf l
  | .timeTrigger l _ => .leaf l
  | .ptpEventMessage l _ => .leaf l
  | .timPnRxtagRead l _ => .leaf l
  | .timPnTxtagRead l _ => .leaf l
  | .markerBlock e _ _ _ => e.owner
  | .delayStepConfirmed e => e.owner
  | .markerSend e => e.owner
  | .markerMissing e => e.owner
  | .recordCutoff n _ => .conc n
  | .uplink n _ _ _ => .conc n
  | .uplinkSlot c => .cell c
  | .records l _ _ => .leaf l
  | .sums l _ _ => .leaf l
  | .commandSet n _ _ _ => .conc n
  | .skip n _ _ => .conc n
  | .armInfo n _ _ => .conc n
  | .standby n _ _ => .conc n
  | .replayInstant n _ => .conc n
  | .replayExhausted n => .conc n
  | .silenceGrantMove n => .conc n
  | .controlSlot n _ => .conc n
  | .control c _ _ => .cell c
  | .cellCycleStart c => .cell c
  | .silenceBlock c => .cell c
  | .latchTime c _ => .cell c
  | .cpwmShortCntRead c => .cell c
  | .softOffLeadExpired c => .cell c
  | .softOffHoldExpired c => .cell c
  | .trip c _ _ => .cell c
  | .ctrpFiltWrite c _ _ => .cell c
  | .rearm c => .cell c
  | .ctrpClear c _ => .cell c
  | .firePulseTimer c => .cell c
  | .coilPulseEnd c => .cell c
  | .bypAuxConfirmed c => .cell c
  | .boltConfirmTimeout c => .cell c
  | .fire c _ => .cell c
  | .bolt c _ => .cell c
  | .release c _ => .cell c
  | .cpwmModeLocal c _ => .cell c
  | .cpwmModeLatch c _ => .cell c
  | .localPeriodStart c => .cell c
  | .cpwmPeriodWrite c _ => .cell c
  | .cpwmDutyWrite c _ => .cell c
  | .compareTrigger c _ => .cell c
  | .laneClockLost c => .cell c
  | .capacitorConversionDone c _ => .cell c
  | .cadcStart c _ => .cell c
  | .conversionDone c _ => .cell c
  | .housekeepingConversion c _ _ _ _ => .cell c
  | .pendingRunStart c => .cell c
  | .cadcPrivWrite c _ => .cell c
  | .cadcCalReq c _ => .cell c
  | .calibrationSliceStart c => .cell c
  | .calibrationDone c _ => .cell c
  | .dsmOutput c _ _ _ _ => .cell c
  | .retentionScrub c _ _ => .cell c
  | .retentionSupplyCheck c _ => .cell c
  | .cretWinDataAccess c _ => .cell c
  | .sleep c => .cell c
  | .retentionSupplyLost c => .cell c
  | .wakeFromOff c => .cell c
  | .wakeFromSleep c => .cell c
  | .laneEnable e => e.owner
  | .laneDisable e => e.owner
  | .signalDetected e => e.owner
  | .phaseLocked e => e.owner
  | .commaAligned e => e.owner
  | .polarityFound e _ => e.owner
  | .laneOrderRead l _ _ => .leaf l
  | .linkUp e _ _ => e.owner
  | .linkDown e _ => e.owner
  | .laneStateTimeout e => e.owner
  | .retrain e _ => e.owner
  | .testFacilityEnable e _ => e.owner
  | .testFacilityDisable e _ => e.owner
  | .linkAck e _ _ => e.owner
  | .retransmitTimeout e => e.owner
  | .cdcTimeout e => e.owner
  | .cdcResync e => e.owner
  | .grantBlock l _ _ _ => .leaf l
  | .knockInterval n _ => .conc n
  | .probe c _ => .cell c
  | .join c _ => .cell c
  | .unjoin c _ => .cell c
  | .knockAnswer l _ _ _ => .leaf l
  | .joinFailed l _ => .leaf l
  | .cellLost l _ => .leaf l
  | .portDownTimeout l _ _ => .leaf l
  | .replace l _ => .leaf l
  | .doorbell l _ => .leaf l
  | .entryFetched l _ => .leaf l
  | .journalAck l => .leaf l
  | .mramWriteDone l _ => .leaf l
  | .journalAckTimeout l => .leaf l
  | .completionWrite l => .leaf l
  | .hndCqAckWrite l _ => .leaf l
  | .hndEnable l => .leaf l
  | .hndDisable l => .leaf l
  | .ringSettingWrite l _ _ => .leaf l
  | .functionLevelReset l => .leaf l
  | .pcieLinkDown l => .leaf l
  | .completionIrqTimer l => .leaf l
  | .echo l _ => .leaf l
  | .journalRead l _ => .leaf l
  | .formatJournal l _ => .leaf l
  | .journalFormat l => .leaf l
  | .remoteRead l _ => .leaf l
  | .remoteWrite l _ => .leaf l
  | .remoteReq part _ _ _ _ _ => part.owner
  | .remoteRsp l _ _ => .leaf l
  | .remoteTimeout l _ => .leaf l
  | .mirror l _ => .leaf l
  | .mirrorLinkUp l => .leaf l
  | .soloTimeout l => .leaf l
  | .releaseFrame n _ _ => .conc n
  | .takeover l _ => .leaf l
  | .takeoverComplete l => .leaf l
  | .splitGrant l => .leaf l
  | .hngSwap l _ => .leaf l
  | .plannedExchange l => .leaf l
  | .healthReport l => .leaf l
  | .healthReportLate l => .leaf l
  | .fault l _ _ => .leaf l
  | .cellFault n _ _ => .conc n
  | .fltClear l _ => .leaf l
  | .fltClearAll l _ => .leaf l
  | .afltClear n _ => .conc n
  | .afltClearAll n _ => .conc n
  | .cfltClear c _ => .cell c
  | .cfltClearAll c _ => .cell c
  | .faultLineInput part _ _ => part.owner
  | .brokenWire part _ _ => part.owner
  | .fltInjCause l _ => .leaf l
  | .afltInjCause n _ => .conc n
  | .cfltInjCause c _ => .cell c
  | .decimatorSample n _ _ _ _ _ => .conc n
  | .decim l _ _ _ => .leaf l
  | .autoTrigger l => .leaf l
  | .postRowsComplete l => .leaf l
  | .recordClosed l => .leaf l
  | .rearmComplete l => .leaf l
  | .recArm l _ => .leaf l
  | .recStop l _ => .leaf l
  | .recForce l _ => .leaf l
  | .recDrain l _ => .leaf l
  | .recRelease l _ => .leaf l
  | .safetyTick l _ _ => .leaf l
  | .tickWatchdog l _ => .leaf l
  | .channelDisagreement l => .leaf l
  | .ossdDemand l _ _ => .leaf l
  | .discrepancy l _ => .leaf l
  | .twoHandTimeout l _ => .leaf l
  | .resetButtonHeld l _ => .leaf l
  | .releaseOutputPermit l _ => .leaf l
  | .outputTestPulse l _ _ _ => .leaf l
  | .haspProduce l _ => .leaf l
  | .haspFrame l _ _ => .leaf l
  | .haspTimeExpectation l _ => .leaf l
  | .tripOrderRepeat l => .leaf l
  | .tripOrderFrame l _ _ => .leaf l
  | .tripOrderMatchTimeout l _ => .leaf l
  | .safCfgLock l _ => .leaf l
  | .setpointTarget l _ => .leaf l
  | .hold l _ => .leaf l
  | .limits l _ => .leaf l
  | .mode l _ => .leaf l
  | .preset l _ => .leaf l
  | .blendExpired l => .leaf l
  | .keyLoad l _ => .leaf l
  | .keyLoadDone l => .leaf l
  | .keySwap l _ => .leaf l
  | .planeSwap l => .leaf l
  | .keyDiscard l _ => .leaf l
  | .keyFallback l _ => .leaf l
  | .keyRaiseFloor l _ => .leaf l
  | .imageTransfer l _ => .leaf l
  | .begin l _ _ => .leaf l
  | .piece l _ _ => .leaf l
  | .verify l _ => .leaf l
  | .verifyDone l => .leaf l
  | .activate l _ => .leaf l
  | .distribute l _ => .leaf l
  | .distributionPieceSend n => .conc n
  | .wave l _ => .leaf l
  | .waveNext l => .leaf l
  | .confirm l _ => .leaf l
  | .updAbort l _ => .leaf l
  | .haspSet l _ => .leaf l
  | .haspLift l _ _ => .leaf l
  | .haspEnroll l _ _ => .leaf l
  | .updRaiseFloor l _ => .leaf l
  | .updateData part _ => part.owner
  | .updateHeader part _ => part.owner
  | .updateSelect part _ => part.owner
  | .updateVerify part _ => part.owner
  | .updateActivate part _ => part.owner
  | .updateConfirm part _ => part.owner
  | .updateAbort part _ => part.owner
  | .updateFloor part _ => part.owner
  | .updateRestartDone c => .cell c
  | .trialAgeUpdate part _ => part.owner
  | .trialExpired part _ => part.owner
  | .tileListStart l _ => .leaf l
  | .tileListAbort l _ => .leaf l
  | .stepNop l _ _ => .leaf l
  | .stepMov l _ _ => .leaf l
  | .stepAdd l _ _ => .leaf l
  | .stepSub l _ _ => .leaf l
  | .stepNeg l _ _ => .leaf l
  | .stepAbs l _ _ => .leaf l
  | .stepMin l _ _ => .leaf l
  | .stepMax l _ _ => .leaf l
  | .stepCmp l _ _ => .leaf l
  | .stepSel l _ _ => .leaf l
  | .stepLim l _ _ => .leaf l
  | .stepMul l _ _ => .leaf l
  | .stepAccout l _ _ => .leaf l
  | .stepMac l _ _ => .leaf l
  | .stepDiv l _ _ => .leaf l
  | .stepSqrt l _ _ => .leaf l
  | .stepSincos l _ _ => .leaf l
  | .stepAbc2ab l _ _ => .leaf l
  | .stepRot l _ _ => .leaf l
  | .stepDelay l _ _ => .leaf l
  | .stepRateLim l _ _ => .leaf l
  | .stepFilt1 l _ _ => .leaf l
  | .stepFilt2 l _ _ => .leaf l
  | .stepLoad l _ _ => .leaf l
  | .stepStore l _ _ => .leaf l
  | .stepSend l _ _ => .leaf l
  | .channelEntryArrival l _ _ => .leaf l
  | .stepRecv l _ _ => .leaf l
  | .stepOut l _ _ => .leaf l
  | .stepCtld l _ _ => .leaf l
  | .stepCtst l _ _ => .leaf l
  | .cellTableRequestService l _ => .leaf l
  | .modelWatchAlarm l _ => .leaf l
  | .modelWatchTrip l _ => .leaf l
  | .scrub l _ _ _ _ => .leaf l
  | .tileSelfTest l _ => .leaf l
  | .tileSpDataAccess l _ _ => .leaf l
  | .tileSnWrite l _ _ _ => .leaf l
  | .cellTableControlWrite l _ _ _ => .leaf l
  | .coreOpReady l _ _ => .leaf l
  | .coreOpBlock l _ _ => .leaf l
  | .coreOpYield l _ _ => .leaf l
  | .coreOpSetPrio l _ _ => .leaf l
  | .coreOpSetAff l _ _ => .leaf l
  | .coreOpStart l _ _ => .leaf l
  | .coreOpStop l _ _ => .leaf l
  | .coreOpSwitched l _ _ => .leaf l
  | .coreNextRead l _ => .leaf l
  | .lockstepMismatch l _ => .leaf l
  | .coreSramUecc l _ _ => .leaf l
  | .machineTimer l _ => .leaf l
  | .coreMsix l _ _ => .leaf l
  | .coreRelease l _ _ => .leaf l
  | .schTraceDataRead l => .leaf l
  | .railOutOfRange l _ => .leaf l
  | .fullPowerOnReset part => part.owner
  | .corePowerOnReset part => part.owner
  | .pinReset part => part.owner
  | .pinResetRelease part => part.owner
  | .resetTimerEnd l => .leaf l
  | .bootRomStart l => .leaf l
  | .concentratorStart n => .conc n
  | .warmReset l _ => .leaf l
  | .holdUpLow l _ => .leaf l
  | .holdUpNormal l _ => .leaf l

namespace Machine

/-- Every part but `p`, and the queue, are the same in two states. -/
def sameBut (p : Part) (s t : State) : Prop :=
  t.pending = s.pending ∧ (∀ l, p ≠ .leaf l → t.leaf l = s.leaf l) ∧ (∀ n, p ≠ .conc n → t.conc n = s.conc n) ∧
  ∀ c, p ≠ .cell c → t.cell c = s.cell c

/-- The numbers of concentrators and cells are in canonical form: keys rise, none stands for a part as reset leaves it, and every key is the
number of a part. -/
def State.partsOk (s : State) : Bool :=
  SMap.wf {} s.concs && SMap.wf {} s.cells && s.concs.all (fun p => decide (p.1 < 48)) && s.cells.all (fun p => decide (p.1 < 12288))


/-! ## What the statements say of a command and its effect -/

/-- The command answers a next state that differs from `s` in leaf `l` alone, and `P` holds of the leaf before and after. -/
def LeafDoes (i : Instr) (s : State) (l : LeafId) (P : Leaf → Leaf → Prop) : Prop := ∃ e, exec i s = .next (s.setLeaf l e) ∧ P (s.leaf l) e

/-- The same of a concentrator, and of a cell. -/
def ConcDoes (i : Instr) (s : State) (n : Conc) (P : Concentrator → Concentrator → Prop) : Prop :=
  ∃ e, exec i s = .next (s.setConc n e) ∧ P (s.conc n) e
def CellDoes (i : Instr) (s : State) (c : CellId) (P : Cell → Cell → Prop) : Prop := ∃ e, exec i s = .next (s.setCell c e) ∧ P (s.cell c) e

/-- Every register field whose key is not listed reads as before. -/
def Leaf.Keeps (ks : List Nat) (d e : Leaf) : Prop := ∀ (g : Fld) (j : Nat), g.key j ∉ ks → e.rd g j = d.rd g j
def Concentrator.Keeps (ks : List Nat) (d e : Concentrator) : Prop := ∀ (g : Fld) (j : Nat), g.key j ∉ ks → e.rd g j = d.rd g j
def Cell.Keeps (ks : List Nat) (d e : Cell) : Prop := ∀ (g : Fld) (j : Nat), g.key j ∉ ks → e.rd g j = d.rd g j

/-- Every register field reads as before whose key is not listed and whose register lies in none of the blocks, each given by its first offset
and the first one behind it. -/
def Leaf.KeepsOut (ks : List Nat) (bs : List (Nat × Nat)) (d e : Leaf) : Prop :=
  ∀ (g : Fld) (j : Nat), g.key j ∉ ks → (∀ b ∈ bs, g.key j < 32 * b.1 ∨ 32 * b.2 ≤ g.key j) → e.rd g j = d.rd g j
def Concentrator.KeepsOut (ks : List Nat) (bs : List (Nat × Nat)) (d e : Concentrator) : Prop :=
  ∀ (g : Fld) (j : Nat), g.key j ∉ ks → (∀ b ∈ bs, g.key j < 32 * b.1 ∨ 32 * b.2 ≤ g.key j) → e.rd g j = d.rd g j
def Cell.KeepsOut (ks : List Nat) (bs : List (Nat × Nat)) (d e : Cell) : Prop :=
  ∀ (g : Fld) (j : Nat), g.key j ∉ ks → (∀ b ∈ bs, g.key j < 32 * b.1 ∨ 32 * b.2 ≤ g.key j) → e.rd g j = d.rd g j

/-- What a reset leaves of the registers: apart from the keys listed, a field reads as before where `p` keeps its offset and lowest bit, and its
reset value elsewhere (19_power_reset_startup.md Table 19.3). -/
def Leaf.ResetOut (p : Nat → Nat → Bool) (ks : List Nat) (d e : Leaf) : Prop :=
  ∀ (g : Fld) (j : Nat), g.key j ∉ ks → e.rd g j = if p (g.key j / 32) (g.key j % 32) then d.rd g j else g.rst
def Concentrator.ResetOut (p : Nat → Nat → Bool) (ks : List Nat) (d e : Concentrator) : Prop :=
  ∀ (g : Fld) (j : Nat), g.key j ∉ ks → e.rd g j = if p (g.key j / 32) (g.key j % 32) then d.rd g j else g.rst

/-- The same of a cell, which keeps the fields listed (09_cell_measurement_and_sleep.md Table 9.6); of the registers in the blocks nothing is
said. -/
def Cell.ResetOut (fs : List Fld) (ks : List Nat) (bs : List (Nat × Nat)) (d e : Cell) : Prop :=
  (∀ f ∈ fs, f.key 0 ∉ ks → e.rd f = d.rd f % 2 ^ f.w) ∧
  ∀ (g : Fld) (j : Nat), g.key j ∉ fs.map (·.key 0) → g.key j ∉ ks → (∀ b ∈ bs, g.key j < 32 * b.1 ∨ 32 * b.2 ≤ g.key j) → e.rd g j = g.rst

/-- The blocks of BAR0 (00_scope.md Table 0.10), each by its first offset and the first one behind it. -/
def timBlock : Nat × Nat := (0x10000, 0x20000)
def cycBlock : Nat × Nat := (0x20000, 0x30000)
def tumBlock : Nat × Nat := (0x30000, 0x40000)
def fabBlock : Nat × Nat := (0x40000, 0x50000)
def keyBlock : Nat × Nat := (0x200000, 0x210000)
def profBlock : Nat × Nat := (0x210000, 0x220000)
def lnkBlock : Nat × Nat := (0x220000, 0x230000)
def mirBlock : Nat × Nat := (0x230000, 0x240000)
def discBlock : Nat × Nat := (0x240000, 0x250000)
def hndBlock : Nat × Nat := (0x250000, 0x260000)
def hngBlock : Nat × Nat := (0x260000, 0x270000)
def fltBlock : Nat × Nat := (0x270000, 0x280000)
def recBlock : Nat × Nat := (0x280000, 0x290000)
def safBlock : Nat × Nat := (0x290000, 0x2A0000)
def updBlock : Nat × Nat := (0x2A0000, 0x2B0000)
def schBlock : Nat × Nat := (0x2B0000, 0x2C0000)
def pwrBlock : Nat × Nat := (0x2C0000, 0x2D0000)
def tileBlock : Nat × Nat := (0x100000, 0x200000)
def cellTable : Nat × Nat := (0x400000, 0x460000)

/-- The register fields that giving up control changes besides (13_the_hinge.md R433). -/
def giveUpKeys : List Nat :=
  [Reg.HNG_STATUS_ROLE.key 0, Reg.HNG_CAUSE_CYCLE.key 0, Reg.HNG_CAUSE_VALID.key 0, Reg.HNG_CAUSE_CAUSE.key 0, Reg.HND_STATUS_ROLE.key 0,
   Reg.TIM_CLK_STATUS_MIR_ALIGN.key 0]

/-- The register that a journal record of a command changes (12_host_interface_and_handles.md R409), and those that a change of the converter
state changes as well (01_architecture.md R34; 04_tumblers_and_arm_modulation.md R161). -/
def jrnlKeys : List Nat := [Reg.HND_JRNL_LIVE.key 0]
def convKeys : List Nat := Reg.CYC_STATUS_CONV_STATE.key 0 :: jrnlKeys ++ (List.range 6).map Reg.TUM_STANDSTILL_ISO.key

/-- The register fields that a fault of a leaf can change: its counters, summary bits and lines, and the latch (14_faults.md Tables 14.5a, 14.10). -/
def faultKeys : List Nat :=
  [Reg.FLT_CNT_MERGED.key 0, Reg.FLT_CNT_LOST.key 0, Reg.FLT_STATUS_RING_OVF.key 0, Reg.FLT_STATUS_TRIP_OPEN.key 0,
   Reg.FLT_STATUS_ALARM_OPEN.key 0, Reg.FLT_RING_OPEN.key 0, Reg.FLT_RING_HELD.key 0, Reg.FLT_REC_SEL_HEAD.key 0, Reg.FLT_LINES_LEVEL.key 0,
   Reg.FLT_DBOLT_CODE.key 0, Reg.FLT_DBOLT_VALID.key 0, Reg.FLT_STATUS_DEADBOLT.key 0]

/-- The register fields that a fault of a concentrator can change. -/
def concFaultKeys : List Nat :=
  [Reg.AFLT_STATUS_LOST.key 0, Reg.AFLT_STATUS_TRIP_OPEN.key 0, Reg.AFLT_STATUS_ALARM_OPEN.key 0, Reg.AFLT_REC_SEL_HEAD.key 0,
   Reg.AFLT_LINES_LEVEL.key 0, Reg.AFLT_STATUS_DEADBOLT.key 0]

/-- The register fields that a fault of a cell can change, and the blocks of a cell that its switches, its trip, its bypass and its measurement
change (08_cell_switching.md, 09_cell_measurement_and_sleep.md, their register tables). -/
def cellFaultKeys : List Nat := [Reg.CRET_LOG_IDX_HEAD.key 0, Reg.CFLT_STATUS_TRIP_OPEN.key 0, Reg.CFLT_STATUS_ALARM_OPEN.key 0]
def cpwmBlock : Nat × Nat := (0x100, 0x200)
def ctrpBlock : Nat × Nat := (0x200, 0x280)
def cbypBlock : Nat × Nat := (0x280, 0x300)
def cadcBlock : Nat × Nat := (0x300, 0x3A0)

/-- The register fields that show the stores of a leaf, and the firmware of a concentrator and of a cell (17_updates.md Tables 17.11 to 17.13). -/
def ptrKeys : List Nat :=
  [Reg.UPD_BOOT_BOOTS.key 0, Reg.UPD_BOOT_FELL_BACK.key 0, Reg.UPD_BOOT_TRIAL.key 0, Reg.UPD_BOOT_WARD.key 0, Reg.UPD_BOOT_AGE_AGE.key 0,
   Reg.UPD_KPTR_BOOTS.key 0, Reg.UPD_KPTR_FELL_BACK.key 0, Reg.UPD_KPTR_TRIAL.key 0, Reg.UPD_KPTR_WARD.key 0, Reg.UPD_KPTR_AGE_AGE.key 0,
   Reg.KEY_STATUS_TRIAL.key 0]
def sessKeys (k : Nat) : List Nat :=
  [Reg.UPD_Sk_STATE_STATE.key (k - 1), Reg.UPD_Sk_STATE_STORED.key (k - 1), Reg.UPD_Sk_STATE_PIECES.key (k - 1), Reg.UPD_Sk_VER_VALUE.key (k - 1),
   Reg.UPD_Sk_SEC_VALUE.key (k - 1)]
def wardKeys : List Nat :=
  [Reg.KEY_WARD_PTR.key 0, Reg.KEY_WARD_A_VALID.key 0, Reg.KEY_WARD_B_VALID.key 0, Reg.KEY_WARD_A_BUSY.key 0, Reg.KEY_WARD_B_BUSY.key 0,
   Reg.KEY_WARDA_VER_VALUE.key 0, Reg.KEY_WARDA_SEC_VALUE.key 0, Reg.KEY_WARDB_VER_VALUE.key 0, Reg.KEY_WARDB_SEC_VALUE.key 0]
def showKeys : List Nat := ptrKeys ++ wardKeys ++ sessKeys 1 ++ sessKeys 2 ++ sessKeys 3 ++ sessKeys 4
def concFwKeys : List Nat :=
  [Reg.AID_FW_STATUS_BOOTS.key 0, Reg.AID_FW_STATUS_SESSION.key 0, Reg.AID_FW_STATUS_TRIAL.key 0, Reg.AID_FW_STATUS_RUN_BANK.key 0,
   Reg.AID_FW_RUN_VERSION.key 0, Reg.AID_FW_IDLE_VERSION.key 0]
def cellFwKeys : List Nat :=
  [Reg.CUPD_STATUS_BOOTS.key 0, Reg.CUPD_STATUS_SESSION.key 0, Reg.CUPD_STATUS_TRIAL.key 0, Reg.CUPD_STATUS_RUN_BANK.key 0,
   Reg.CUPD_VER_RUN_VERSION.key 0, Reg.CUPD_VER_IDLE_VERSION.key 0, Reg.CUPD_SESSION_TAG.key 0, Reg.CUPD_PIECES_STORED.key 0,
   Reg.CUPD_PIECES_PIECES.key 0, Reg.CUPD_TRIAL_AGE_AGE.key 0]

/-- The register fields that a wake of a cell sets besides (R344, R345). -/
def wakeKeys : List Nat :=
  [(Reg.XX_CTL_EN.at 0x400).key 0, (Reg.XX_STATE_STATE.at 0x400).key 0, Reg.CADC_CAL_REQ.key 0, Reg.CBYP_STATUS_BOLTED.key 0,
   Reg.CBYP_STATUS_FIRED.key 0, Reg.CBYP_CNT_PULSES.key 0, Reg.CRET_STATUS_VALID.key 0, Reg.CRET_STATUS_FROM_OFF.key 0,
   Reg.CRET_STATUS_WAKES.key 0] ++ cellFaultKeys ++ cellFwKeys

/-- The register fields that a change of the grant sets (13_the_hinge.md Tables 13.7, 13.14; 02_clocks_and_time.md R56). -/
def grantKeys : List Nat :=
  [Reg.AGRT_STATUS_GRANT.key 0, Reg.AGRT_STATUS_MISS.key 0, Reg.AGRT_STATUS_PEND_VALID.key 0, Reg.AGRT_LAST_CYCLE.key 0,
   Reg.AGRT_LAST_CAUSE.key 0, Reg.AGRT_STATUS_MOVED.key 0, Reg.AGRT_CNT_MOVES.key 0, Reg.ATIM_STATUS_LOCK.key 0, Reg.ATIM_STATUS_REF.key 0,
   Reg.ATIM_STATUS_HOLD_SEEN.key 0, Reg.ATIM_STATUS_REF_SWITCHED.key 0]

/-- The register fields that show the hinge, and those that a change of role sets (13_the_hinge.md Tables 13.1, 13.2; 02_clocks_and_time.md R59,
R71). -/
def hngShowKeys : List Nat := [Reg.HNG_STATUS_STANDING_BY.key 0, Reg.HNG_HEALTH_SUMMARY.key 0]
def roleKeys : List Nat :=
  [Reg.HNG_STATUS_ROLE.key 0, Reg.HND_STATUS_ROLE.key 0, Reg.TIM_STATUS_FOLLOWING.key 0, Reg.TIM_CLK_STATUS_MIR_ALIGN.key 0] ++ hngShowKeys
def isoKeys : List Nat := (List.range 6).map Reg.TUM_STANDSTILL_ISO.key

/-- The register fields that show the recorder's geometry and free segments (15_disturbance_recorder.md). -/
def recShowKeys : List Nat := [Reg.REC_ROW_MAXF.key 0, Reg.REC_ROW_ROW_BYTES.key 0, Reg.REC_CAP_CAP.key 0, Reg.REC_SEGSTAT_FREE.key 0]

/-- The register fields of the safety block that its outputs, a tick and a fault of the block change; none of them is of the locked configuration
(16_personnel_safety.md). -/
def safOutKeys : List Nat := [Reg.SAF_STATUS_DEMAND.key 0, Reg.SAF_OUT_ON.key 0, Reg.SAF_OUT_READBACK.key 0]
def safTickKeys : List Nat :=
  [Reg.SAF_IN_A_LEVEL.key 0, Reg.SAF_IN_B_LEVEL.key 0, Reg.SAF_IN_RUN_MAP.key 0, Reg.SAF_IN_DISC_MAP.key 0, Reg.SAF_GRP_STATE_STATE.key 0,
   Reg.SAF_STATUS_RESET_REFUSED.key 0, Reg.SAF_CNT_RESETS.key 0, Reg.SAF_CNT_REFUSED.key 0] ++ safOutKeys ++ faultKeys
def chanKeys : List Nat := Reg.SAF_STATUS_CHAN_FAULT.key 0 :: Reg.SAF_STATUS_RUNNING.key 0 :: safOutKeys ++ faultKeys

/-- The register fields that a load of a keying image sets (06_keying_image.md R220 to R223). -/
def loadKeys : List Nat :=
  [Reg.KEY_STATUS_SHD_STATE.key 0, Reg.KEY_STATUS_HITLESS.key 0, Reg.KEY_STATUS_SHADOW_LOST.key 0, Reg.KEY_SHD_VER_VALUE.key 0,
   Reg.KEY_SHD_SEC_VALUE.key 0, Reg.KEY_ERR_VALID.key 0, Reg.KEY_ERR_CHECK.key 0, Reg.KEY_ERR_SECTION.key 0, Reg.KEY_ERR_OFS_OFFSET.key 0]

/-- The fault store of `e` is that of `d` with the error entered: merged, stored, or lost (14_faults.md R449, R454, R457). -/
def Leaf.Raised (d e : Leaf) (code : Nat) (cls : FaultClass) (inst cause detail : Nat) : Prop :=
  e.flt = (FltStore.add 1024 10 d.flt (d.errorRec code cls inst cause detail false)).1
def Concentrator.Raised (n : Conc) (d e : Concentrator) (code : Nat) (cls : FaultClass) (inst cause detail : Nat) : Prop :=
  e.flt = (FltStore.add 16 4 d.flt (d.errorRec n code cls inst cause detail)).1

/-- The event log and the fault counters of `e` are those of `d` with the error entered (09_cell_measurement_and_sleep.md R341; 14_faults.md R454,
R467). -/
def Cell.Raised (c : CellId) (d e : Cell) (code : Nat) (cls : FaultClass) (cause detail : Nat) : Prop :=
  e.ret.log = (d.raiseRec c (d.errorRec code cls cause detail)).ret.log ∧
    e.ret.counters = (d.raiseRec c (d.errorRec code cls cause detail)).ret.counters

/-- A warm reset of a leaf with its cause (19_power_reset_startup.md R578, R579, Tables 19.3, 19.7): what is kept stands as it was, and the rest
is as reset leaves it. The always-on store is stated beside. -/
def Leaf.WarmReset (cause : Nat) (d e : Leaf) : Prop :=
  Leaf.ResetOut (fun off lo => isOneOf (storedFields ++ latchFields ++ lockedFields ++ warmFields) off lo || warmBlock off lo)
    (showKeys ++ [Reg.PWR_CNT_WARM.key 0, Reg.PWR_STATUS_CAUSE.key 0, Reg.PWR_STATUS_STAGE.key 0, Reg.HNG_STATUS_PARTNER_UP.key 0] ++
       recShowKeys ++ faultKeys) d e ∧
  e.rd Reg.PWR_STATUS_CAUSE = cause ∧ e.rd Reg.PWR_STATUS_STAGE = 1 ∧ e.rd Reg.PWR_CNT_WARM = min (d.rd Reg.PWR_CNT_WARM + 1) 65535 ∧
  e.rd Reg.FLT_STATUS_DEADBOLT = d.rd Reg.FLT_STATUS_DEADBOLT ∧
  e = { ident := d.ident, bank := e.bank, out := e.out, freeIdx := d.freeIdx, lanes := d.lanes, upd := e.upd,
        hnd := { mram := d.hnd.mram, jnext := d.hnd.jnext }, flt := d.flt, saf := d.saf, tiles := e.tiles,
        tim := { c := d.tim.c, holdFrom := d.tim.holdFrom, ofs := d.tim.ofs, cyc := d.tim.cyc, meas := d.tim.meas, slips := d.tim.slips, starts := d.tim.starts, gerr := d.tim.gerr },
        key := { keptState := d.key.active.map (·.stateHash) }, disc := { caps := d.disc.caps, partnerSn := d.disc.partnerSn },
        rcd := { mem := d.rcd.mem, segs := e.rcd.segs, closing := e.rcd.closing }, sch := e.sch, hng := { partner := d.hng.partner },
        conv := { since := d.tim.cyc, boltPend := d.is Reg.FLT_STATUS_DEADBOLT }, pwr := { step := 3, upAt := d.tim.c } }

/-- An accepted command of a class and opcode whose turn has come, on an active leaf outside DEADBOLTED (12_host_interface_and_handles.md
R406, R417). -/
def Leaf.Waits (d : Leaf) (h : Handle) (cls op : Nat) (c : Cmd) : Prop :=
  d.cmd h = some c ∧ c.cls = cls ∧ c.op = op ∧ c.effective = false ∧ c.decided = false ∧ d.turn h cls = true ∧ d.active = true ∧
    d.conv.st ≠ .deadbolted

/-- Its effect was announced for a boundary that has come (R412). -/
def Leaf.WaitsDue (d : Leaf) (h : Handle) (cls op : Nat) (c : Cmd) : Prop := d.Waits h cls op c ∧ c.due d.tim.cyc = true

/-- The command of handle `h` has a decided completion with this status, RESULT and DETAIL (R400, Table 12.4). -/
def Leaf.Answered (d : Leaf) (h : Handle) (status result detail : Nat) : Prop :=
  ∃ q ∈ d.hnd.compl, q.handle = h ∧ q.status = status ∧ q.result = result % 2 ^ 32 ∧ q.detail = detail % 2 ^ 32

/-- The register bank of the part that holds a lane end, and the state with another one in its place. -/
def State.laneBank (s : State) (e : LaneEnd) : SMap Nat :=
  match e with
  | .uplinkLeaf l _ => (s.leaf l).bank
  | .mirror l _ => (s.leaf l).bank
  | .uplinkConc n _ => (s.conc n).bank
  | .port n _ => (s.conc n).bank
  | .cell c => (s.cell c).bank
def State.setLaneBank (s : State) (e : LaneEnd) (b : SMap Nat) : State :=
  match e with
  | .uplinkLeaf l _ => s.setLeaf l { s.leaf l with bank := b }
  | .mirror l _ => s.setLeaf l { s.leaf l with bank := b }
  | .uplinkConc n _ => s.setConc n { s.conc n with bank := b }
  | .port n _ => s.setConc n { s.conc n with bank := b }
  | .cell c => s.setCell c { s.cell c with bank := b }

/-- A cell's lane runs while the cell runs; the other lanes always do. -/
def State.laneRuns (s : State) (e : LaneEnd) : Bool := match e with | .cell c => decide ((s.cell c).pow = .run) | _ => true

/-- A field of a lane's register set. -/
def State.lane (s : State) (e : LaneEnd) (f : Fld) : Nat := bankRd (s.laneBank e) (f.at (laneBase e)) 0

/-- The keys of fields of a lane's register set. -/
def laneKeys (e : LaneEnd) (fs : List Fld) : List Nat := fs.map fun f => (f.at (laneBase e)).key 0

/-- The command answers a next state in which, of all the machine, only register fields of the lane that are listed are changed, and `P` holds
of it. -/
def LaneSets (i : Instr) (s : State) (e : LaneEnd) (fs : List Fld) (P : State → Prop) : Prop :=
  ∃ b, exec i s = .next (s.setLaneBank e b) ∧ P (s.setLaneBank e b) ∧
    ∀ (g : Fld) (j : Nat), g.key j ∉ laneKeys e fs → bankRd b g j = bankRd (s.laneBank e) g j

/-- The command answers a next state in which only the lane's own part is changed, and `P` holds of it. -/
def LaneTakes (i : Instr) (s : State) (e : LaneEnd) (P : State → Prop) : Prop := ∃ t, exec i s = .next t ∧ sameBut e.owner s t ∧ P t

/-! ## A step of a tile -/

/-- Tile `t` runs the list of cycle `k` and stands at a step with word `w` (05_control_fabric.md R168, Table 5.2). -/
def Leaf.StepAt (d : Leaf) (t k w : Nat) : Prop := (d.tile t).run = some k ∧ SMap.get 0 (d.tile t).steps (d.tile t).pc = w

/-- The register fields of tile `t` and of the fabric that a step and the end of a list can change. -/
def stepKeys (t : Nat) : List Nat :=
  [Reg.TILE_STATUS_SAT.key t, Reg.TILE_STATUS_ACC_OVF.key t, Reg.TILE_STATUS_DIV_ZERO.key t, Reg.TILE_STATUS_SQRT_NEG.key t,
   Reg.TILE_STATUS_RESERVE.key t, Reg.TILE_FLAG_STEP_CYCLE.key t, Reg.TILE_FLAG_STEP_STEP.key t, Reg.TILE_FLAG_STEP_VALID.key t,
   Reg.TILE_TIME_LAST.key t, Reg.TILE_TIME_MAX.key t, Reg.TILE_ACC_LO_ACC.key t, Reg.TILE_ACC_HI_ACC.key t, Reg.TILE_IC_DISCARD.key t,
   Reg.FAB_LOAD_TILE.key 0, Reg.FAB_LOAD_MAX.key 0, Reg.FAB_STATUS_RESERVE.key 0]

/-- The register fields that an error in tile `t` or in one of its memories changes (R204, R205), the fault apart. -/
def tileErrKeys (t : Nat) : List Nat :=
  [Reg.TILE_STATUS_UECC.key t, Reg.TILE_STATUS_SELFCHK.key t, Reg.TILE_ECC_UNCORR.key t, Reg.FAB_STATUS_UECC_SEEN.key 0,
   Reg.FAB_STATUS_SELFCHK.key 0, Reg.FAB_ECC_COUNT.key 0, Reg.FAB_ECC_TILE.key 0, Reg.FAB_ECC_MEM.key 0]

/-- The step of tile `t` has run for `cost` cycles: `f` is what it does to the tile besides moving on, or ending the list after its last step;
scratchpad words written by the step before are readable from now on (R183). Outside the tiles and the fabric only what a fault changes may
differ. -/
def Leaf.StepMoves (d e : Leaf) (t cost : Nat) (f : TileSt → TileSt) : Prop :=
  e.tile t = { f { d.tile t with spOld := [] } with
    pc := (d.tile t).pc + 1, spent := (d.tile t).spent + cost,
    run := if d.rd Reg.TILE_LIST_STEPS t ≤ (d.tile t).pc + 1 then none else (d.tile t).run,
    lastDone := if d.rd Reg.TILE_LIST_STEPS t ≤ (d.tile t).pc + 1 then (d.tile t).run else (d.tile t).lastDone } ∧
  Leaf.Keeps (stepKeys t ++ faultKeys) d e ∧
  e = { d with bank := e.bank, tiles := e.tiles, fab := e.fab, flt := e.flt, conv := e.conv, out := e.out }

/-- The same, and the other tiles and the ports are as before. -/
def Leaf.StepDone (d e : Leaf) (t cost : Nat) (f : TileSt → TileSt) : Prop :=
  d.StepMoves e t cost f ∧ (∀ i ≠ t, e.tile i = d.tile i) ∧ e.fab = { d.fab with loads := e.fab.loads }

/-- The register fields that show the scheduler and its trace (18_cores_and_scheduler.md R560 to R565). -/
def schKeys : List Nat :=
  [Reg.SCH_STATUS_OP_ERR.key 0, Reg.SCH_PAIRS_IDLE.key 0, Reg.SCH_PAIRS_PENDING.key 0, Reg.SCH_READY_MAP_MAP.key 0,
   Reg.SCH_CNT_DECISIONS.key 0, Reg.SCH_TRACE_IDX_HEAD.key 0, Reg.SCH_TRACE_IDX_LOST.key 0] ++
  (List.range 4).flatMap fun p => [Reg.SCH_RUNp_VALID.key p, Reg.SCH_RUNp_PRIO.key p, Reg.SCH_RUNp_THREAD.key p]

/-- A tile with a state register, a scratchpad word, or the destination of a word written, saturated to 32 bits (R176, Table 5.3). -/
def TileSt.setReg (x : TileSt) (n : Nat) (v : Int) : TileSt := { x with s := SMap.put 0 x.s (n % 64) (pat 32 (sat32 v).1) }
def TileSt.setSp (x : TileSt) (a : Nat) (v : Int) : TileSt :=
  { x with sp := SMap.put 0 x.sp (a % 4096) (pat 32 (sat32 v).1), spOld := x.spOld ++ [(a % 4096, SMap.get 0 x.sp (a % 4096))] }
def TileSt.setDst (x : TileSt) (w : Nat) (v : Int) : TileSt :=
  match opndOf (stepDst w) with
  | .reg n => x.setReg n v
  | .sp a => x.setSp a v
  | _ => x

/-- The destination of a word can be written. -/
def dstOk (w : Nat) : Bool := match opndOf (stepDst w) with | .reg _ => true | .sp _ => true | _ => false

/-- The command of a step with its operation code and which of its fields A and B are operands (Table 5.5); SEND and RECV apart. -/
def StepRow (l : LeafId) (t : Tile) (chk : StepCheck) (w : Nat) (i : Instr) (op : Nat) (ua ub : Bool) : Prop :=
  (i, op, ua, ub) ∈ [(.stepNop l t chk, 0x00, false, false), (.stepMov l t chk, 0x01, true, false), (.stepAdd l t chk, 0x02, true, true),
   (.stepSub l t chk, 0x03, true, true), (.stepNeg l t chk, 0x04, true, false), (.stepAbs l t chk, 0x05, true, false),
   (.stepMin l t chk, 0x06, true, true), (.stepMax l t chk, 0x07, true, true), (.stepCmp l t chk, 0x08, true, true),
   (.stepSel l t chk, 0x09, true, true), (.stepLim l t chk, 0x0A, true, decide (stepMod w % 2 = 1)), (.stepMul l t chk, 0x0B, true, true),
   (.stepAccout l t chk, 0x0C, false, false), (.stepMac l t chk, 0x0D, true, false), (.stepDiv l t chk, 0x0E, true, true),
   (.stepSqrt l t chk, 0x0F, true, false), (.stepSincos l t chk, 0x10, true, false), (.stepAbc2ab l t chk, 0x11, true, false),
   (.stepRot l t chk, 0x12, true, true), (.stepDelay l t chk, 0x13, true, false), (.stepRateLim l t chk, 0x14, true, false),
   (.stepFilt1 l t chk, 0x15, true, false), (.stepFilt2 l t chk, 0x16, true, false), (.stepLoad l t chk, 0x17, true, false),
   (.stepStore l t chk, 0x18, true, true), (.stepOut l t chk, 0x1B, true, false), (.stepCtld l t chk, 0x1C, true, false),
   (.stepCtst l t chk, 0x1D, true, true)]

end Machine

end Sys2Proof
end

