-- ==== Sys2Proof/Certificates/Slice0/Obligations.lean ====
section
/-! DEFINITION. The statements for the provers. -/

open Sys2Proof Sys2Proof.Machine Sys2Proof.Machine.Reg

/-- The rings of an active leaf: what a doorbell, a ring setting, the enable and the acknowledgement do (12_host_interface_and_handles.md R394,
R395, R401, R404). The definitions behind it follow the model's log entries 11, 12. -/
def Obligations.RingCommandsTakeEffect : Prop :=
  (∀ (s : State) (l : LeafId) (v : Word), (s.leaf l).writable = true →
    LeafDoes (.doorbell l v) s l fun d e =>
      e.rd HND_SQ_TAIL_TAIL = v.toNat % 4096 ∧ e.hnd = { d.hnd with stopped := false } ∧ Leaf.Keeps [HND_SQ_TAIL_TAIL.key 0] d e ∧
      e = { d with bank := e.bank, hnd := e.hnd }) ∧
  (∀ (s : State) (l : LeafId), (s.leaf l).writable = true → (s.leaf l).is HND_CFG_EN = false →
    LeafDoes (.hndEnable l) s l fun d e =>
      e.rd HND_CFG_EN = 1 ∧ e.rd HND_SQ_HEAD_HEAD = d.journalHead % 4096 ∧ e.hnd.cqNext = d.hnd.ack ∧
      Leaf.Keeps [HND_CFG_EN.key 0, HND_SQ_HEAD_HEAD.key 0, HND_CQ_NEXT_LO_VALUE.key 0, HND_CQ_NEXT_HI_VALUE.key 0] d e ∧
      e = { d with bank := e.bank, hnd := e.hnd }) ∧
  (∀ (s : State) (l : LeafId), (s.leaf l).writable = true →
    LeafDoes (.hndDisable l) s l fun d e =>
      e.rd HND_CFG_EN = 0 ∧ Leaf.Keeps [HND_CFG_EN.key 0] d e ∧ e = { d with bank := e.bank }) ∧
  (∀ (s : State) (l : LeafId),
    LeafDoes (.functionLevelReset l) s l fun d e =>
      e.rd HND_CFG_EN = 0 ∧ Leaf.Keeps [HND_CFG_EN.key 0] d e ∧ e = { d with bank := e.bank }) ∧
  (∀ (s : State) (l : LeafId),
    LeafDoes (.pcieLinkDown l) s l fun d e =>
      e.rd HND_CFG_EN = 0 ∧ Leaf.Keeps [HND_CFG_EN.key 0] d e ∧ e = { d with bank := e.bank }) ∧
  (∀ (s : State) (l : LeafId) (v : Word), (s.leaf l).writable = true → (s.leaf l).is HND_CFG_EN = false → (s.leaf l).active = true →
    ringSizeOk (v.toNat % 8192) = true →
    LeafDoes (.ringSettingWrite l 0x250010 v) s l fun d e =>
      e.rd HND_SQ_SIZE_SIZE = v.toNat % 8192 ∧ Leaf.Keeps [HND_SQ_SIZE_SIZE.key 0] d e ∧ e = { d with bank := e.bank }) ∧
  (∀ (s : State) (l : LeafId) (off : Nat) (v : Word), (s.leaf l).writable = true → (s.leaf l).is HND_CFG_EN = true →
    LeafDoes (.ringSettingWrite l off v) s l fun d e =>
      e.rd HND_STATUS_CFG_REFUSED = 1 ∧ Leaf.Keeps [HND_STATUS_CFG_REFUSED.key 0] d e ∧ e = { d with bank := e.bank }) ∧
  (∀ (s : State) (l : LeafId) (v : Word), (s.leaf l).writable = true → (s.leaf l).active = true →
    (s.leaf l).hnd.ack < extendAck (s.leaf l).hnd.ack v.toNat → extendAck (s.leaf l).hnd.ack v.toNat ≤ (s.leaf l).hnd.cqNext →
    LeafDoes (.hndCqAckWrite l v) s l fun d e =>
      e.hnd.ack = extendAck d.hnd.ack v.toNat ∧ e.hnd.compl = d.hnd.compl.filter (e.hnd.ack ≤ ·.cseq) ∧
      Leaf.Keeps [HND_CQ_ACK_CSEQ.key 0, HND_STATUS_CQ_FULL.key 0, HND_JRNL_LIVE.key 0] d e ∧ e = { d with bank := e.bank, hnd := e.hnd })

/-- Acceptance and completion (12_host_interface_and_handles.md R392, R393, R399, R400, R402 to R405): an entry that passes its checks takes the
next handle and waits for its records; the acknowledgement, or the MRAM of a leaf without a standby, accepts it; a decided completion is
written in CSEQ order. The definitions behind it follow the model's log entries 8, 9, 10. -/
def Obligations.AcceptanceAndCompletionTakeEffect : Prop :=
  (∀ (s : State) (l : LeafId), (s.leaf l).is HND_CFG_EN = true → (s.leaf l).hnd.stopped = false → (s.leaf l).hnd.accepting = none →
    (s.leaf l).rd HND_SQ_HEAD_HEAD ≠ (s.leaf l).rd HND_SQ_TAIL_TAIL →
    LeafDoes (.entryFetched l none) s l fun d e =>
      e.rd HND_STATUS_FETCH_FAULT = 1 ∧ e.hnd = { d.hnd with stopped := true } ∧ d.Raised e 0x2501 .alarm 0 0 0 ∧
      Leaf.Keeps (HND_STATUS_FETCH_FAULT.key 0 :: faultKeys) d e ∧ e = { d with bank := e.bank, hnd := e.hnd, flt := e.flt, out := e.out }) ∧
  (∀ (s : State) (l : LeafId) (w : BitVec 512), (s.leaf l).is HND_CFG_EN = true → (s.leaf l).hnd.stopped = false →
    (s.leaf l).rd HND_SQ_HEAD_HEAD ≠ (s.leaf l).rd HND_SQ_TAIL_TAIL → (s.leaf l).active = true → (s.leaf l).hng.takeover = false →
    (s.leaf l).hnd.recordFor 1 ((s.leaf l).rd HND_SQ_HEAD_HEAD) (bits w.toNat 63 32) = none →
    (s.leaf l).hnd.recordFor 2 ((s.leaf l).rd HND_SQ_HEAD_HEAD) (bits w.toNat 63 32) = none →
    (s.leaf l).hnd.live + 64 ≤ 65536 → (s.leaf l).hnd.formatCseq = none → (s.leaf l).hnd.mramBad = false →
    bits w.toNat 31 24 ≠ 0 → bits w.toNat 31 24 ≤ 8 → bits w.toNat 15 0 = 0 → crc32c (leBytes 48 w.toNat) = bits w.toNat 415 384 →
    LeafDoes (.entryFetched l (some w)) s l fun d e =>
      e.hnd.seq = d.hnd.seq + 1 ∧
      e.hnd.accepting = some ⟨bits w.toNat 31 24 * 2 ^ 56 + (d.hnd.seq + 1) % 2 ^ 48, bits w.toNat 31 24, bits w.toNat 23 16,
        bits w.toNat 383 64, d.rd HND_SQ_HEAD_HEAD, bits w.toNat 63 32, bits w.toNat 415 384, d.tim.cyc, none, false, false, none, false⟩ ∧
      Leaf.Keeps [HND_JRNL_LIVE.key 0] d e ∧ e = { d with bank := e.bank, hnd := e.hnd, lanes := e.lanes, out := e.out }) ∧
  (∀ (s : State) (l : LeafId) (c : Cmd), (s.leaf l).hnd.accepting = some c → (s.leaf l).standbyPresent = true → (s.leaf l).active = true →
    (s.leaf l).classAbsent c.cls = false → opcodeOk c.cls c.op = true →
    LeafDoes (.journalAck l) s l fun d e =>
      e.hnd = { d.hnd with cmds := d.hnd.cmds ++ [c], accepting := none, late := false } ∧
      e.rd HND_SQ_HEAD_HEAD = (c.idx + 1) % max 1 d.sqSize % 4096 ∧
      Leaf.Keeps [HND_SQ_HEAD_HEAD.key 0, HND_SEQ_LO_VALUE.key 0, HND_SEQ_HI_VALUE.key 0] d e ∧
      e = { d with bank := e.bank, hnd := e.hnd, lanes := e.lanes, out := e.out }) ∧
  (∀ (s : State) (l : LeafId) (c : Cmd), (s.leaf l).hnd.accepting = some c → (s.leaf l).standbyPresent = false → (s.leaf l).active = true →
    (s.leaf l).classAbsent c.cls = false → opcodeOk c.cls c.op = true →
    LeafDoes (.mramWriteDone l true) s l fun d e =>
      Leaf.Keeps [HND_SQ_HEAD_HEAD.key 0, HND_SEQ_LO_VALUE.key 0, HND_SEQ_HI_VALUE.key 0] d e ∧
      e.hnd = { d.hnd with mramBad := false, cmds := d.hnd.cmds ++ [c], accepting := none, late := false } ∧
      e.rd HND_SQ_HEAD_HEAD = (c.idx + 1) % max 1 d.sqSize % 4096 ∧
      e = { d with bank := e.bank, hnd := e.hnd, lanes := e.lanes, out := e.out }) ∧
  (∀ (s : State) (l : LeafId), (s.leaf l).hnd.accepting = none → (s.leaf l).is HNG_STATUS_PARTNER_STANDING = false →
    LeafDoes (.mramWriteDone l false) s l fun d e =>
      Leaf.Keeps (HND_STATUS_JRNL_FAULT.key 0 :: faultKeys) d e ∧
      e.rd HND_STATUS_JRNL_FAULT = 1 ∧ e.hnd = { d.hnd with mramBad := true } ∧ d.Raised e 0x2502 .alarm 0 0 0 ∧
      e = { d with bank := e.bank, hnd := e.hnd, flt := e.flt, out := e.out }) ∧
  (∀ (s : State) (l : LeafId), (s.leaf l).active = true → (s.leaf l).hnd.accepting.isSome = true → (s.leaf l).standbyPresent = true →
    LeafDoes (.journalAckTimeout l) s l fun d e =>
      e.hnd = { d.hnd with late := true } ∧ e = { d with hnd := e.hnd, lanes := e.lanes, out := e.out }) ∧
  (∀ (s : State) (l : LeafId) (c : Compl), (s.leaf l).is HND_CFG_EN = true → (s.leaf l).active = true → (s.leaf l).hng.takeover = false →
    (s.leaf l).hnd.compl.find? (·.cseq = (s.leaf l).hnd.cqNext) = some c → (s.leaf l).cqFull = false →
    LeafDoes (.completionWrite l) s l fun d e =>
      e.hnd.cqNext = c.cseq + 1 ∧ Out.dma (d.cqBase + 32 * (c.cseq % max 1 d.cqSize)) c.words ∈ e.out ∧
      Leaf.Keeps [HND_CQ_NEXT_LO_VALUE.key 0, HND_CQ_NEXT_HI_VALUE.key 0, HND_STATUS_CQ_FULL.key 0] d e ∧
      e = { d with bank := e.bank, hnd := e.hnd, out := e.out }) ∧
  (∀ (s : State) (l : LeafId), (s.leaf l).rd HND_IRQ_CFG_TIME_US ≠ 0 → (s.leaf l).hnd.unsignalled ≠ 0 →
    LeafDoes (.completionIrqTimer l) s l fun d e => e = { d with hnd := { d.hnd with unsignalled := 0 }, out := d.out ++ [.msix 0] })

/-- What a write makes of a field (00_scope.md R17, Table 0.7): RO and WO keep it, W1C clears and W1S sets the bits written as 1, RW takes the value with
what its table says of it; a write at an offset gives each field there what its access code makes of its own bits and leaves every other field alone,
whatever the list of fields, as long as no two of its fields share a place. The definitions behind it follow the model's log entry 35. -/
def Obligations.AccessCodesAndFieldWrites : Prop :=
  (∀ (f : Fld) (old v mask : Nat),
    (f.acc = .ro ∨ f.acc = .wo → fldWrite f old v mask = old) ∧
    (f.acc = .w1c → ∀ i, (fldWrite f old v mask).testBit i = (old.testBit i && !(v.testBit i && mask.testBit i))) ∧
    (f.acc = .w1s → ∀ i, (fldWrite f old v mask).testBit i = (old.testBit i || (v.testBit i && mask.testBit i))) ∧
    (f.acc = .rw → mask = 0 → fldWrite f old v mask = old) ∧
    (f.acc = .rw → mask ≠ 0 → fldWrite f old v mask = f.fix.apply old (mergeBits old v mask))) ∧
  (∀ (fs : List Fld) (p : Access → Bool) (off v mask : Nat) (b : SMap Nat), fs.Nodup →
    (∀ f ∈ fs, ∀ g ∈ fs, ∀ i j, f.copyAt off = some i → g.copyAt off = some j → f.key i = g.key j → f = g) →
    ((∀ f ∈ fs, ∀ i, f.copyAt off = some i → p f.acc = true →
      bankRd (bankWrite fs p off v mask b) f i = fldWrite f (bankRd b f i) (f.part v) (f.part mask) % 2 ^ f.w) ∧
    (∀ (g : Fld) (j : Nat), (∀ f ∈ fs, ∀ i, f.copyAt off = some i → f.key i ≠ g.key j) →
      bankRd (bankWrite fs p off v mask b) g j = bankRd b g j)))

/-- REGISTER_WRITE on each kind of part, at a register without an effect of its own (00_scope.md R12, R17; 14_faults.md R464): the fields at the
offset take the write and nothing else changes; a part whose deadbolt latch is set, and a core-local block, take what their rules say. The definitions behind it follow the model's log entries 11, 48. -/
def Obligations.RegisterWriteTakesEffect : Prop :=
  (∀ (s : State) (l : LeafId) (ag : Agent) (off : Nat) (v : Word), (s.leaf l).answers off = true → (s.leaf l).absentAt off = false →
    (s.leaf l).is FLT_STATUS_DEADBOLT = false → 0x200000 ≤ off → off < 0x210000 → rwcAt off = [] →
    LeafDoes (.registerWrite (.leaf l) ag off v) s l fun d e =>
      e = { d with bank := bankWrite (vcpFields.map d.fld) plainAcc off v.toNat ones d.bank }) ∧
  (∀ (s : State) (l : LeafId) (ag : Agent) (off : Nat) (v : Word), (s.leaf l).is FLT_STATUS_DEADBOLT = true → off ≠ 0x270000 →
    LeafDoes (.registerWrite (.leaf l) ag off v) s l fun d e => e = d) ∧
  (∀ (s : State) (l : LeafId) (p : Fin 4) (ag : Agent) (v : Word), (s.leaf l).pairRuns p.val = true →
    LeafDoes (.registerWrite (.core l p) ag 0x18 v) s l fun d e =>
      e.mtimecmp p.val = d.mtimecmp p.val / 2 ^ 32 * 2 ^ 32 + v.toNat ∧ e = { d with sch := e.sch, out := e.out }) ∧
  (∀ (s : State) (n : Conc) (ag : Agent) (v : Word), (s.conc n).fw.up = true → (s.conc n).is AFLT_STATUS_DEADBOLT = false →
    ConcDoes (.registerWrite (.conc n) ag 0x708 v) s n fun d e =>
      e = { d with bank := bankWrite concFields plainAcc 0x708 v.toNat ones d.bank }) ∧
  (∀ (s : State) (c : CellId) (ag : Agent) (v : Word), (s.cell c).pow = .run → (s.cell c).is CFLT_STATUS_DEADBOLT = false →
    CellDoes (.registerWrite (.cell c) ag 0x488 v) s c fun d e => e = d.plainWrite 0x488 v.toNat ones) ∧
  (∀ (s : State) (c : CellId) (ag : Agent) (off : Nat) (v : Word), (s.cell c).is CFLT_STATUS_DEADBOLT = true →
    CellDoes (.registerWrite (.cell c) ag off v) s c fun d e => e = d)

/-- Reads of a pair and of a TS96 set (00_scope.md R15, 02_clocks_and_time.md R65): the lowest word is returned and the others are captured;
another word returns its holding copy and leaves it unchanged. An access of another width or alignment (00_scope.md R14) raises its ALARM and reads 0. -/
def Obligations.ReadsAndBadAccesses : Prop :=
  (∀ (s : State) (l : LeafId) (lo hi : Nat), pairOf vcpPairs lo = some (lo, hi) →
    LeafDoes (.lowerWordRead (.leaf l) lo) s l fun d e => e = { d with rdata := d.word lo, hold := SMap.put 0 d.hold hi (d.word hi) }) ∧
  (∀ (s : State) (l : LeafId) (lo hi : Nat), pairOf vcpPairs hi = some (lo, hi) → hi ≠ lo →
    LeafDoes (.lowerWordRead (.leaf l) hi) s l fun d e => e = { d with rdata := SMap.get 0 d.hold hi }) ∧
  (∀ (s : State) (l : LeafId) (b : Nat), pairOf vcpPairs b = none → ts96Base b = some b →
    LeafDoes (.ts96LowestWordRead (.leaf l) b) s l fun d e =>
      e.rdata = d.word b ∧ SMap.get 0 e.hold (b + 4) = d.word (b + 4) ∧ SMap.get 0 e.hold (b + 8) = d.word (b + 8) ∧
      e = { d with rdata := e.rdata, hold := e.hold }) ∧
  (∀ (s : State) (n : Conc) (off : Nat),
    ConcDoes (.lowerWordRead (.conc n) off) s n fun d e => e = { d with rdata := d.word n off }) ∧
  (∀ (s : State) (l : LeafId) (w : Bool) (off width : Nat), ¬(off % 4 = 0 ∧ width = 4) → (s.leaf l).running = true →
    LeafDoes (.invalidRegisterAccess (.leaf l) w off width) s l fun d e =>
      d.Raised e 0x0001 .alarm 0 0 0 ∧ (w = false → e.rdata = 0) ∧ (w = true → e.rdata = d.rdata) ∧ Leaf.Keeps faultKeys d e ∧
      e = { d with bank := e.bank, flt := e.flt, out := e.out, rdata := e.rdata }) ∧
  (∀ (s : State) (n : Conc) (w : Bool) (off width : Nat), ¬(off % 4 = 0 ∧ width = 4) → (s.conc n).fw.up = true →
    ConcDoes (.invalidRegisterAccess (.conc n) w off width) s n fun d e =>
      Concentrator.Raised n d e 0x5001 .alarm 0 0 0 ∧ (w = false → e.rdata = 0) ∧ (w = true → e.rdata = d.rdata) ∧
      Concentrator.Keeps concFaultKeys d e ∧ e = { d with bank := e.bank, flt := e.flt, lanes := e.lanes, out := e.out, rdata := e.rdata })

/-- Cell-table entries beyond the variant's limit (00_scope.md R11): they read as zero and ignore writes. -/
def Obligations.AbsentCellTableEntries : Prop :=
  (∀ (d : Leaf) (off : Nat), 0x400000 ≤ off → off < 0x460000 → d.armLimit ≤ (off - 0x400000) / 32 % 2048 →
    (d.word off = 0 ∧ ∀ (ag : Agent) (v : Word), d.writeAt ag off v = d)) ∧
  (∀ (s : State) (l : LeafId) (slot : Slot) (w : Nat) (v : Word), (s.leaf l).armLimit ≤ slot.val % 2048 → (s.leaf l).slotMapped slot.val = false →
    LeafDoes (.cellTableControlWrite l slot w v) s l fun d e => e = d)

/-- The DIAG commands and remote access (12_host_interface_and_handles.md R414 to R416, Tables 12.9a and 12.10): a remote command goes out as one request while its target's lanes are UP, its response or
its 10 ms complete it, and a target executes a write once per handle and answers every request. The definitions behind it follow the model's log entries 9, 28, 34, 35. -/
def Obligations.DiagAndRemoteCommandsTakeEffect : Prop :=
  (∀ (s : State) (l : LeafId) (h : Handle) (c : Cmd) (n : Conc), (s.leaf l).Waits h 6 1 c → RemoteCmd.ok c c.remote = true →
    c.remote.cell = false → c.remote.target = n.val → (s.leaf l).uplinkUp n.val = true →
    LeafDoes (.remoteRead l h) s l fun d e =>
      e.hnd.remote = d.hnd.remote ++ [⟨h, false⟩] ∧ Leaf.Keeps [HND_JRNL_LIVE.key 0] d e ∧
      e = { d with bank := e.bank, hnd := e.hnd, lanes := e.lanes, out := e.out }) ∧
  (∀ (s : State) (l : LeafId) (h : Handle) (c : Cmd) (n : Conc), (s.leaf l).Waits h 6 2 c → RemoteCmd.ok c c.remote = true →
    c.remote.cell = false → c.remote.target = n.val → (s.leaf l).uplinkUp n.val = true →
    LeafDoes (.remoteWrite l h) s l fun d e =>
      e.hnd.remote = d.hnd.remote ++ [⟨h, true⟩] ∧ Leaf.Keeps [HND_JRNL_LIVE.key 0] d e ∧
      e = { d with bank := e.bank, hnd := e.hnd, lanes := e.lanes, out := e.out }) ∧
  (∀ (s : State) (l : LeafId) (h : Handle) (c : Cmd), (s.leaf l).Waits h 6 1 c → RemoteCmd.ok c c.remote = false →
    LeafDoes (.remoteRead l h) s l fun d e =>
      Leaf.Keeps jrnlKeys d e ∧
      e = { d with bank := e.bank, hnd := e.hnd, lanes := e.lanes, out := e.out } ∧
      e.Answered h stINVALID 0 0) ∧
  (∀ (s : State) (l : LeafId) (h : Handle) (c : Cmd) (v : Word), (s.leaf l).cmd h = some c → c.decided = false → c.op = 2 →
    (s.leaf l).remoteWaits h = true → (s.leaf l).active = true →
    LeafDoes (.remoteRsp l h v) s l fun d e =>
      e.Answered h stDONE v.toNat 0 ∧ e.hnd.remote = d.hnd.remote.filter (·.handle ≠ h) ∧ Leaf.Keeps [HND_JRNL_LIVE.key 0] d e ∧
      e = { d with bank := e.bank, hnd := e.hnd, lanes := e.lanes, out := e.out }) ∧
  (∀ (s : State) (l : LeafId) (h : Handle) (c : Cmd), (s.leaf l).cmd h = some c → c.decided = false →
    (s.leaf l).remoteWaits h = true → (s.leaf l).active = true →
    LeafDoes (.remoteTimeout l h) s l fun d e =>
      e.Answered h stTIMEOUT 0 0 ∧ e.hnd.remote = d.hnd.remote.filter (·.handle ≠ h) ∧ Leaf.Keeps [HND_JRNL_LIVE.key 0] d e ∧
      e = { d with bank := e.bank, hnd := e.hnd, lanes := e.lanes, out := e.out }) ∧
  (∀ (s : State) (n : Conc) (l : LeafId) (h : Handle) (m : Word) (off : Nat), (s.conc n).fw.up = true →
    ConcDoes (.remoteReq (.conc n) l h none m off) s n fun d e =>
      e = d.emit (.frame (.uplinkConc n l) 10 [h, d.word n off])) ∧
  (∀ (s : State) (n : Conc) (l : LeafId) (h : Handle) (v m : Word) (off : Nat) (r : RemoteRes), (s.conc n).fw.up = true →
    (s.conc n).is AFLT_STATUS_DEADBOLT = false → h ≠ 0 → (s.conc n).remote.find? (·.handle = h) = some r →
    ConcDoes (.remoteReq (.conc n) l h (some v) m off) s n fun d e => e = d.emit (.frame (.uplinkConc n l) 10 [h, r.value])) ∧
  (∀ (s : State) (c : CellId) (l : LeafId) (h : Handle) (v m : Word) (off : Nat) (r : RemoteRes), (s.cell c).pow = .run →
    (s.cell c).is CFLT_STATUS_DEADBOLT = false → (s.cell c).remote.find? (·.handle = h) = some r →
    CellDoes (.remoteReq (.cell c) l h (some v) m off) s c fun d e => e = d.emit (.frame (.cell c) 7 [h, r.value])) ∧
  (∀ (s : State) (l : LeafId) (h : Handle) (c : Cmd), (s.leaf l).Waits h 8 1 c →
    LeafDoes (.echo l h) s l fun d e =>
      e.Answered h stDONE (c.par 0 32) c.cycle ∧ Leaf.Keeps [HND_JRNL_LIVE.key 0] d e ∧
      e = { d with bank := e.bank, hnd := e.hnd, lanes := e.lanes, out := e.out }) ∧
  (∀ (s : State) (l : LeafId) (h : Handle) (c : Cmd), (s.leaf l).Waits h 8 2 c → c.par 16 16 ≠ 0 → c.par 16 16 ≤ 4096 →
    LeafDoes (.journalRead l h) s l fun d e =>
      (∃ n, e.Answered h stDONE (c.par 16 16) n) ∧ (∃ ws, Out.dma (c.par 32 64) ws ∈ e.out ∧ ws.length = 8 * c.par 16 16) ∧
      Leaf.Keeps [HND_JRNL_LIVE.key 0] d e ∧ e = { d with bank := e.bank, hnd := e.hnd, lanes := e.lanes, out := e.out }) ∧
  (∀ (s : State) (l : LeafId) (h : Handle) (c : Cmd), (s.leaf l).WaitsDue h 8 3 c → c.par 0 32 = 0x464D544A →
    ((s.leaf l).conv.st = .unkeyed ∨ (s.leaf l).conv.st = .keyedIdle) →
    ((s.leaf l).startCmd h).hnd.journal.any (fun p => ((s.leaf l).startCmd h).hnd.isLive p.1 p.2 && p.2.handle ≠ h) = false →
    LeafDoes (.formatJournal l h) s l fun d e =>
      e.Answered h stDONE 0 0 ∧ e.hnd.formatCseq = some d.hnd.cseq ∧ Leaf.Keeps [HND_JRNL_LIVE.key 0] d e ∧
      e = { d with bank := e.bank, hnd := e.hnd, lanes := e.lanes, out := e.out }) ∧
  (∀ (s : State) (l : LeafId) (q : Nat), (s.leaf l).hnd.formatCseq = some q → q < (s.leaf l).hnd.ack →
    LeafDoes (.journalFormat l) s l fun d e =>
      Leaf.Keeps [HND_CQ_ACK_CSEQ.key 0, HND_SQ_HEAD_HEAD.key 0, HND_CQ_NEXT_LO_VALUE.key 0, HND_CQ_NEXT_HI_VALUE.key 0, HND_SEQ_LO_VALUE.key 0,
        HND_SEQ_HI_VALUE.key 0, HND_JRNL_LIVE.key 0, HND_STATUS_CQ_FULL.key 0] d e ∧
      e.hnd.journal = [] ∧ e.hnd.mram = [] ∧ e.hnd.newest = none ∧ e.hnd.seq = 0 ∧ e.hnd.cseq = 0 ∧ e.hnd.cmds = [] ∧
      e.rd HND_CQ_ACK_CSEQ = 0 ∧ e.rd HND_SQ_HEAD_HEAD = 0 ∧
      e = { d with bank := e.bank, hnd := e.hnd })

/-- The converter's state commands and its two timed transitions (01_architecture.md Table 1.5, R36 to R38, R604, R605). The definitions behind it follow the model's log entries 42, 82. -/
def Obligations.ConverterTransitionsTakeEffect : Prop :=
  (∀ (s : State) (l : LeafId) (h : Handle) (c : Cmd), (s.leaf l).WaitsDue h 1 1 c → (s.leaf l).conv.st = .keyedIdle →
    (s.leaf l).tripPersists = false → (s.leaf l).clearingPend = false → (s.leaf l).conv.deblockWait ≠ some h →
    LeafDoes (.charge l h) s l fun d e =>
      Leaf.Keeps (convKeys ++ faultKeys) d e ∧
      e.conv = { d.conv with st := .charging, since := d.tim.cyc, before := .keyedIdle, deblockWait := none } ∧ e.rd CYC_STATUS_CONV_STATE = 2 ∧ e.Answered h stDONE 0 0 ∧
      e = { d with bank := e.bank, hnd := e.hnd, lanes := e.lanes, out := e.out, conv := e.conv, cyc := e.cyc }) ∧
  (∀ (s : State) (l : LeafId) (h : Handle) (c : Cmd), (s.leaf l).WaitsDue h 1 1 c → (s.leaf l).conv.st ≠ .keyedIdle →
    LeafDoes (.charge l h) s l fun d e =>
      Leaf.Keeps jrnlKeys d e ∧ e = { d with bank := e.bank, hnd := e.hnd, lanes := e.lanes, out := e.out } ∧
      e.conv = d.conv ∧ e.Answered h stREFUSED_STATE 0 0) ∧
  (∀ (s : State) (l : LeafId) (h : Handle) (c : Cmd) (im : Image), (s.leaf l).WaitsDue h 1 2 c → (s.leaf l).key.active = some im →
    (s.leaf l).conv.st = .blockedReady → (s.leaf l).healthyCond im = true → (s.leaf l).tripPersists = false →
    (s.leaf l).clearingPend = false →
    LeafDoes (.deblock l h) s l fun d e =>
      Leaf.Keeps (convKeys ++ faultKeys) d e ∧
      e.conv.st = .deblocked ∧ e.conv.deblockWait = some h ∧ e.rd CYC_STATUS_CONV_STATE = 4 ∧
      e = { d with bank := e.bank, hnd := e.hnd, lanes := e.lanes, out := e.out, conv := e.conv, cyc := e.cyc }) ∧
  (∀ (s : State) (l : LeafId) (h : Handle) (c : Cmd), (s.leaf l).WaitsDue h 1 3 c → (s.leaf l).conv.st = .deblocked →
    LeafDoes (.block l h) s l fun d e =>
      Leaf.Keeps (convKeys ++ faultKeys) d e ∧
      e.conv.st = .blockedReady ∧ e.conv.blockWait = d.conv.blockWait ++ [h] ∧ e.rd CYC_STATUS_CONV_STATE = 3 ∧
      e = { d with bank := e.bank, hnd := e.hnd, lanes := e.lanes, out := e.out, conv := e.conv, cyc := e.cyc }) ∧
  (∀ (s : State) (l : LeafId) (h : Handle) (c : Cmd) (im : Image), (s.leaf l).WaitsDue h 1 4 c → (s.leaf l).key.active = some im →
    (s.leaf l).conv.st = .tripped → (s.leaf l).tripPersists = false → (s.leaf l).readyCond im = true →
    (s.leaf l).conv.deblockWait ≠ some h →
    LeafDoes (.clearTrip l h) s l fun d e =>
      Leaf.Keeps (convKeys ++ faultKeys) d e ∧
      e.conv.st = .blockedReady ∧ e.rd CYC_STATUS_CONV_STATE = 3 ∧ e.Answered h stDONE 0 0 ∧ e.prof = { d.prof with clearAt := some d.tim.cyc } ∧
      (∀ x ∈ e.flt.recs, x.r.cls = .trip → x.r.part = 0 → x.r.isOpen = false) ∧
      e = { d with bank := e.bank, hnd := e.hnd, lanes := e.lanes, out := e.out, conv := e.conv, cyc := e.cyc, flt := e.flt, prof := e.prof }) ∧
  (∀ (s : State) (l : LeafId) (im : Image), (s.leaf l).key.active = some im → (s.leaf l).active = true → (s.leaf l).conv.st = .charging →
    im.prot.readyP ≤ (s.leaf l).cyc.readyRun →
    LeafDoes (.readyPersistenceMet l) s l fun d e =>
      Leaf.Keeps (convKeys ++ faultKeys) d e ∧
      e.conv.st = .blockedReady ∧ e.conv.since = d.tim.cyc ∧ e.cyc.readyRun = 0 ∧ e.rd CYC_STATUS_CONV_STATE = 3 ∧
      e = { d with bank := e.bank, hnd := e.hnd, lanes := e.lanes, out := e.out, conv := e.conv, cyc := e.cyc }) ∧
  (∀ (s : State) (l : LeafId) (im : Image), (s.leaf l).key.active = some im → (s.leaf l).active = true → (s.leaf l).conv.st = .charging →
    im.prot.chargeLim * 10000 ≤ ((s.leaf l).tim.cyc - (s.leaf l).conv.since) * (s.leaf l).rd CYC_PERIOD_PERIOD →
    LeafDoes (.chargeTimeLimitExpires l) s l fun d e =>
      Leaf.KeepsOut (convKeys ++ faultKeys) [profBlock] d e ∧
      e = { d with bank := e.bank, hnd := e.hnd, lanes := e.lanes, out := e.out, conv := e.conv, cyc := e.cyc, flt := e.flt, prof := e.prof } ∧
      e.conv.st = .tripped ∧ e.conv.tripPend = false ∧ e.rd CYC_STATUS_CONV_STATE = 5 ∧ d.Raised e 0x020B .trip 0 0 0)

/-- The instants of a control cycle on a running leaf: its start (03_control_cycle.md R91), records and sums (R100 to R103), the uplink
deadline and the fabric-done instant (R98, R105; 05_control_fabric.md R187). The definitions behind it follow the model's log entries 38, 64. -/
def Obligations.CycleInstantsTakeEffect : Prop :=
  (∀ (s : State) (l : LeafId), (s.leaf l).running = true →
    LeafDoes (.cycleStart l) s l fun d e =>
      e.ident = d.ident ∧
      e.tim.cyc = d.tim.cyc + 1 ∧ e.hng.relSeen = false) ∧
  (∀ (s : State) (l : LeafId) (n : Conc) (p : Port) (w : BitVec 128) (slot : Nat), (s.leaf l).running = true → (s.leaf l).uplinkUp n.val = true →
    (s.leaf l).slotAt n.val p.val = some slot →
    reached (s.leaf l).fab.delivered ((s.leaf l).cycleNear (bits w.toNat 127 112)) = false →
    LeafDoes (.records l n [(p, w)]) s l fun d e =>
      Leaf.KeepsOut [] [(0x400000 + 32 * slot, 0x400000 + 32 * (slot + 1))] d e ∧
      e.rd CT_VCAP slot = bits w.toNat 31 16 ∧ e.rd CT_CELL_STATE slot = bits w.toNat 59 56 ∧ e.rd CT_TEMP slot = bits w.toNat 47 40 ∧
      e.rd CT_STALE slot = 0 ∧ slot ∈ e.cyc.recsIn ∧ (∀ m, m ≠ slot → e.rd CT_VCAP m = d.rd CT_VCAP m) ∧
      e = { d with bank := e.bank, cyc := e.cyc }) ∧
  (∀ (s : State) (l : LeafId) (n : Conc) (v : BitVec 512), (s.leaf l).running = true → (s.leaf l).uplinkUp n.val = true →
    bits v.toNat 511 508 = 4 → reached (s.leaf l).fab.delivered ((s.leaf l).cycleNear (bits v.toNat 495 480)) = false →
    LeafDoes (.sums l n v) s l fun d e => e = { d with cyc := { d.cyc with sumsIn := SMap.put 0 d.cyc.sumsIn n.val v.toNat } }) ∧
  (∀ (s : State) (l : LeafId), (s.leaf l).running = true → reached (s.leaf l).fab.delivered (s.leaf l).uplCycle = false →
    LeafDoes (.uplinkDeadline l) s l fun d e =>
      Leaf.KeepsOut (CYC_STALE_LO_MAP.key 0 :: CYC_STALE_HI_MAP.key 0 :: faultKeys) [cellTable] d e ∧
      e.fab.delivered = some d.uplCycle ∧ e.cyc.recsIn = [] ∧ e.cyc.sumsIn = [] ∧
      e = { d with bank := e.bank, cyc := e.cyc, fab := e.fab, tiles := e.tiles, flt := e.flt, lanes := e.lanes, out := e.out, freeIdx := e.freeIdx }) ∧
  (∀ (s : State) (l : LeafId), (s.leaf l).running = true → reached (s.leaf l).fab.fdDone (s.leaf l).fdCycle = false →
    LeafDoes (.fabricDoneInstant l) s l fun d e =>
      Leaf.KeepsOut faultKeys [recBlock] d e ∧
      e = { d with bank := e.bank, tiles := e.tiles, cyc := e.cyc, fab := e.fab, rcd := e.rcd, flt := e.flt, out := e.out, freeIdx := e.freeIdx }
                   ∧
      e.fab = { d.fab with fdDone := some d.fdCycle })

/-- The publish deadline and the comparison of the leaves (03_control_cycle.md R106, R107; 01_architecture.md R35; 13_the_hinge.md R425 to R428): the
active leaf keeps the set of the cycle it published, and in a blocked state every word of it is 0; a run of mismatches takes CMP away, and
1,024 matches give it back. -/
def Obligations.PublishAndComparisonTakeEffect : Prop :=
  (∀ (s : State) (l : LeafId), (s.leaf l).running = true → (s.leaf l).tim.cyc ≠ 0 → (s.leaf l).active = true → (s.leaf l).justTaken = false →
    (s.leaf l).is HNG_STATUS_PARTNER_STANDING = false →
    LeafDoes (.publishDeadline l) s l fun d e =>
      Leaf.KeepsOut (jrnlKeys ++ faultKeys) [cycBlock, tumBlock, hngBlock, cellTable] d e ∧
      e = { d with bank := e.bank, conv := e.conv, cyc := e.cyc, tum := e.tum, flt := e.flt, hng := e.hng, hnd := e.hnd, lanes := e.lanes, out :=
                   e.out } ∧
      (∃ sets, (d.pubCycle, decide (d.overrunCause d.pubCycle ≠ 0), sets) ∈ e.hng.ownSets ∧
        (d.conv.st ≠ .deblocked → d.conv.st ≠ .blockedReady → ∃ cs, sets = some cs ∧ ∀ c ∈ cs, ∀ w ∈ c.words, w = 0)) ∧
      e.hng.takenAt = none) ∧
  (∀ (s : State) (l : LeafId), (s.leaf l).hng.role = .standby → (s.leaf l).hng.cmpOk = true →
    (s.leaf l).rd HNG_CFG_CMP_PERSIST ≤ (s.leaf l).hng.misRun →
    LeafDoes (.shadowMismatch l) s l fun d e =>
      Leaf.KeepsOut faultKeys [hngBlock] d e ∧
      e.hng = { d.hng with cmpOk := false } ∧ e.rd HNG_STATUS_MISMATCH = 1 ∧ d.Raised e 0x2604 .alarm 0 0 0 ∧
      e = { d with bank := e.bank, hng := e.hng, flt := e.flt, lanes := e.lanes, out := e.out }) ∧
  (∀ (s : State) (l : LeafId), (s.leaf l).hng.role = .standby → (s.leaf l).hng.cmpOk = false → 1024 ≤ (s.leaf l).hng.matchRun →
    LeafDoes (.cmpRestored l) s l fun d e =>
      e.hng = { d.hng with cmpOk := true } ∧ Leaf.Keeps [HNG_STATUS_STANDING_BY.key 0, HNG_HEALTH_SUMMARY.key 0] d e ∧
      e = { d with bank := e.bank, hng := e.hng, lanes := e.lanes, out := e.out })

/-- Commit groups and the timing budget (03_control_cycle.md R96, R97, R118 to R123). The definitions behind it follow the model's log entry 54. -/
def Obligations.CommitGroupsTakeEffect : Prop :=
  (∀ (s : State) (l : LeafId) (m : Word), (s.leaf l).writable = true → (s.leaf l).active = true → m.toNat ≠ 0 →
    LeafDoes (.cycCommit l m) s l fun d e =>
      e.cyc.stages.getLast? = some (d.stageOf m.toNat) ∧ (∀ o ∈ e.cyc.opened, bitOf m.toNat o.1 = false) ∧
      Leaf.Keeps [CYC_COMMIT_PEND_GROUPS.key 0] d e ∧ e = { d with bank := e.bank, cyc := e.cyc, lanes := e.lanes, out := e.out }) ∧
  (∀ (s : State) (l : LeafId) (m : Word), (s.leaf l).writable = true → (s.leaf l).active = false →
    LeafDoes (.cycCommit l m) s l fun d e =>
      e.rd CYC_STATUS_STBY_WRITE = 1 ∧ Leaf.Keeps [CYC_STATUS_STBY_WRITE.key 0] d e ∧ e = { d with bank := e.bank }) ∧
  (∀ (s : State) (l : LeafId), (s.leaf l).writable = true → (s.leaf l).active = true →
    LeafDoes (.cycDiscard l 1) s l fun d e =>
      (∀ f ∈ cycleGroup, e.rdShadow f.1 f.2 = d.rd f.1 f.2 % 2 ^ f.1.w) ∧ (∀ o ∈ e.cyc.opened, o.1 ≠ 0) ∧
      e = { d with shadow := e.shadow, cyc := e.cyc, tiles := e.tiles }) ∧
  (∀ (s : State) (l : LeafId) (st : Stage), (s.leaf l).cyc.stages = [st] → st.at_ + 80 ≤ (s.leaf l).tim.c → st.mask = 1 →
    ({ s.leaf l with cyc := { (s.leaf l).cyc with stages := [] } }.showPend).groupCheck ((s.leaf l).delays (s.leaf l.other) s.concs) st 0 = 0 →
    (s.leaf l).active = false →
    LeafDoes (.commitApply l) s l fun d e =>
      Leaf.Keeps (CYC_COMMIT_PEND_GROUPS.key 0 :: CYC_GROUP_OPEN_GROUPS.key 0 :: CYC_STATUS_COMMIT_REFUSED.key 0 :: cycleGroup.map fun f =>
        f.1.key f.2) d e ∧
      (∀ f ∈ cycleGroup, e.rd f.1 f.2 = bankRd st.shadow f.1 f.2 % 2 ^ f.1.w) ∧ e.cyc.stages = [] ∧ e.rd CYC_COMMIT_PEND_GROUPS = 0 ∧
      e = { d with bank := e.bank, cyc := e.cyc, tiles := e.tiles }) ∧
  (∀ (s : State) (l : LeafId) (st : Stage) (r : Nat), (s.leaf l).cyc.stages = [st] → st.at_ + 80 ≤ (s.leaf l).tim.c → st.mask = 1 → 0 < r →
    ({ s.leaf l with cyc := { (s.leaf l).cyc with stages := [] } }.showPend).groupCheck ((s.leaf l).delays (s.leaf l.other) s.concs) st 0 = r →
    LeafDoes (.commitApply l) s l fun d e =>
      Leaf.Keeps [CYC_COMMIT_PEND_GROUPS.key 0, CYC_COMMIT_ERR_VALID.key 0, CYC_COMMIT_ERR_REASON.key 0, CYC_COMMIT_ERR_GROUP.key 0,
        CYC_STATUS_COMMIT_REFUSED.key 0] d e ∧
      e.rd CYC_COMMIT_ERR_VALID = 1 ∧ e.rd CYC_COMMIT_ERR_REASON = r % 8 ∧ e.rd CYC_COMMIT_ERR_GROUP = 0 ∧
      e.rd CYC_STATUS_COMMIT_REFUSED = 1 ∧ (∀ f ∈ cycleGroup, e.rd f.1 f.2 = d.rd f.1 f.2) ∧ e = { d with bank := e.bank, cyc := e.cyc }) ∧
  (∀ (s : State) (l : LeafId) (g k : Nat), (s.leaf l).cyc.opened.find? (·.1 = g) = some (g, k) → k + 1000 < (s.leaf l).tim.cyc →
    bitOf ((s.leaf l).rd CYC_GROUP_OPEN_GROUPS) g = false →
    LeafDoes (.groupOpenTimeout l g) s l fun d e =>
      e.rd CYC_GROUP_OPEN_GROUPS = setBit (d.rd CYC_GROUP_OPEN_GROUPS) g true % 2 ^ 32 ∧ d.Raised e 0x0207 .note g 0 0 ∧
      Leaf.Keeps (CYC_GROUP_OPEN_GROUPS.key 0 :: faultKeys) d e ∧ e = { d with bank := e.bank, flt := e.flt, out := e.out }) ∧
  (∀ (s : State) (l : LeafId),
    LeafDoes (.budgetCheck l) s l fun d e =>
      e.rd CYC_SLACK_UP_MIN = slackPat (marginUp (d.rd CYC_UPL_DL_VALUE) (d.delays (s.leaf l.other) s.concs)) % 2 ^ 16 ∧
      e.rd CYC_SLACK_DN_MIN = slackPat (marginDown (d.rd CYC_PERIOD_PERIOD) (d.rd CYC_PUB_DL_VALUE) (d.delays (s.leaf l.other) s.concs)) % 2 ^ 16 ∧
      (marginUp (d.rd CYC_UPL_DL_VALUE) (d.delays (s.leaf l.other) s.concs) < 0 → e.rd CYC_STATUS_BUDGET = 1 ∧ d.Raised e 0x0204 .alarm 0 0 0) ∧
      Leaf.Keeps (CYC_SLACK_UP_MIN.key 0 :: CYC_SLACK_DN_MIN.key 0 :: CYC_STATUS_BUDGET.key 0 :: faultKeys) d e ∧
      e = { d with bank := e.bank, flt := e.flt, out := e.out })

/-- The tumblers (04_tumblers_and_arm_modulation.md R126, R133, R143, R152, R163). -/
def Obligations.TumblerCommandsTakeEffect : Prop :=
  (∀ (s : State) (l : LeafId) (a : Arm) (im : Image) (r : ArmRec), (s.leaf l).key.active = some im → im.arms[a.val]? = some r →
    (s.leaf l).running = true → (s.leaf l).tilesDone (s.leaf l).fdCycle = true →
    LeafDoes (.tumblerSelect l a) s l fun d e =>
      e.rd TUM_SELTIME_LAST a.val = ((r.cells + 7) / 8 + 64) % 2 ^ 16 ∧
      ((e.tumOf a.val).pick = none ∨ ∃ p, (e.tumOf a.val).pick = some p ∧ p.cycle = d.fdCycle ∧ e.rd TUM_OUT_M a.val = p.m % 2 ^ TUM_OUT_M.w ∧
        e.rd TUM_OUT_F a.val = p.f % 2 ^ TUM_OUT_F.w)) ∧
  (∀ (s : State) (l : LeafId) (slot : Slot), (s.leaf l).rd TUM_XCHK_PERSIST (slot.val / 2048) ≤
      SMap.get 0 ((s.leaf l).tumOf (slot.val / 2048)).xrun (slot.val % 2048) → (s.leaf l).is CT_MISMATCH slot.val = false →
    LeafDoes (.predictionMismatch l slot) s l fun d e =>
      Leaf.Keeps (TUM_STATUS_XCHK.key (slot.val / 2048) :: TUM_CNT_XCHK.key (slot.val / 2048) :: TUM_XCHK_SLOT_POSITION.key (slot.val / 2048) ::
        TUM_XCHK_SLOT_VALID.key (slot.val / 2048) :: CT_MISMATCH.key slot.val :: faultKeys) d e ∧
      e.rd CT_MISMATCH slot.val = 1 ∧ e.rd TUM_XCHK_SLOT_VALID (slot.val / 2048) = 1 ∧
      e.rd TUM_XCHK_SLOT_POSITION (slot.val / 2048) = slot.val % 2048 ∧ d.Raised e 0x0304 .alarm (slot.val / 2048) 0 0 ∧
      e = { d with bank := e.bank, flt := e.flt, out := e.out }) ∧
  (∀ (s : State) (l : LeafId) (slot : Slot) (v : Word), (s.leaf l).writable = true → (s.leaf l).slotMapped slot.val = true →
    LeafDoes (.cellTableControlWrite l slot 5 v) s l fun d e =>
      e.rd CT_C_EST slot.val = bits v.toNat 31 16 ∧ e.rd CT_LEARN_N slot.val = bits v.toNat 15 0 ∧
      Leaf.Keeps [CT_C_EST.key slot.val, CT_LEARN_N.key slot.val] d e ∧ e = { d with bank := e.bank, cyc := e.cyc })

/-- The reference selector and the clock monitor (02_clocks_and_time.md Table 2.2, R50 to R55). The definitions behind it follow the model's log entries 1, 83. -/
def Obligations.ReferenceSelectorTakesEffect : Prop :=
  (∀ (s : State) (l : LeafId) (i : RefInput), (s.leaf l).rd TIM_CLK_STATUS_STATE = 0 → (s.leaf l).refAllowed i = true →
    (s.leaf l).prefInput = i → (s.leaf l).pwr.step = 2 →
    LeafDoes (.referenceQualified l i) s l fun d e =>
      e.rd (refQual i) = 1 ∧ e.rd TIM_CLK_STATUS_STATE = refState i ∧ e.pwr = { d.pwr with step := 3 } ∧
      Leaf.Keeps [(refQual i).key 0, TIM_CLK_STATUS_STATE.key 0, TIM_CLK_STATUS_MIR_ALIGN.key 0] d e ∧
      e = { d with bank := e.bank, pwr := e.pwr }) ∧
  (∀ (s : State) (l : LeafId) (i : RefInput), (s.leaf l).rd TIM_CLK_STATUS_STATE = 3 → (s.leaf l).refAllowed i = true →
    (s.leaf l).prefInput = i →
    LeafDoes (.referenceQualified l i) s l fun d e =>
      Leaf.Keeps (TIM_CLK_STATUS_STATE.key 0 :: TIM_CLK_STATUS_HOLD_MS.key 0 :: (refQual i).key 0 :: TIM_CLK_STATUS_MIR_ALIGN.key 0 ::
        faultKeys) d e ∧
      e.rd (refQual i) = 1 ∧ e.rd TIM_CLK_STATUS_STATE = refState i ∧ e.rd TIM_CLK_STATUS_HOLD_MS = 0 ∧ d.Raised e 0x0104 .note 0 0 0 ∧
      e = { d with bank := e.bank, flt := e.flt, lanes := e.lanes, out := e.out }) ∧
  (∀ (s : State) (l : LeafId) (i : RefInput), (s.leaf l).rd TIM_CLK_STATUS_STATE = refState i →
    (s.leaf l).rd (refQual (refOther i)) = 0 →
    LeafDoes (.referenceLost l i) s l fun d e =>
      Leaf.Keeps (TIM_CLK_STATUS_STATE.key 0 :: TIM_CLK_STATUS_HOLD_MS.key 0 :: TIM_CLK_STATUS_HOLD_SEEN.key 0 :: (refQual i).key 0 ::
        TIM_CLK_STATUS_MIR_ALIGN.key 0 :: faultKeys) d e ∧
      e.rd (refQual i) = 0 ∧ e.rd TIM_CLK_STATUS_STATE = 3 ∧ e.rd TIM_CLK_STATUS_HOLD_MS = 0 ∧ e.is TIM_CLK_STATUS_HOLD_SEEN = true ∧
      d.Raised e 0x0102 .alarm 0 0 0 ∧
      e = { d with bank := e.bank, tim := { d.tim with holdFrom := d.tim.c }, flt := e.flt, lanes := e.lanes, out := e.out }) ∧
  (∀ (s : State) (l : LeafId) (i : RefInput), (s.leaf l).rd TIM_CLK_STATUS_STATE = refState i →
    (s.leaf l).rd (refQual (refOther i)) = 1 → (s.leaf l).selAuto = true →
    LeafDoes (.referenceLost l i) s l fun d e =>
      Leaf.Keeps (TIM_CLK_STATUS_STATE.key 0 :: TIM_CLK_STATUS_SWITCHED.key 0 :: (refQual i).key 0 :: TIM_CLK_STATUS_MIR_ALIGN.key 0 ::
        faultKeys) d e ∧
      e.rd (refQual i) = 0 ∧ e.rd TIM_CLK_STATUS_STATE = refState (refOther i) ∧ e.is TIM_CLK_STATUS_SWITCHED = true ∧
      d.Raised e 0x0101 .alarm 0 0 0 ∧ e = { d with bank := e.bank, flt := e.flt, lanes := e.lanes, out := e.out }) ∧
  (∀ (s : State) (l : LeafId), (s.leaf l).rd TIM_CLK_REVERT = 1 → (s.leaf l).selAuto = true →
    (s.leaf l).rd (refQual (s.leaf l).prefInput) = 1 →
    (s.leaf l).rd TIM_CLK_STATUS_STATE = refState (refOther (s.leaf l).prefInput) →
    LeafDoes (.referenceReverted l) s l fun d e =>
      Leaf.Keeps (TIM_CLK_STATUS_STATE.key 0 :: TIM_CLK_STATUS_MIR_ALIGN.key 0 :: faultKeys) d e ∧
      e.rd TIM_CLK_STATUS_STATE = refState d.prefInput ∧ d.Raised e 0x0103 .note 0 0 0 ∧
      e = { d with bank := e.bank, flt := e.flt, lanes := e.lanes, out := e.out }) ∧
  (∀ (s : State) (l : LeafId), (s.leaf l).rd TIM_CLK_STATUS_STATE = 3 →
    LeafDoes (.holdoverExpired l) s l fun d e =>
      Leaf.Keeps (TIM_CLK_STATUS_HOLD_EXPIRED.key 0 :: TIM_CLK_STATUS_HOLD_MS.key 0 :: faultKeys) d e ∧
      e.is TIM_CLK_STATUS_HOLD_EXPIRED = true ∧ d.Raised e 0x0105 (if d.moving then .trip else .alarm) 0 0 0 ∧ e.rd TIM_CLK_STATUS_STATE = 3 ∧
      e = { d with bank := e.bank, flt := e.flt, conv := e.conv, lanes := e.lanes, out := e.out }) ∧
  (∀ (s : State) (l : LeafId) (v : Word), (s.leaf l).writable = true → (s.leaf l).rd TIM_CLK_STATUS_STATE ≠ 1 →
    (s.leaf l).rd TIM_CLK_STATUS_STATE ≠ 2 →
    LeafDoes (.timClkWrite l v) s l fun d e =>
      e.rd TIM_CLK_REVERT = bits v.toNat 8 8 ∧ e.rd TIM_CLK_SEL_MODE = bits v.toNat 5 4 ∧ e.rd TIM_CLK_PREF = bits v.toNat 0 0 ∧
      Leaf.Keeps [TIM_CLK_REVERT.key 0, TIM_CLK_SEL_MODE.key 0, TIM_CLK_PREF.key 0] d e ∧ e = { d with bank := e.bank }) ∧
  (∀ (s : State) (l : LeafId) (n : Nat), 8192 * 9 ≤ n * 10 → n * 10 ≤ 8192 * 11 →
    LeafDoes (.clockMonitorWindow l n) s l fun d e => e = { d with conv := { d.conv with clockBad := false } }) ∧
  (∀ (s : State) (l : LeafId) (n : Nat), (n * 10 < 8192 * 9 ∨ 8192 * 11 < n * 10) → (s.leaf l).active = false →
    LeafDoes (.clockMonitorWindow l n) s l fun d e =>
      e.conv = { d.conv with clockBad := true } ∧ d.Raised e 0x0106 .trip 0 0 0 ∧ Leaf.Keeps faultKeys d e ∧
      e = { d with bank := e.bank, conv := e.conv, flt := e.flt, lanes := e.lanes, out := e.out }) ∧
  (∀ (s : State) (l : LeafId), (s.leaf l).active = true → (s.leaf l).is HNG_STATUS_PARTNER_STANDING = true →
    (s.leaf l).is FLT_STATUS_DEADBOLT = false →
    LeafDoes (.rootPllLossOfLock l) s l fun d e =>
      Leaf.Keeps (giveUpKeys ++ faultKeys) d e ∧
      e = { d with bank := e.bank, flt := e.flt, conv := e.conv, hng := e.hng, out := e.out } ∧
      e.hng.role = .released ∧ e.hng.cause = 4 ∧ e.conv.clockBad = true ∧ e.conv.tripPend = d.conv.tripPend ∧ e.conv.st = d.conv.st) ∧
  (∀ (s : State) (l : LeafId), (s.leaf l).active = true → (s.leaf l).is HNG_STATUS_PARTNER_STANDING = false →
    LeafDoes (.rootPllLossOfLock l) s l fun d e =>
      Leaf.Keeps faultKeys d e ∧
      e = { d with bank := e.bank, flt := e.flt, conv := e.conv, out := e.out } ∧
      e.conv = { d.conv with clockBad := true, tripPend := true } ∧ e.hng = d.hng ∧ d.Raised e 0x0106 .trip 0 0 0 ∧ Leaf.Keeps faultKeys d e)

/-- Alignment over the mirror link, time triggers and PTP stamps (02_clocks_and_time.md R59, R73, R80, R82, R89; 13_the_hinge.md R430). -/
def Obligations.AlignmentTriggersAndStampsTakeEffect : Prop :=
  (∀ (s : State) (l : LeafId), (s.leaf l).active = false → (s.leaf l).rd HNG_STATUS_PARTNER_UP = 1 →
    LeafDoes (.mirAlignConverged l) s l fun d e =>
      e.rd TIM_CLK_STATUS_MIR_ALIGN = 1 ∧ Leaf.Keeps [TIM_CLK_STATUS_MIR_ALIGN.key 0] d e ∧ e = { d with bank := e.bank }) ∧
  (∀ (s : State) (l : LeafId), (s.leaf l).active = false → (s.leaf l).rd HNG_STATUS_PARTNER_UP = 0 →
    LeafDoes (.alignHoldExpired l) s l fun d e =>
      e.rd TIM_CLK_STATUS_MIR_ALIGN = 0 ∧ Leaf.Keeps [TIM_CLK_STATUS_MIR_ALIGN.key 0] d e ∧ e = { d with bank := e.bank }) ∧
  (∀ (s : State) (l : LeafId) (n : Nat) (t : Int), (s.leaf l).tim.armed.find? (·.1 = n) = some (n, t) → t ≤ (s.leaf l).now →
    LeafDoes (.timeTrigger l n) s l fun d e =>
      e.out = d.out ++ [.trigger n] ∧ e.tim = { d.tim with armed := d.tim.armed.filter (·.1 ≠ n) } ∧ e = { d with out := e.out, tim := e.tim }) ∧
  (∀ (s : State) (l : LeafId) (n : Nat) (t : Int), (s.leaf l).tim.armed.find? (·.1 = n) = some (n, t) → (s.leaf l).now < t →
    LeafDoes (.timeTrigger l n) s l fun d e => e = d) ∧
  (∀ (s : State) (l : LeafId) (p : PtpEvent), (s.leaf l).rd TIM_Pn_CFG_EN p.port.val = 1 → p.msgType ≤ 3 →
    (SMap.get [] (s.leaf l).tim.fifo (p.port.val * 2 + b2n p.egress)).length < 16 →
    LeafDoes (.ptpEventMessage l p) s l fun d e =>
      SMap.get [] e.tim.fifo (p.port.val * 2 + b2n p.egress) = SMap.get [] d.tim.fifo (p.port.val * 2 + b2n p.egress) ++
        [⟨p.msgType, p.seqId % 65536, toTs96 (d.ptpTime p), d.is TIM_STATUS_UNSET⟩] ∧
      e = { d with tim := { d.tim with fifo := e.tim.fifo }, out := e.out }) ∧
  (∀ (s : State) (l : LeafId) (p : PtpEvent), (s.leaf l).rd TIM_Pn_CFG_EN p.port.val = 1 → p.msgType ≤ 3 → p.egress = false →
    16 ≤ (SMap.get [] (s.leaf l).tim.fifo (p.port.val * 2)).length →
    LeafDoes (.ptpEventMessage l p) s l fun d e =>
      e.rd TIM_Pn_STAT_RX_LOST p.port.val = satInc TIM_Pn_STAT_RX_LOST.w (d.rd TIM_Pn_STAT_RX_LOST p.port.val) % 2 ^ TIM_Pn_STAT_RX_LOST.w ∧
      Leaf.Keeps [TIM_Pn_STAT_RX_LOST.key p.port.val] d e ∧ e = { d with bank := e.bank }) ∧
  (∀ (s : State) (l : LeafId) (n : Fin 2) (x : PtpStamp) (r : List PtpStamp), SMap.get [] (s.leaf l).tim.fifo (n.val * 2) = x :: r →
    LeafDoes (.timPnRxtagRead l n) s l fun d e =>
      Leaf.Keeps [TIM_Pn_RXTS0_VALUE.key n.val, TIM_Pn_RXTS1_VALUE.key n.val, TIM_Pn_RXTS2_VALUE.key n.val] d e ∧
      e.rdata = 2 ^ 31 + x.msgType % 16 * 65536 + x.seqId ∧ SMap.get [] e.tim.fifo (n.val * 2) = r ∧
      e.rd TIM_Pn_RXTS0_VALUE n.val = x.ts % 2 ^ 32 ∧ e.rd TIM_Pn_RXTS1_VALUE n.val = x.ts / 2 ^ 32 % 2 ^ 32 ∧
      e.rd TIM_Pn_RXTS2_VALUE n.val = x.ts / 2 ^ 64 % 2 ^ 32 ∧ e = { d with bank := e.bank, tim := { d.tim with fifo := e.tim.fifo }, rdata := e.rdata }) ∧
  (∀ (s : State) (l : LeafId) (n : Fin 2) (x : PtpStamp) (r : List PtpStamp), SMap.get [] (s.leaf l).tim.fifo (n.val * 2 + 1) = x :: r →
    LeafDoes (.timPnTxtagRead l n) s l fun d e =>
      Leaf.Keeps [TIM_Pn_TXTS0_VALUE.key n.val, TIM_Pn_TXTS1_VALUE.key n.val, TIM_Pn_TXTS2_VALUE.key n.val] d e ∧
      e.rdata = 2 ^ 31 + x.msgType % 16 * 65536 + x.seqId ∧ SMap.get [] e.tim.fifo (n.val * 2 + 1) = r ∧
      e.rd TIM_Pn_TXTS0_VALUE n.val = x.ts % 2 ^ 32 ∧ e.rd TIM_Pn_TXTS1_VALUE n.val = x.ts / 2 ^ 32 % 2 ^ 32 ∧
      e.rd TIM_Pn_TXTS2_VALUE n.val = x.ts / 2 ^ 64 % 2 ^ 32 ∧ e = { d with bank := e.bank, tim := { d.tim with fifo := e.tim.fifo }, rdata := e.rdata }) ∧
  (∀ (s : State) (l : LeafId) (n : Fin 2), SMap.get [] (s.leaf l).tim.fifo (n.val * 2) = [] →
    LeafDoes (.timPnRxtagRead l n) s l fun d e => e = { d with rdata := 0 })

/-- Bring-up of a lane (10_flenor_links.md Table 10.8, R368, R370): every row that moves a lane moves it from its state to the next and changes nothing
else, on each of the five kinds of lane end. The definitions behind it follow the model's log entry 59. -/
def Obligations.LaneBringUpTakesEffect : Prop :=
  (∀ (s : State) (e : LaneEnd), s.laneRuns e = true → s.lane e XX_STATE_STATE = 0 →
    LaneSets (.laneEnable e) s e [XX_CTL_EN, XX_STATE_STATE] fun t => t.lane e XX_STATE_STATE = 1 ∧ t.lane e XX_CTL_EN = 1) ∧
  (∀ (s : State) (e : LaneEnd), s.laneRuns e = true → s.lane e XX_STATE_STATE ≠ 7 →
    LaneSets (.laneDisable e) s e [XX_CTL_EN, XX_STATE_STATE] fun t => t.lane e XX_STATE_STATE = 0 ∧ t.lane e XX_CTL_EN = 0) ∧
  (∀ (s : State) (e : LaneEnd), s.laneRuns e = true → s.lane e XX_STATE_STATE = 1 →
    LaneSets (.signalDetected e) s e [XX_STATE_STATE] fun t => t.lane e XX_STATE_STATE = 2) ∧
  (∀ (s : State) (e : LaneEnd), s.laneRuns e = true → s.lane e XX_STATE_STATE = 2 →
    LaneSets (.phaseLocked e) s e [XX_STATE_STATE] fun t => t.lane e XX_STATE_STATE = 3) ∧
  (∀ (s : State) (e : LaneEnd), s.laneRuns e = true → s.lane e XX_STATE_STATE = 3 →
    LaneSets (.commaAligned e) s e [XX_STATE_STATE] fun t => t.lane e XX_STATE_STATE = 4) ∧
  (∀ (s : State) (e : LaneEnd) (inv : Bool), s.laneRuns e = true → s.lane e XX_STATE_STATE = 4 →
    LaneTakes (.polarityFound e inv) s e fun t =>
      t.lane e XX_STATE_STATE = (match e with | .mirror _ _ => 5 | _ => 6) ∧ t.lane e XX_STATE_POL_INV = b2n inv ∧
      ∀ (g : Fld) (j : Nat), g.key j ∉ laneKeys e [XX_STATE_STATE, XX_STATE_POL_INV] →
        bankRd (t.laneBank e) g j = bankRd (s.laneBank e) g j) ∧
  (∀ (s : State) (l : LeafId), (∀ i, s.lane (.mirror l i) XX_STATE_STATE = 5) →
    LeafDoes (.laneOrderRead l [3, 2, 1, 0] false) s l fun d e =>
      Leaf.KeepsOut [] [(0x230100, 0x230200)] d e ∧
      (∀ i : Fin 4, e.rd (XX_STATE_STATE.at (laneBase (.mirror l i))) = 6 ∧ e.rd (XX_STATE_LANE_REV.at (laneBase (.mirror l i))) = 1) ∧
      e = { d with bank := e.bank }) ∧
  (∀ (s : State) (e : LaneEnd) (v : Nat), s.laneRuns e = true → s.lane e XX_STATE_STATE = v → 2 ≤ v → v ≤ 6 →
    LaneTakes (.laneStateTimeout e) s e fun t =>
      t.lane e XX_STATE_STATE = 1 ∧ t.lane e XX_STATE_LAST_FAIL = v ∧ t.lane e XX_STATE_TIMEOUTS = min (s.lane e XX_STATE_TIMEOUTS + 1) 255 % 2 ^ 8) ∧
  (∀ (s : State) (l : LeafId) (n : Conc) (sn : Nat) (cap : Word), s.lane (.uplinkLeaf l n) XX_STATE_STATE = 6 →
    (SMap.get {} (s.leaf l).tim.meas n.val).trained = true →
    LeafDoes (.linkUp (.uplinkLeaf l n) sn cap) s l fun d e =>
      Leaf.KeepsOut (PWR_STATUS_STAGE.key 0 :: faultKeys) [(laneBase (.uplinkLeaf l n), laneBase (.uplinkLeaf l n) + 1024), discBlock] d e ∧
      e = { d with bank := e.bank, disc := e.disc, lanes := e.lanes, out := e.out, flt := e.flt, pwr := e.pwr } ∧
      e.uplinkUp n.val = true ∧ e.rd (XX_DELAY_D.at (laneBase (.uplinkLeaf l n))) = medianOf (SMap.get {} d.tim.meas n.val).last % 2 ^ 24 ∧
      e.rd LNKn_PEER_SN_LO_SN n.val = sn % 2 ^ 32 ∧ e.rd LNKn_PEER_SN_HI_SN n.val = sn / 2 ^ 32 % 2 ^ 32) ∧
  (∀ (s : State) (n : Conc) (p : Port) (sn : Nat) (cap : Word), s.lane (.port n p) XX_STATE_STATE = 6 →
    (SMap.get {} (s.conc n).meas p.val).trained = true →
    ConcDoes (.linkUp (.port n p) sn cap) s n fun d e =>
      Concentrator.KeepsOut [] [(laneBase (.port n p), laneBase (.port n p) + 64)] d e ∧
      e.laneUp (.port n p) = true ∧ e.rd (XX_DELAY_D.at (laneBase (.port n p))) = medianOf (SMap.get {} d.meas p.val).last % 2 ^ 24 ∧
      e = { d with bank := e.bank, lanes := e.lanes, out := e.out }) ∧
  (∀ (s : State) (c : CellId) (sn : Nat) (cap : Word), (s.cell c).pow = .run → s.lane (.cell c) XX_STATE_STATE = 6 →
    CellDoes (.linkUp (.cell c) sn cap) s c fun d e =>
      Cell.KeepsOut [] [(0x400, 0x440)] d e ∧
      e.laneUp = true ∧ e.sw = { d.sw with laneMarked := false } ∧
      e = { d with bank := e.bank, sw := e.sw, lanes := e.lanes, out := e.out })

/-- A lane that leaves UP (10_flenor_links.md Table 10.8, R369), retransmission (R366) and the clock-domain crossings (R376, R377). The definitions behind it follow the model's log entry 29. -/
def Obligations.LaneLossAndRetransmissionTakeEffect : Prop :=
  (∀ (s : State) (e : LaneEnd) (w : LaneDown), s.laneRuns e = true → s.lane e XX_STATE_STATE = 7 →
    LaneTakes (.linkDown e w) s e fun t => t.lane e XX_STATE_STATE = 1 ∧ t.lane e XX_STATE_DOWN_SEEN = 1) ∧
  (∀ (s : State) (l : LeafId) (n : Conc) (w : LaneDown), s.lane (.uplinkLeaf l n) XX_STATE_STATE = 7 →
    LeafDoes (.linkDown (.uplinkLeaf l n) w) s l fun d e =>
      Leaf.KeepsOut faultKeys [(laneBase (.uplinkLeaf l n), laneBase (.uplinkLeaf l n) + 1024)] d e ∧
      e.rd LNKn_PEER_SN_LO_SN n.val = 0 ∧ e.rd LNKn_PEER_SN_HI_SN n.val = 0 ∧ d.Raised e 0x2201 .alarm n.val 0 0 ∧
      e = { d with bank := e.bank, flt := e.flt, out := e.out }) ∧
  (∀ (s : State) (n : Conc) (p : Port) (w : LaneDown), s.lane (.port n p) XX_STATE_STATE = 7 →
    ConcDoes (.linkDown (.port n p) w) s n fun d e =>
      Concentrator.KeepsOut concFaultKeys [(laneBase (.port n p), laneBase (.port n p) + 64)] d e ∧
      d.Raised n e 0x5801 .note p.val 0 0 ∧ e = { d with bank := e.bank, flt := e.flt, lanes := e.lanes, out := e.out }) ∧
  (∀ (s : State) (e : LaneEnd), s.laneRuns e = true → s.lane e XX_STATE_STATE = 7 →
    LaneTakes (.markerMissing e) s e fun t => t.lane e XX_STATE_STATE = 1 ∧ t.lane e XX_STATE_DOWN_SEEN = 1) ∧
  (∀ (s : State) (l : LeafId) (n : Conc) (seq : Nat) (o : Out) (r : List Out), (s.leaf l).laneUp (.uplinkLeaf l n) = true →
    ((s.leaf l).sender (.uplinkLeaf l n)).unacked = o :: r → ((s.leaf l).sender (.uplinkLeaf l n)).base = seq → seq < 256 →
    ((s.leaf l).sender (.uplinkLeaf l n)).waiting = [] →
    LeafDoes (.linkAck (.uplinkLeaf l n) seq false) s l fun d e =>
      Leaf.Keeps [] d e ∧
      (e.sender (.uplinkLeaf l n)).unacked = r ∧ (e.sender (.uplinkLeaf l n)).base = (seq + 1) % 256 ∧ e.out = d.out ∧
      e = { d with bank := e.bank, lanes := e.lanes }) ∧
  (∀ (s : State) (c : CellId) (o : Out) (r : List Out), (s.cell c).pow = .run → (s.cell c).laneUp = true →
    (s.cell c).sender.unacked = o :: r → (s.cell c).sender.tries < 8 →
    CellDoes (.retransmitTimeout (.cell c)) s c fun d e =>
      Cell.Keeps [(XX_DROP_RETX.at 0x400).key 0] d e ∧
      e.out = d.out ++ o :: r ∧ e.sender = { d.sender with tries := d.sender.tries + 1 } ∧
      e.rd (XX_DROP_RETX.at 0x400) = min 65535 (d.rd (XX_DROP_RETX.at 0x400) + (r.length + 1)) ∧
      e = { d with bank := e.bank, lanes := e.lanes, out := e.out }) ∧
  (∀ (s : State) (n : Conc) (p : Port) (o : Out) (r : List Out), (s.conc n).laneUp (.port n p) = true →
    ((s.conc n).sender (.port n p)).unacked = o :: r → 8 ≤ ((s.conc n).sender (.port n p)).tries →
    ConcDoes (.retransmitTimeout (.port n p)) s n fun d e =>
      Concentrator.KeepsOut concFaultKeys [(laneBase (.port n p), laneBase (.port n p) + 64)] d e ∧
      e = { d with bank := e.bank, flt := e.flt, lanes := e.lanes, out := e.out } ∧
      e.rd (XX_STATE_STATE.at (laneBase (.port n p))) = 1 ∧ d.Raised n e 0x5801 .note p.val 0 0 ∧
      e.rd (XX_DROP_GIVEUP.at (laneBase (.port n p))) = min (d.rd (XX_DROP_GIVEUP.at (laneBase (.port n p))) + 1) 255 % 2 ^ 8) ∧
  (∀ (s : State) (l : LeafId) (n : Conc),
    LeafDoes (.cdcTimeout (.uplinkLeaf l n)) s l fun d e =>
      e.rd (XX_CDC_TIMEOUT.at (laneBase (.uplinkLeaf l n))) = min (d.rd (XX_CDC_TIMEOUT.at (laneBase (.uplinkLeaf l n))) + 1) 255 % 2 ^ 8 ∧
      d.Raised e 0x2202 .alarm n.val 0 0 ∧
      Leaf.Keeps (laneKeys (.uplinkLeaf l n) [XX_CDC_TIMEOUT, XX_CDC_DISCARD] ++ faultKeys) d e ∧
      e = { d with bank := e.bank, flt := e.flt, out := e.out, freeIdx := d.freeIdx + 1 }) ∧
  (∀ (s : State) (c : CellId), (s.cell c).pow = .run →
    CellDoes (.cdcResync (.cell c)) s c fun d e =>
      e.rd (XX_CDC_RESYNC.at 0x400) = min (d.rd (XX_CDC_RESYNC.at 0x400) + 1) 255 % 2 ^ 8 ∧
      Cell.Keeps (laneKeys (.cell c) [XX_CDC_RESYNC, XX_CDC_DISCARD]) d e ∧ e = { d with bank := e.bank, freeIdx := d.freeIdx + 1 })

/-- RETRAIN and the test facilities (10_flenor_links.md R371, R372, R378, Table 10.12): refused while the converter moves, otherwise as written. -/
def Obligations.LaneTestFacilitiesTakeEffect : Prop :=
  (∀ (s : State) (l : LeafId) (n : Conc), (s.leaf l).writable = true → (s.leaf l).moving = false →
    s.lane (.uplinkLeaf l n) XX_STATE_STATE = 7 → injOn (s.lane (.uplinkLeaf l n) XX_INJ_MODE) = false →
    LeafDoes (.retrain (.uplinkLeaf l n) 9) s l fun d e =>
      Leaf.KeepsOut [] [(laneBase (.uplinkLeaf l n), laneBase (.uplinkLeaf l n) + 1024)] d e ∧
      e.rd (XX_STATE_STATE.at (laneBase (.uplinkLeaf l n))) = 1 ∧ e.rd (XX_ERR_CORR.at (laneBase (.uplinkLeaf l n))) = 0 ∧
      e.rd (XX_ERR_BAD.at (laneBase (.uplinkLeaf l n))) = 0 ∧ e.rd (XX_DROP_RETX.at (laneBase (.uplinkLeaf l n))) = 0 ∧
      e.rd (XX_CDC_DISCARD.at (laneBase (.uplinkLeaf l n))) = 0 ∧ e = { d with bank := e.bank }) ∧
  (∀ (s : State) (l : LeafId) (n : Conc) (v : Word), (s.leaf l).writable = true → (s.leaf l).moving = true →
    LeafDoes (.retrain (.uplinkLeaf l n) v) s l fun d e =>
      e.rd (XX_STATE_REFUSED.at (laneBase (.uplinkLeaf l n))) = 1 ∧ Leaf.Keeps (laneKeys (.uplinkLeaf l n) [XX_STATE_REFUSED]) d e ∧
      e = { d with bank := e.bank }) ∧
  (∀ (s : State) (n : Conc) (p : Port), (s.conc n).is AFLT_STATUS_DEADBOLT = false → (s.conc n).moving = false →
    1 ≤ s.lane (.port n p) XX_STATE_STATE → s.lane (.port n p) XX_STATE_STATE ≤ 6 →
    ConcDoes (.testFacilityEnable (.port n p) 0x101) s n fun d e =>
      Concentrator.KeepsOut [] [(laneBase (.port n p), laneBase (.port n p) + 64)] d e ∧
      e.rd (XX_STATE_STATE.at (laneBase (.port n p))) = 8 ∧ e.rd (XX_CTL_PRBS_GEN.at (laneBase (.port n p))) = 1 ∧
      e.rd (XX_PRBS_ERRORS.at (laneBase (.port n p))) = 0 ∧ e = { d with bank := e.bank }) ∧
  (∀ (s : State) (n : Conc) (p : Port), (s.conc n).is AFLT_STATUS_DEADBOLT = false → (s.conc n).moving = true →
    s.lane (.port n p) XX_CTL_PRBS_GEN = 0 →
    ConcDoes (.testFacilityEnable (.port n p) 0x101) s n fun d e =>
      e.rd (XX_STATE_REFUSED.at (laneBase (.port n p))) = 1 ∧ Concentrator.Keeps (laneKeys (.port n p) [XX_STATE_REFUSED]) d e ∧
      e = { d with bank := e.bank }) ∧
  (∀ (s : State) (c : CellId), (s.cell c).pow = .run → (s.cell c).is CFLT_STATUS_DEADBOLT = false → s.lane (.cell c) XX_STATE_STATE = 8 →
    injOn (s.lane (.cell c) XX_INJ_MODE) = false →
    CellDoes (.testFacilityDisable (.cell c) 0xFF01) s c fun d e =>
      Cell.KeepsOut [] [(0x400, 0x440)] d e ∧
      e.rd (XX_STATE_STATE.at 0x400) = 1 ∧ e.rd (XX_CTL_PRBS_GEN.at 0x400) = 0 ∧ e.rd (XX_CTL_PRBS_CHK.at 0x400) = 0 ∧
      e.rd (XX_CTL_LOOP.at 0x400) = 0 ∧ e = { d with bank := e.bank })

/-- Marker blocks and the delay of a link (02_clocks_and_time.md R58, R83, R84; 10_flenor_links.md R364, R365). The definitions behind it follow the model's log entry 40. -/
def Obligations.MarkersTakeEffect : Prop :=
  (∀ (s : State) (c : CellId) (m : Marker) (rtt : Nat), (s.cell c).pow = .run → s.lane (.cell c) XX_STATE_STATE = 6 →
    CellDoes (.markerBlock (.cell c) m rtt true) s c fun d e =>
      e.rd (XX_RTT_RTT.at 0x400) = rtt % 2 ^ 24 ∧ e.rd (XX_DELAY_D.at 0x400) = m.delay % 2 ^ 24 ∧ e.cyc = markerCycle s.grid.tc m ∧
      e.time = markerTime s.grid.tc m ∧ e.timeUnset = m.unset ∧ Cell.Keeps (laneKeys (.cell c) [XX_RTT_RTT, XX_DELAY_D]) d e ∧
      e = { d with bank := e.bank, lanes := e.lanes, cyc := e.cyc, time := e.time, timeUnset := e.timeUnset }) ∧
  (∀ (s : State) (e : LaneEnd) (m : Marker) (rtt : Nat), s.laneRuns e = true →
    LaneSets (.markerBlock e m rtt false) s e [XX_ERR_BAD] fun t =>
      t.lane e XX_ERR_BAD = min (s.lane e XX_ERR_BAD + 1) 65535 % 2 ^ 16) ∧
  (∀ (s : State) (l : LeafId) (n : Conc) (m : Marker) (rtt : Nat), s.lane (.uplinkLeaf l n) XX_STATE_STATE = 6 →
    LeafDoes (.markerBlock (.uplinkLeaf l n) m rtt true) s l fun d e =>
      e.rd (XX_RTT_RTT.at (laneBase (.uplinkLeaf l n))) = rtt % 2 ^ 24 ∧
      (SMap.get {} e.tim.meas n.val).trips = (SMap.get {} d.tim.meas n.val).trips + 1 ∧
      Leaf.Keeps (laneKeys (.uplinkLeaf l n) [XX_RTT_RTT, XX_DELAY_D]) d e ∧
      e = { d with bank := e.bank, lanes := e.lanes, tim := { d.tim with meas := e.tim.meas } }) ∧
  (∀ (s : State) (l : LeafId) (n : Conc), 16 ≤ (SMap.get {} (s.leaf l).tim.meas n.val).confirm → (s.leaf l).moving = false →
    LeafDoes (.delayStepConfirmed (.uplinkLeaf l n)) s l fun d e =>
      e.rd (XX_DELAY_D.at (laneBase (.uplinkLeaf l n))) = medianOf (SMap.get {} d.tim.meas n.val).last % 2 ^ 24 ∧
      d.Raised e 0x2204 .note n.val 0 0 ∧ Leaf.Keeps (laneKeys (.uplinkLeaf l n) [XX_DELAY_D] ++ faultKeys) d e ∧
      e = { d with bank := e.bank, tim := { d.tim with meas := e.tim.meas }, flt := e.flt, out := e.out }) ∧
  (∀ (s : State) (n : Conc) (p : Port), 16 ≤ (SMap.get {} (s.conc n).meas p.val).confirm → (s.conc n).moving = false →
    ConcDoes (.delayStepConfirmed (.port n p)) s n fun d e =>
      Concentrator.KeepsOut concFaultKeys [(laneBase (.port n p), laneBase (.port n p) + 64)] d e ∧
      e.rd (XX_DELAY_D.at (laneBase (.port n p))) = medianOf (SMap.get {} d.meas p.val).last % 2 ^ 24 ∧
      d.Raised n e 0x5503 .note p.val 0 0 ∧ e = { d with bank := e.bank, meas := e.meas, flt := e.flt, lanes := e.lanes, out := e.out }) ∧
  (∀ (s : State) (c : CellId), (s.cell c).pow = .run → 1 ≤ s.lane (.cell c) XX_STATE_STATE → s.lane (.cell c) XX_STATE_STATE ≤ 7 →
    CellDoes (.markerSend (.cell c)) s c fun d e =>
      (∃ m, e.out = d.out ++ [.marker (.cell c) m] ∧ m.id = d.sender.mkId ∧ m.echo = d.sender.echo ∧ m.upstream = false) ∧
      e.sender.mkId = (d.sender.mkId + 1) % 256 ∧ e = { d with lanes := e.lanes, out := e.out, freeIdx := d.freeIdx + 2 }) ∧
  (∀ (s : State) (l : LeafId) (n : Conc), 1 ≤ s.lane (.uplinkLeaf l n) XX_STATE_STATE → s.lane (.uplinkLeaf l n) XX_STATE_STATE ≤ 7 →
    LeafDoes (.markerSend (.uplinkLeaf l n)) s l fun d e =>
      (∃ m, e.out = d.out ++ [.marker (.uplinkLeaf l n) m] ∧ m.id = (d.sender (.uplinkLeaf l n)).mkId ∧ m.cycle = d.tim.cyc % 65536 ∧
        m.upstream = true ∧ m.delay = s.lane (.uplinkLeaf l n) XX_DELAY_D) ∧
      e = { d with lanes := e.lanes, out := e.out, freeIdx := d.freeIdx + 2 })

/-- A cell on its cycle grid: control frames, cycle starts, latch times, silence and the lane clock (08_cell_switching.md R273 to R275;
03_control_cycle.md R115, R116; 02_clocks_and_time.md R58; 14_faults.md Table 14.8). -/
def Obligations.CellGridCommandsTakeEffect : Prop :=
  (∀ (s : State) (c : CellId) (b : BitVec 219), (s.cell c).pow = .run → (s.cell c).fw.fallbackWait = false →
    (bits b.toNat 214 199 + 65536 - (s.cell c).cyc % 65536) % 65536 = 2 → (s.cell c).wordOk (bits b.toNat 182 167) = true →
    bits b.toNat 198 187 + 4096 * bits b.toNat 186 184 + 2 < s.grid.tc → (s.cell c).heldFor (bits b.toNat 214 199) = none →
    CellDoes (.control c b true) s c fun d e =>
      e.conv = bits b.toNat 218 215 ∧
      e.sw = { d.sw with
        slips := storeSlips (bits b.toNat 214 199) (bits b.toNat 166 151) d.sw.slips,
        held := d.sw.held ++ [⟨bits b.toNat 214 199, bits b.toNat 198 187 + 4096 * bits b.toNat 186 184, bits b.toNat 182 167,
          bits b.toNat 150 119⟩] } ∧
      e = { d with conv := e.conv, sw := e.sw }) ∧
  (∀ (s : State) (c : CellId) (b : BitVec 219), (s.cell c).pow = .run → (s.cell c).fw.fallbackWait = false →
    bits b.toNat 214 199 = (s.cell c).cyc % 65536 → (s.cell c).wordOk (bits b.toNat 182 167) = true →
    bits b.toNat 198 187 + 4096 * bits b.toNat 186 184 + 2 < s.grid.tc →
    CellDoes (.control c b true) s c fun d e =>
      e = { d with bank := e.bank, conv := e.conv, sw := e.sw } ∧
      e.rd CPWM_STATUS_LATE_CMD = 1 ∧ e.rd CPWM_CMD_CNT_LATE = min (d.rd CPWM_CMD_CNT_LATE + 1) 65535 ∧ e.sw.held = d.sw.held ∧
      Cell.Keeps [CPWM_STATUS_LATE_CMD.key 0, CPWM_CMD_CNT_LATE.key 0] d e) ∧
  (∀ (s : State) (c : CellId) (b : BitVec 219), (s.cell c).pow = .run →
    CellDoes (.control c b false) s c fun d e =>
      e.rd (XX_ERR_BAD.at 0x400) = min (d.rd (XX_ERR_BAD.at 0x400) + 1) 65535 ∧ Cell.Keeps [(XX_ERR_BAD.at 0x400).key 0] d e ∧
      e = { d with bank := e.bank }) ∧
  (∀ (s : State) (c : CellId), (s.cell c).pow = .run →
    CellDoes (.cellCycleStart c) s c fun d e =>
      e = { d with bank := e.bank, cyc := e.cyc, time := e.time, adc := e.adc, sw := e.sw, ret := e.ret, lanes := e.lanes, out := e.out, freeIdx
                   := e.freeIdx } ∧
      ((∀ p ∈ d.sw.pwmHeld, 0x100 ≤ p.1 ∧ p.1 < 0x200) → (∀ p ∈ d.sw.adcHeld, 0x300 ≤ p.1 ∧ p.1 < 0x3A0) → Cell.KeepsOut
        (CLNK_SILENCE_SILENT_NOW.key 0 :: CBYP_STATUS_FIRED.key 0 :: cellFaultKeys) [cpwmBlock, cadcBlock] d e) ∧
      e.cyc = d.cyc + 1 ∧ e.time = d.time + (d.sw.len : Int) * 40960 ∧ e.sw.start = d.sw.start + d.sw.len ∧
      e.sw.len = d.lenOf s.grid (d.cyc + 1) ∧ e.sw.latched = false ∧ e.adc.sinceSlice = d.adc.sinceSlice + 1 ∧
      (d.heldFor (d.cyc + 1) = none → e.sw.validRun = 0 ∧ e.rd CLNK_SILENCE_SILENT_NOW = min (d.rd CLNK_SILENCE_SILENT_NOW + 1) 255)) ∧
  (∀ (s : State) (c : CellId), (s.cell c).pow = .run → (s.cell c).sw.latched = false → (s.cell c).heldFor (s.cell c).cyc = none →
    CellDoes (.latchTime c false) s c fun d e => e = { d with sw := { d.sw with latched := true } }) ∧
  (∀ (s : State) (c : CellId) (h : HeldWord), (s.cell c).pow = .run → (s.cell c).sw.latched = false → (s.cell c).heldFor (s.cell c).cyc = some h →
    (s.cell c).sw.st = .ready → (s.cell c).rd CPWM_STATUS_MODE_NOW = 0 → (s.cell c).sw.laneClock = true → (s.cell c).rd CFLT_STATUS_DEADBOLT = 0 →
    CellDoes (.latchTime c false) s c fun d e =>
      Cell.KeepsOut cellFaultKeys [cpwmBlock] d e ∧
      e = { d with bank := e.bank, sw := e.sw, ret := e.ret, lanes := e.lanes, out := e.out, freeIdx := e.freeIdx } ∧
      e.rd CPWM_LAST_WORD = h.word % 2 ^ 16 ∧ e.rd CPWM_LAST_CYCLE = h.cycle % 2 ^ 16 ∧ e.sw.executed = true ∧ e.sw.latched = true ∧
      d.sw.start + h.ofs ≤ e.sw.now) ∧
  (∀ (s : State) (c : CellId), (s.cell c).pow = .run → (s.cell c).sw.st = .ready →
    CellDoes (.latchTime c true) s c fun d e =>
      Cell.KeepsOut (CFLT_STATUS_DEADBOLT.key 0 :: CBYP_STATUS_FIRED.key 0 :: cellFaultKeys) [cpwmBlock, ctrpBlock] d e ∧
      e = { d with bank := e.bank, sw := e.sw, trip := e.trip, ret := e.ret, lanes := e.lanes, out := e.out, freeIdx := e.freeIdx } ∧
      e.rd CFLT_STATUS_DEADBOLT = 1 ∧ e.sw.st = .tripBlocked ∧ e.rd CPWM_GATES_SOFT_OFF = 1 ∧ Cell.Raised c d e 0x8103 .deadbolt 0 0) ∧
  (∀ (s : State) (c : CellId), (s.cell c).pow = .run → (s.cell c).sw.st = .ready →
    (s.cell c).rd CLNK_SILENCE_SILENCE ≤ (s.cell c).rd CLNK_SILENCE_SILENT_NOW →
    CellDoes (.silenceBlock c) s c fun d e =>
      Cell.KeepsOut (CLNK_SILENCE_SIL_BLOCKED.key 0 :: CBYP_STATUS_FIRED.key 0 :: cellFaultKeys) [cpwmBlock] d e ∧
      e = { d with bank := e.bank, sw := e.sw, ret := e.ret, lanes := e.lanes, out := e.out, freeIdx := e.freeIdx } ∧
      e.sw.st = .silBlocked ∧ e.rd CLNK_SILENCE_SIL_BLOCKED = 1 ∧ e.rd CPWM_GATES_STATE = 0 ∧ e.rd CPWM_STATUS_MODE_NOW = 0 ∧
      Cell.Raised c d e 0x8703 .note 0 0) ∧
  (∀ (s : State) (c : CellId), (s.cell c).pow = .run → (s.cell c).sw.st = .ready →
    CellDoes (.laneClockLost c) s c fun d e =>
      Cell.KeepsOut (CBYP_STATUS_FIRED.key 0 :: cellFaultKeys) [cpwmBlock] d e ∧
      e = { d with bank := e.bank, sw := e.sw, ret := e.ret, lanes := e.lanes, out := e.out, freeIdx := e.freeIdx } ∧
      e.sw.st = .silBlocked ∧ e.sw.laneClock = false ∧ e.sw.laneMarked = false ∧ e.rd CPWM_GATES_SOFT_OFF = 1 ∧ e.rd CPWM_GATES_STATE = 0 ∧
      Cell.Raised c d e 0x8702 .alarm 0 0)

/-- Soft turn-off, local PWM mode and its counters (08_cell_switching.md R281, R283, R295 to R300). -/
def Obligations.CellGateAndLocalCommandsTakeEffect : Prop :=
  (∀ (s : State) (c : CellId), (s.cell c).pow = .run →
    CellDoes (.cpwmShortCntRead c) s c fun d e =>
      e = { d with rdata := d.rd CPWM_SHORT_CNT_STRETCHED * 65536 + d.rd CPWM_SHORT_CNT_DROPPED, sw := { d.sw with shortNoted := false } }) ∧
  (∀ (s : State) (c : CellId), (s.cell c).pow = .run → (s.cell c).sw.lead = true →
    CellDoes (.softOffLeadExpired c) s c fun d e =>
      (∀ g < 4, bitOf (e.rd CPWM_GATES_G) g = false) ∧ e.sw.lead = false ∧ e.sw.edges = [] ∧ Cell.Keeps [CPWM_GATES_G.key 0] d e ∧
      e = { d with bank := e.bank, sw := e.sw, out := e.out }) ∧
  (∀ (s : State) (c : CellId), (s.cell c).pow = .run → (s.cell c).rd CPWM_GATES_SOFT_OFF = 1 → (s.cell c).sw.edges = [] →
    CellDoes (.softOffHoldExpired c) s c fun d e =>
      e.rd CPWM_GATES_SOFT_OFF = 0 ∧ e.out = d.out ++ [.pin "SOFT_OFF" 0] ∧ Cell.Keeps [CPWM_GATES_SOFT_OFF.key 0] d e ∧
      e = { d with bank := e.bank, out := e.out }) ∧
  (∀ (s : State) (c : CellId) (v : Word), (s.cell c).pow = .run → (s.cell c).rd CFLT_STATUS_DEADBOLT = 0 → bits v.toNat 1 0 = 1 →
    (s.cell c).sw.st = .ready → (s.cell c).sw.executed = true → bits ((s.cell c).rd CPWM_LAST_WORD) 15 13 = 0 →
    CellDoes (.cpwmModeLocal c v) s c fun d e =>
      e.rd CPWM_CTL_MODE = 1 ∧ e.rd CPWM_STATUS_MODE_NOW = 1 ∧ e.sw = { d.sw with pwmHeld := SMap.ins d.sw.pwmHeld 0x100 v.toNat } ∧
      Cell.Keeps [CPWM_CTL_MODE.key 0, CPWM_STATUS_MODE_NOW.key 0] d e ∧ e = { d with bank := e.bank, sw := e.sw }) ∧
  (∀ (s : State) (c : CellId) (v : Word), (s.cell c).pow = .run → (s.cell c).rd CFLT_STATUS_DEADBOLT = 0 → bits v.toNat 1 0 = 1 →
    (s.cell c).sw.st ≠ .ready →
    CellDoes (.cpwmModeLocal c v) s c fun d e =>
      e.rd CPWM_STATUS_LOCAL_REFUSED = 1 ∧ Cell.Keeps [CPWM_STATUS_LOCAL_REFUSED.key 0] d e ∧ e = { d with bank := e.bank }) ∧
  (∀ (s : State) (c : CellId) (v : Word), (s.cell c).pow = .run → (s.cell c).rd CFLT_STATUS_DEADBOLT = 0 → bits v.toNat 1 0 = 0 →
    (s.cell c).rd CPWM_STATUS_MODE_NOW = 1 →
    CellDoes (.cpwmModeLatch c v) s c fun d e =>
      e.rd CPWM_CTL_MODE = 0 ∧ e.rd CPWM_STATUS_MODE_NOW = 0 ∧ e.rd CPWM_GATES_STATE = 0 ∧ e.sw.ideal = 0 ∧ e.sw.plan = [] ∧
      e.sw.locNext = none ∧ Cell.Keeps [CPWM_CTL_MODE.key 0, CPWM_STATUS_MODE_NOW.key 0, CPWM_GATES_STATE.key 0] d e ∧
      e = { d with bank := e.bank, sw := e.sw }) ∧
  (∀ (s : State) (c : CellId) (t : Nat), (s.cell c).pow = .run → (s.cell c).rd CPWM_STATUS_MODE_NOW = 1 → (s.cell c).sw.locNext = some t →
    (s.cell c).sw.pairReady = true → (s.cell c).sw.pwmHeld = [] →
    CellDoes (.localPeriodStart c) s c fun d e =>
      Cell.KeepsOut cellFaultKeys [cpwmBlock] d e ∧
      e = { d with bank := e.bank, sw := e.sw, ret := e.ret, lanes := e.lanes, out := e.out, freeIdx := e.freeIdx } ∧
      e.rd CPWM_PERIOD_ACT_VALUE = d.rd CPWM_PERIOD_PERIOD % 2 ^ 24 ∧ e.rd CPWM_DUTY_ACT_VALUE = d.rd CPWM_DUTY_DUTY % 2 ^ 24 ∧
      e.sw.locNext = some (t + e.rd CPWM_PERIOD_ACT_VALUE) ∧ e.sw.pairReady = false) ∧
  (∀ (s : State) (c : CellId) (v : Word), (s.cell c).pow = .run → (s.cell c).rd CFLT_STATUS_DEADBOLT = 0 →
    CellDoes (.cpwmPeriodWrite c v) s c fun d e =>
      e.rd CPWM_PERIOD_PERIOD = max 64 (v.toNat % 2 ^ 24) ∧ e.sw = { d.sw with pairReady := false, periodOpen := true } ∧
      Cell.Keeps [CPWM_PERIOD_PERIOD.key 0] d e ∧ e = { d with bank := e.bank, sw := e.sw }) ∧
  (∀ (s : State) (c : CellId) (v : Word), (s.cell c).pow = .run → (s.cell c).rd CFLT_STATUS_DEADBOLT = 0 →
    CellDoes (.cpwmDutyWrite c v) s c fun d e =>
      e.rd CPWM_DUTY_DUTY = v.toNat % 2 ^ 24 ∧ e.sw = { d.sw with pairReady := true, periodOpen := false } ∧
      Cell.Keeps [CPWM_DUTY_DUTY.key 0] d e ∧ e = { d with bank := e.bank, sw := e.sw })

/-- Trips and re-arming (08_cell_switching.md R284 to R288, Table 8.5). The definitions behind it follow the model's log entry 25. -/
def Obligations.CellTripCommandsTakeEffect : Prop :=
  (∀ (s : State) (c : CellId) (i : Fin 4), (s.cell c).pow = .run → (s.cell c).hasInput i.val = true →
    bitOf ((s.cell c).rd CTRP_STATUS_LEVEL) i.val = false → bitOf ((s.cell c).rd CTRP_CFG_EN) i.val = true → (s.cell c).sw.st = .ready →
    ((s.cell c).trip.window.filter fun t => (s.cell c).trip.ms < t + 1000).length < 2 →
    CellDoes (.trip c i true) s c fun d e =>
      Cell.KeepsOut (CBYP_STATUS_FIRED.key 0 :: cellFaultKeys) [cpwmBlock, ctrpBlock] d e ∧
      e = { d with bank := e.bank, sw := e.sw, trip := e.trip, ret := e.ret, lanes := e.lanes, out := e.out, freeIdx := e.freeIdx } ∧
      e.sw.st = .tripBlocked ∧ bitOf (e.rd CTRP_STATUS_SEEN) i.val = true ∧ bitOf (e.rd CTRP_STATUS_LEVEL) i.val = true ∧
      e.rd CPWM_GATES_SOFT_OFF = 1 ∧ e.rd CPWM_GATES_STATE = 0 ∧ e.rd CTRP_CNT_TRIPS = min (d.rd CTRP_CNT_TRIPS + 1) 65535 ∧
      Cell.Raised c d e 0x8201 .trip (2 ^ i.val) 0) ∧
  (∀ (s : State) (c : CellId) (i : Fin 4), (s.cell c).pow = .run → (s.cell c).hasInput i.val = true →
    bitOf ((s.cell c).rd CTRP_STATUS_LEVEL) i.val = false → bitOf ((s.cell c).rd CTRP_CFG_EN) i.val = true → (s.cell c).sw.st = .ready →
    2 ≤ ((s.cell c).trip.window.filter fun t => (s.cell c).trip.ms < t + 1000).length →
    CellDoes (.trip c i true) s c fun d e =>
      Cell.KeepsOut cellFaultKeys [cpwmBlock, ctrpBlock, cbypBlock] d e ∧
      e = { d with bank := e.bank, sw := e.sw, trip := e.trip, ret := e.ret, lanes := e.lanes, out := e.out, freeIdx := e.freeIdx } ∧
      e.sw.st = .bolted ∧ e.rd CBYP_STATUS_BOLTED = 1 ∧ e.rd CBYP_STATUS_CAUSE = 2 ∧ e.ret.bolt0 = true ∧ e.ret.bolt1 = true ∧
      e.ret.bolt2 = true ∧ e.trip.firing = true ∧ e.trip.coil = true ∧ e.trip.coils = 1) ∧
  (∀ (s : State) (c : CellId) (i : Fin 4), (s.cell c).pow = .run → (s.cell c).hasInput i.val = true →
    bitOf ((s.cell c).rd CTRP_STATUS_LEVEL) i.val = true → bitOf ((s.cell c).rd CTRP_CFG_EN) i.val = true →
    CellDoes (.trip c i false) s c fun d e =>
      bitOf (e.rd CTRP_STATUS_LEVEL) i.val = false ∧ e.trip = { d.trip with quiet := d.trip.ms } ∧ Cell.Keeps [CTRP_STATUS_LEVEL.key 0] d e ∧
      e = { d with bank := e.bank, trip := e.trip }) ∧
  (∀ (s : State) (c : CellId) (i : Fin 4) (v : Word), (s.cell c).pow = .run → (s.cell c).rd CFLT_STATUS_DEADBOLT = 0 → (s.cell c).hasInput i.val = true →
    CellDoes (.ctrpFiltWrite c i v) s c fun d e =>
      e.rd CTRP_FILTn_FILT i.val = v.toNat % 256 ∧ Cell.Keeps [CTRP_FILTn_FILT.key i.val] d e ∧ e = { d with bank := e.bank }) ∧
  (∀ (s : State) (c : CellId), (s.cell c).pow = .run → (s.cell c).sw.st = .tripBlocked → (s.cell c).rd CFLT_STATUS_DEADBOLT = 0 →
    (s.cell c).tripActive = false → (s.cell c).trip.quiet + (s.cell c).rd CTRP_CFG_REARM_MS ≤ (s.cell c).trip.ms →
    ((s.cell c).rd CTRP_CFG_AUTO = 1 ∨ (s.cell c).rd CTRP_STATUS_CLEAR_PEND = 1) →
    CellDoes (.rearm c) s c fun d e =>
      Cell.Keeps [CTRP_STATUS_SEEN.key 0, CTRP_STATUS_CLEAR_PEND.key 0, CBYP_STATUS_FIRED.key 0, CFLT_STATUS_TRIP_OPEN.key 0,
        CFLT_STATUS_ALARM_OPEN.key 0] d e ∧
      e.sw.st = d.resume ∧ e.rd CTRP_STATUS_SEEN = 0 ∧ e.rd CTRP_STATUS_CLEAR_PEND = 0 ∧ e.rd CFLT_STATUS_TRIP_OPEN = 0 ∧
      e = { d with bank := e.bank, sw := { d.sw with st := e.sw.st }, ret := { d.ret with log := e.ret.log } }) ∧
  (∀ (s : State) (c : CellId), (s.cell c).pow = .run → (s.cell c).rd CTRP_CFG_AUTO = 0 → (s.cell c).rd CTRP_STATUS_CLEAR_PEND = 0 →
    CellDoes (.rearm c) s c fun d e => e = d) ∧
  (∀ (s : State) (c : CellId) (v : Word), (s.cell c).pow = .run → (s.cell c).rd CFLT_STATUS_DEADBOLT = 0 → (s.cell c).sw.st = .tripBlocked →
    bitOf v.toNat 0 = true →
    CellDoes (.ctrpClear c v) s c fun d e =>
      e.rd CTRP_STATUS_CLEAR_PEND = 1 ∧ Cell.Keeps [CTRP_STATUS_CLEAR_PEND.key 0] d e ∧ e = { d with bank := e.bank })

/-- Bypass and bolting (08_cell_switching.md R289 to R294). The definitions behind it follow the model's log entry 26. -/
def Obligations.CellBypassCommandsTakeEffect : Prop :=
  (∀ (s : State) (c : CellId), (s.cell c).pow ≠ .off → (s.cell c).trip.firing = true →
    CellDoes (.firePulseTimer c) s c fun d e =>
      e.rd CBYP_CNT_PULSES = min (d.rd CBYP_CNT_PULSES + 1) 65535 ∧ e.out = d.out ++ [.pin "BYP_FIRE" 1] ∧
      Cell.Keeps [CBYP_CNT_PULSES.key 0] d e ∧ e = { d with bank := e.bank, out := e.out }) ∧
  (∀ (s : State) (c : CellId), (s.cell c).pow ≠ .off → (s.cell c).trip.coil = true →
    CellDoes (.coilPulseEnd c) s c fun d e =>
      e = { d with trip := { d.trip with coil := false }, out := d.out ++ [.pin "BYP_CLOSE" 0] }) ∧
  (∀ (s : State) (c : CellId), (s.cell c).pow ≠ .off → (s.cell c).sw.st = .bolted →
    CellDoes (.bypAuxConfirmed c) s c fun d e =>
      e.rd CBYP_STATUS_AUX = 1 ∧ e.trip = { d.trip with firing := false } ∧ Cell.Keeps [CBYP_STATUS_AUX.key 0] d e ∧
      e = { d with bank := e.bank, trip := e.trip }) ∧
  (∀ (s : State) (c : CellId), (s.cell c).pow ≠ .off → (s.cell c).sw.st = .bolted → (s.cell c).rd CBYP_STATUS_AUX = 0 → (s.cell c).trip.coils = 1 →
    CellDoes (.boltConfirmTimeout c) s c fun d e =>
      e = { d with trip := { d.trip with coil := true, coils := 2 }, out := d.out ++ [.pin "BYP_CLOSE" 1] }) ∧
  (∀ (s : State) (c : CellId), (s.cell c).pow ≠ .off → (s.cell c).sw.st = .bolted → (s.cell c).rd CBYP_STATUS_AUX = 0 → (s.cell c).trip.coils = 2 →
    (s.cell c).rd CBYP_STATUS_BOLT_UNCONF = 0 →
    CellDoes (.boltConfirmTimeout c) s c fun d e =>
      Cell.Keeps (CBYP_STATUS_BOLT_UNCONF.key 0 :: cellFaultKeys) d e ∧
      e = { d with bank := e.bank, ret := e.ret, lanes := e.lanes, out := e.out, freeIdx := e.freeIdx } ∧
      e.rd CBYP_STATUS_BOLT_UNCONF = 1 ∧ Cell.Raised c d e 0x8302 .alarm 0 0 ∧ e.trip = d.trip ∧ e.sw = d.sw) ∧
  (∀ (s : State) (c : CellId) (v : Word), (s.cell c).pow = .run → (s.cell c).rd CFLT_STATUS_DEADBOLT = 0 → bits v.toNat 31 16 = 0xB01D →
    bits v.toNat 1 0 = 1 → (s.cell c).sw.st ≠ .bolted → (s.cell c).sw.st ≠ .bypassFired →
    CellDoes (.fire c v) s c fun d e =>
      Cell.KeepsOut cellFaultKeys [cpwmBlock, cbypBlock] d e ∧
      e = { d with bank := e.bank, sw := e.sw, trip := e.trip, ret := e.ret, lanes := e.lanes, out := e.out, freeIdx := e.freeIdx } ∧
      e.sw.st = .bypassFired ∧ e.rd CBYP_STATUS_FIRED = 1 ∧ e.trip = { d.trip with firing := true } ∧ e.rd CPWM_GATES_SOFT_OFF = 1 ∧
      e.rd CBYP_CNT_PULSES = min (d.rd CBYP_CNT_PULSES + 1) 65535 ∧ Cell.Raised c d e 0x8303 .alarm 0 0) ∧
  (∀ (s : State) (c : CellId) (v : Word), (s.cell c).pow = .run → (s.cell c).rd CFLT_STATUS_DEADBOLT = 0 → bits v.toNat 31 16 = 0xB01D →
    bits v.toNat 1 0 = 2 → (s.cell c).sw.st ≠ .bolted →
    CellDoes (.bolt c v) s c fun d e =>
      Cell.KeepsOut cellFaultKeys [cpwmBlock, cbypBlock] d e ∧
      e = { d with bank := e.bank, sw := e.sw, trip := e.trip, ret := e.ret, lanes := e.lanes, out := e.out, freeIdx := e.freeIdx } ∧
      e.sw.st = .bolted ∧ e.rd CBYP_STATUS_BOLTED = 1 ∧ e.rd CBYP_STATUS_CAUSE = 3 ∧ e.rd CBYP_STATUS_FIRED = 0 ∧ e.ret.bolt0 = true ∧
      e.ret.bolt1 = true ∧ e.ret.bolt2 = true ∧ e.trip = { d.trip with firing := true, coil := true, coils := 1 } ∧
      Cell.Raised c d e 0x8301 .alarm 3 0) ∧
  (∀ (s : State) (c : CellId) (v : Word), (s.cell c).pow = .run → (s.cell c).rd CFLT_STATUS_DEADBOLT = 0 → bits v.toNat 31 16 = 0xB01D →
    bits v.toNat 1 0 = 3 → (s.cell c).sw.st = .bypassFired → (s.cell c).tripActive = false → (s.cell c).rd CADC_UV_THRESH ≤ (s.cell c).adc.vcap →
    (s.cell c).adc.vcap ≤ (s.cell c).rd CBYP_OV_WARN →
    CellDoes (.release c v) s c fun d e =>
      Cell.Keeps [CTRP_STATUS_SEEN.key 0, CBYP_STATUS_FIRED.key 0, CFLT_STATUS_TRIP_OPEN.key 0, CFLT_STATUS_ALARM_OPEN.key 0] d e ∧
      e.sw.st = (if d.sw.started then .ready else .starting) ∧ e.trip = { d.trip with firing := false } ∧ e.rd CTRP_STATUS_SEEN = 0 ∧
      e.rd CBYP_STATUS_FIRED = 0 ∧ e = { d with bank := e.bank, sw := { d.sw with st := e.sw.st }, trip := e.trip, ret := { d.ret with log := e.ret.log } }) ∧
  (∀ (s : State) (c : CellId) (v : Word), (s.cell c).pow = .run → (s.cell c).rd CFLT_STATUS_DEADBOLT = 0 → bits v.toNat 31 16 = 0xB01D →
    bits v.toNat 1 0 = 3 → (s.cell c).sw.st = .bypassFired → (s.cell c).tripActive = true →
    CellDoes (.release c v) s c fun d e =>
      e.rd CBYP_STATUS_RELEASE_REFUSED = 1 ∧ Cell.Keeps [CBYP_STATUS_RELEASE_REFUSED.key 0] d e ∧ e = { d with bank := e.bank }) ∧
  (∀ (s : State) (c : CellId) (v : Word) (i : Instr), i ∈ [.fire c v, .bolt c v, .release c v] → (s.cell c).pow = .run →
    (s.cell c).rd CFLT_STATUS_DEADBOLT = 0 → bits v.toNat 31 16 ≠ 0xB01D →
    CellDoes i s c fun d e =>
      e.rd CBYP_STATUS_KEY_ERR = 1 ∧ Cell.Keeps [CBYP_STATUS_KEY_ERR.key 0] d e ∧ e = { d with bank := e.bank })

/-- The SAR converter of a cell: the synchronous sample, runs and general conversions (08_cell_switching.md R301; 09_cell_measurement_and_sleep.md R305 to R321, R331, R332). The definitions behind it follow the model's log entry 77. -/
def Obligations.CellConversionsTakeEffect : Prop :=
  (∀ (s : State) (c : CellId), (s.cell c).pow = .run →
    CellDoes (.synchronousSample c) s c fun d e =>
      Cell.KeepsOut cellFaultKeys [cpwmBlock, cadcBlock] d e ∧
      e = { d with bank := e.bank, adc := e.adc, sw := e.sw, ret := e.ret, lanes := e.lanes, out := e.out, freeIdx := e.freeIdx } ∧
      e.adc.job = .cap ∧ e.adc.sample = d.cyc ∧ e.adc.sampleAt = d.sw.start + s.grid.sofs ∧
      (∀ ch, d.adc.job = .general ch → e.adc.general = true ∧ e.rd CADC_CNT_ABORTS = min (d.rd CADC_CNT_ABORTS + 1) 65535)) ∧
  (∀ (s : State) (c : CellId) (v : Nat), (s.cell c).pow = .run → (s.cell c).adc.job = .cap → (s.cell c).adc.susp = none →
    (s.cell c).adc.pend.contains 0 = false → (s.cell c).laneUp = true →
    CellDoes (.capacitorConversionDone c v) s c fun d e =>
      Cell.KeepsOut cellFaultKeys [cpwmBlock, cbypBlock, cadcBlock] d e ∧
      e = { d with bank := e.bank, adc := e.adc, sw := e.sw, trip := e.trip, ret := e.ret, lanes := e.lanes, out := e.out, freeIdx := e.freeIdx }
                   ∧
      e.adc.vcap = d.scaleCap v ∧ e.adc.job = .none ∧ e.adc.frame.isSome = true ∧ e.adc.seq = (d.adc.seq + 1) % 256 ∧
      (d.scaleCap v < d.rd CADC_UV_THRESH → e.rd CADC_STATUS_UV = 1) ∧
      (d.rd CBYP_OV_HARD < d.scaleCap v → e.sw.st = .bolted)) ∧
  (∀ (s : State) (c : CellId) (f : Nat), (s.cell c).pow = .run → (s.cell c).adc.frame = some f → (s.cell c).laneUp = true →
    CellDoes (.uplinkSlot c) s c fun d e => e = { d with adc := { d.adc with frame := none }, out := d.out ++ [.frame (.cell c) 2 [f]] }) ∧
  (∀ (s : State) (c : CellId) (n : Fin 4), (s.cell c).pow = .run → (s.cell c).rd CPWM_CMPn_EN n.val = 1 → (s.cell c).rd CPWM_STATUS_MODE_NOW = 0 →
    (s.cell c).rd CPWM_CMPn_POINT n.val < (s.cell c).sw.len → (s.cell c).rd CADC_TRIG_CMPn_EN n.val = 1 → (s.cell c).adc.job = .none →
    (s.cell c).idleRuns = true → (s.cell c).entryOk ((s.cell c).rd CADC_TRIG_CMPn_FIRST n.val) = true →
    CellDoes (.compareTrigger c n) s c fun d e =>
      e = { d with adc := { d.adc with job := .entry (n.val + 1) (d.rd CADC_TRIG_CMPn_FIRST n.val)
                                         ((d.rd CADC_TRIG_CMPn_LAST n.val + 16 - d.rd CADC_TRIG_CMPn_FIRST n.val) % 16 + 1) } }) ∧
  (∀ (s : State) (c : CellId) (n : Fin 4), (s.cell c).pow = .run → (s.cell c).rd CPWM_CMPn_EN n.val = 1 → (s.cell c).rd CPWM_STATUS_MODE_NOW = 0 →
    (s.cell c).rd CPWM_CMPn_POINT n.val < (s.cell c).sw.len → (s.cell c).rd CADC_TRIG_CMPn_EN n.val = 1 →
    (s.cell c).runBusy (n.val + 1) = true →
    CellDoes (.compareTrigger c n) s c fun d e =>
      e.rd CADC_CNT_LOST = min (d.rd CADC_CNT_LOST + 1) 65535 ∧ e.rd CADC_STATUS_TRIG_OVR = 1 ∧
      Cell.Keeps [CADC_CNT_LOST.key 0, CADC_STATUS_TRIG_OVR.key 0] d e ∧ e = { d with bank := e.bank }) ∧
  (∀ (s : State) (c : CellId) (v : Word), (s.cell c).pow = .run → (s.cell c).rd CFLT_STATUS_DEADBOLT = 0 → bitOf v.toNat 0 = true →
    (s.cell c).rd CADC_CTL_CONT = 0 → (s.cell c).rd CADC_CTL_EN = 1 → (s.cell c).adc.general = false → (s.cell c).adc.job = .none →
    (s.cell c).idleRuns = true → (s.cell c).rd CADC_CTL_SEL < 14 →
    CellDoes (.cadcStart c v) s c fun d e => e = { d with adc := { d.adc with job := .general (d.rd CADC_CTL_SEL) } }) ∧
  (∀ (s : State) (c : CellId) (v ch : Nat), (s.cell c).pow = .run → (s.cell c).adc.job = .general ch → ch ≠ (s.cell c).rd CADC_CAP_CH →
    (s.cell c).rd CADC_CTL_CONT = 0 →
    CellDoes (.conversionDone c v) s c fun d e =>
      e.rd CADC_DATA_RESULT = d.present ch v % 2 ^ 16 ∧ e.rd CADC_DATA_CH = ch % 16 ∧ e.rd CADC_DATA_CNT = (d.rd CADC_DATA_CNT + 1) % 256 ∧
      Cell.Keeps [CADC_DATA_RESULT.key 0, CADC_DATA_CH.key 0, CADC_DATA_CNT.key 0] d e ∧
      e = { d with bank := e.bank, adc := { d.adc with job := .none } }) ∧
  (∀ (s : State) (c : CellId) (v src i : Nat), (s.cell c).pow = .run → (s.cell c).adc.job = .entry src i 1 → i < 16 →
    (s.cell c).rd CADC_SEQn_CH i ≠ (s.cell c).rd CADC_CAP_CH →
    CellDoes (.conversionDone c v) s c fun d e =>
      e.rd CADC_SEQn_RESULT i = d.present (d.rd CADC_SEQn_CH i) v % 2 ^ 16 ∧ (codeClips (d.rd CADC_SEQn_CH i) v = true → e.rd CADC_STATUS_CLIP = 1) ∧
      Cell.Keeps [CADC_SEQn_RESULT.key i, CADC_STATUS_CLIP.key 0] d e ∧ e = { d with bank := e.bank, adc := { d.adc with job := .none } }) ∧
  (∀ (s : State) (c : CellId) (src : Nat), (s.cell c).pow = .run → (s.cell c).adc.job = .none → (s.cell c).adc.susp = none →
    (s.cell c).adc.slice = false → (s.cell c).adc.pend = [src] → src < 5 → (s.cell c).entryOk ((s.cell c).trigOf src).2.1 = true →
    CellDoes (.pendingRunStart c) s c fun d e =>
      e = { d with adc := { d.adc with pend := [], job := .entry src (d.trigOf src).2.1 (d.runLen src) } })

/-- Housekeeping, privileged channels, calibration and the delta-sigma channel (09_cell_measurement_and_sleep.md R313, R315, R317, R318, R322 to
R330). The definitions behind it follow the model's log entry 77. -/
def Obligations.CellServicesTakeEffect : Prop :=
  (∀ (s : State) (c : CellId) (t : Int) (v33 vret vcore : Nat), (s.cell c).pow = .run → t ≤ sext 8 ((s.cell c).rd CADC_TEMP_OVT) →
    CellDoes (.housekeepingConversion c t v33 vret vcore) s c fun d e =>
      Cell.Keeps [CTRP_STATUS_WINDOW.key 0, CRET_VRET_MV.key 0, CRET_STATUS_CHARGING.key 0, CUPD_STATUS_AUX_LOW.key 0, CADC_STATUS_OVT.key 0] d
        e ∧
      e.adc = { d.adc with temp := t } ∧ e.trip.ms = d.trip.ms + 1 ∧ e.rd CRET_VRET_MV = vret % 4096 ∧ e.rd CRET_STATUS_CHARGING = b2n (vret < 3000) ∧
      (t < sext 8 (d.rd CADC_TEMP_OVT) - (d.rd CADC_TEMP_HYST : Nat) → e.rd CADC_STATUS_OVT = 0) ∧
      e = { d with bank := e.bank, adc := e.adc, trip := e.trip }) ∧
  (∀ (s : State) (c : CellId) (t : Int) (v33 vret vcore : Nat), (s.cell c).pow = .run → sext 8 ((s.cell c).rd CADC_TEMP_OVT) < t →
    (s.cell c).rd CADC_STATUS_OVT = 0 →
    CellDoes (.housekeepingConversion c t v33 vret vcore) s c fun d e =>
      Cell.Keeps (CTRP_STATUS_WINDOW.key 0 :: CRET_VRET_MV.key 0 :: CRET_STATUS_CHARGING.key 0 :: CUPD_STATUS_AUX_LOW.key 0 ::
        CADC_STATUS_OVT.key 0 :: cellFaultKeys) d e ∧
      e = { d with bank := e.bank, adc := e.adc, trip := e.trip, ret := e.ret, lanes := e.lanes, out := e.out, freeIdx := e.freeIdx } ∧
      e.rd CADC_STATUS_OVT = 1 ∧ Cell.Raised c { d with trip := e.trip } e 0x8401 .alarm 0 0 ∧ e.trip.ms = d.trip.ms + 1) ∧
  (∀ (s : State) (c : CellId) (v : Word), (s.cell c).pow = .run → (s.cell c).rd CFLT_STATUS_DEADBOLT = 0 → popcount v.toNat 14 ≤ 4 →
    CellDoes (.cadcPrivWrite c v) s c fun d e => e = { d with sw := { d.sw with adcHeld := SMap.ins d.sw.adcHeld 0x310 v.toNat } }) ∧
  (∀ (s : State) (c : CellId) (v : Word), (s.cell c).pow = .run → (s.cell c).rd CFLT_STATUS_DEADBOLT = 0 → 4 < popcount v.toNat 14 →
    CellDoes (.cadcPrivWrite c v) s c fun d e =>
      e.rd CADC_STATUS_CFG_ERR = 1 ∧ Cell.Keeps [CADC_STATUS_CFG_ERR.key 0] d e ∧ e = { d with bank := e.bank }) ∧
  (∀ (s : State) (c : CellId) (v : Word), (s.cell c).pow = .run → (s.cell c).rd CFLT_STATUS_DEADBOLT = 0 → bitOf v.toNat 0 = true →
    (s.cell c).adc.calRun = false →
    CellDoes (.cadcCalReq c v) s c fun d e =>
      e.rd CADC_CAL_REQ = 1 ∧ e.rd CADC_CAL_GAP = max 1 (bits v.toNat 15 8) ∧ e.adc = { d.adc with calReq := true } ∧
      Cell.Keeps [CADC_CAL_REQ.key 0, CADC_CAL_GAP.key 0] d e ∧ e = { d with bank := e.bank, adc := e.adc }) ∧
  (∀ (s : State) (c : CellId), (s.cell c).pow = .run → (s.cell c).adc.calReq = true → (s.cell c).adc.calRun = false → (s.cell c).adc.job = .none →
    (s.cell c).idleRuns = true →
    CellDoes (.calibrationSliceStart c) s c fun d e =>
      e.rd CADC_CAL_REQ = 0 ∧ e.rd CADC_STATUS_CAL_BUSY = 1 ∧ e.rd CADC_CAL_SLICES = 0 ∧
      e.adc = { d.adc with calReq := false, calRun := true, slice := true, got := 0, sinceSlice := 0 } ∧
      Cell.Keeps [CADC_CAL_REQ.key 0, CADC_STATUS_CAL_BUSY.key 0, CADC_CAL_SLICES.key 0] d e ∧ e = { d with bank := e.bank, adc := e.adc }) ∧
  (∀ (s : State) (c : CellId), (s.cell c).pow = .run → (s.cell c).adc.calRun = true → (s.cell c).rd CADC_CAL_SLICES = 10 →
    CellDoes (.calibrationDone c true) s c fun d e =>
      e.rd CADC_STATUS_CAL_BUSY = 0 ∧ e.adc = { d.adc with calRun := false, calNew := true } ∧
      Cell.Keeps [CADC_STATUS_CAL_BUSY.key 0] d e ∧ e = { d with bank := e.bank, adc := e.adc }) ∧
  (∀ (s : State) (c : CellId), (s.cell c).pow = .run → (s.cell c).adc.calRun = true → (s.cell c).rd CADC_CAL_SLICES = 10 →
    CellDoes (.calibrationDone c false) s c fun d e =>
      Cell.Keeps (CADC_STATUS_CAL_BUSY.key 0 :: CADC_STATUS_CAL_FAIL.key 0 :: cellFaultKeys) d e ∧
      e = { d with bank := e.bank, adc := e.adc, ret := e.ret, lanes := e.lanes, out := e.out, freeIdx := e.freeIdx } ∧
      e.rd CADC_STATUS_CAL_BUSY = 0 ∧ e.rd CADC_STATUS_CAL_FAIL = 1 ∧ e.adc = { d.adc with calRun := false, calNew := false } ∧
      Cell.Raised c d e 0x8402 .alarm 0 0) ∧
  (∀ (s : State) (c : CellId) (x : BitVec 24) (k t : BitVec 16), (s.cell c).pow = .run → (s.cell c).ident.variant = 1 →
    (s.cell c).rd CDSM_CTL_EN = 1 → 17 ≤ (s.cell c).adc.dsm →
    CellDoes (.dsmOutput c x false k t) s c fun d e =>
      Cell.Keeps [CDSM_STATUS_SETTLED.key 0, CDSM_DATA_CNT.key 0, CDSM_DATA_DATA.key 0, CDSM_VCAP_VCAP.key 0, CDSM_TS_CYCLE.key 0,
        CDSM_TS_TICK.key 0] d e ∧
      e.rd CDSM_DATA_DATA = x.toNat ∧ e.rd CDSM_DATA_CNT = (d.rd CDSM_DATA_CNT + 1) % 256 ∧ e.rd CDSM_STATUS_SETTLED = 1 ∧
      e.rd CDSM_TS_CYCLE = k.toNat ∧ e.rd CDSM_TS_TICK = t.toNat ∧
      e.rd CDSM_VCAP_VCAP = (clampInt 0 65535 (roundAway (sext 24 x.toNat * (d.rd CDSM_CTL_SCALE : Nat)) (2 ^ 24))).toNat % 2 ^ 16 ∧
      e.adc = { d.adc with dsm := d.adc.dsm + 1, dsmClean := true } ∧ e = { d with bank := e.bank, adc := e.adc })

/-- The retention domain and sleep (09_cell_measurement_and_sleep.md R334 to R346, Table 9.8). The definitions behind it follow the model's log entries 4, 77. -/
def Obligations.CellRetentionAndSleepTakeEffect : Prop :=
  (∀ (s : State) (c : CellId) (a : Nat), (s.cell c).pow ≠ .off → a / 4 < 0x1FFF →
    CellDoes (.retentionScrub c a .corrected) s c fun d e =>
      e.rd CRET_SCRUB_CORR = min (d.rd CRET_SCRUB_CORR + 1) 255 ∧ Cell.Keeps [CRET_SCRUB_CORR.key 0] d e ∧ e = { d with bank := e.bank }) ∧
  (∀ (s : State) (c : CellId) (i : Nat), (s.cell c).pow = .sleep → i < 64 →
    CellDoes (.retentionScrub c (0x100 + 4 * i) .uncorrectable) s c fun d e =>
      e.rd CRET_SCRUB_UNCORR = min (d.rd CRET_SCRUB_UNCORR + 1) 255 ∧ e.rd CRET_STATUS_UNCORR = 1 ∧ SMap.get 0 e.ret.counters i = 0 ∧
      e.ret.errWait = true ∧ Cell.Keeps [CRET_SCRUB_UNCORR.key 0, CRET_STATUS_UNCORR.key 0] d e ∧ e = { d with bank := e.bank, ret := e.ret }) ∧
  (∀ (s : State) (c : CellId) (mv : Nat), (s.cell c).pow = .run → mv < 2600 → (s.cell c).rd CRET_STATUS_RET_LOW = 0 →
    CellDoes (.retentionSupplyCheck c mv) s c fun d e =>
      Cell.Keeps (CRET_STATUS_RET_LOW.key 0 :: cellFaultKeys) d e ∧
      e = { d with bank := e.bank, ret := e.ret, lanes := e.lanes, out := e.out, freeIdx := e.freeIdx } ∧
      e.rd CRET_STATUS_RET_LOW = 1 ∧ Cell.Raised c d e 0x8602 .alarm 0 0) ∧
  (∀ (s : State) (c : CellId) (v : Word), (s.cell c).pow = .run → (s.cell c).rd CFLT_STATUS_DEADBOLT = 0 →
    0x1000 ≤ (s.cell c).rd CRET_WIN_ADDR_ADDR →
    CellDoes (.cretWinDataAccess c (some v)) s c fun d e =>
      e = { d with ret := { d.ret with station := SMap.put 0 d.ret.station (d.rd CRET_WIN_ADDR_ADDR - 0x1000) v.toNat } }) ∧
  (∀ (s : State) (c : CellId), (s.cell c).pow = .run → 0x1000 ≤ (s.cell c).rd CRET_WIN_ADDR_ADDR →
    CellDoes (.cretWinDataAccess c none) s c fun d e =>
      e = { d with rdata := SMap.get 0 d.ret.station (d.rd CRET_WIN_ADDR_ADDR - 0x1000) }) ∧
  (∀ (s : State) (c : CellId), (s.cell c).pow = .run → (s.cell c).sw.st ≠ .bolted →
    CellDoes (.sleep c) s c fun d e =>
      Cell.KeepsOut cellFaultKeys [cpwmBlock] d e ∧
      e = { d with bank := e.bank, pow := e.pow, sw := e.sw, trip := e.trip, ret := e.ret, lanes := e.lanes, out := e.out,
                   freeIdx := e.freeIdx } ∧
      e.pow = .sleep ∧ e.rd CPWM_GATES_STATE = 0 ∧ e.rd CPWM_STATUS_MODE_NOW = 0 ∧ e.sw.plan = [] ∧
      (∃ x, SMap.get none e.ret.log (d.rd CRET_LOG_IDX_HEAD) = some x ∧ x.r.code = 0x8F02) ∧
      e.rd CRET_LOG_IDX_HEAD = (d.rd CRET_LOG_IDX_HEAD + 1) % 256 ∧ e.trip = { d.trip with firing := false }) ∧
  (∀ (s : State) (c : CellId), (s.cell c).pow = .sleep →
    CellDoes (.retentionSupplyLost c) s c fun d e =>
      e.pow = .off ∧ e.rd CRET_STATUS_VALID = 0 ∧ e.ret = { d.ret with latch := false } ∧ Cell.Keeps [CRET_STATUS_VALID.key 0] d e ∧
      e = { d with bank := e.bank, pow := e.pow, ret := e.ret })

/-- UPDATE frames at a concentrator and a cell, and the relay to the cells (17_updates.md R535, R538, R540, R542 to R548; 14_faults.md R464). A leaf
receives none. The definitions behind it follow the model's log entries 4, 31, 50. -/
def Obligations.UpdateFramesTakeEffect : Prop :=
  (∀ (s : State) (n : Conc) (u : UpdFrame), (s.conc n).rd AFLT_STATUS_DEADBOLT = 0 → (s.conc n).fw.up = true → u.dest = false →
    u.session = (s.conc n).fw.tag → (s.conc n).fw.sess.st = 1 → u.frag < 63 →
    ConcDoes (.updateData (.conc n) u) s n fun d e =>
      Concentrator.Keeps concFwKeys d e ∧
      e.fw.dataIndex = u.index ∧ SMap.get [] e.fw.dataFrags u.frag = u.data ∧ e.fw.sess = d.fw.sess ∧ e.fw.ptr = d.fw.ptr ∧
      e = { d with bank := e.bank, fw := { d.fw with dataIndex := e.fw.dataIndex, dataFrags := e.fw.dataFrags } }) ∧
  (∀ (s : State) (n : Conc) (u : UpdFrame), (s.conc n).rd AFLT_STATUS_DEADBOLT = 0 → (s.conc n).fw.up = true → u.dest = true →
    ConcDoes (.updateData (.conc n) u) s n fun d e => e = { d with relay := d.relay ++ [(0, u)] }) ∧
  (∀ (s : State) (c : CellId) (u : UpdFrame), (s.cell c).pow = .run → (s.cell c).rd CFLT_STATUS_DEADBOLT = 0 → (s.cell c).fw.sess.st = 0 →
    joinFrags 32 16 (SMap.put [] (if u.session = (s.cell c).fw.newTag then (s.cell c).fw.hdrFrags else []) u.frag u.data) = none →
    CellDoes (.updateHeader (.cell c) u) s c fun d e =>
      Cell.Keeps cellFwKeys d e ∧
      e.fw.newTag = u.session ∧ SMap.get [] e.fw.hdrFrags u.frag = u.data ∧
      e = { d with bank := e.bank, fw := { d.fw with newTag := e.fw.newTag, hdrFrags := e.fw.hdrFrags } }) ∧
  (∀ (s : State) (n : Conc) (u : UpdFrame), (s.conc n).rd AFLT_STATUS_DEADBOLT = 0 → (s.conc n).fw.up = true →
    ConcDoes (.updateSelect (.conc n) u) s n fun d e => e = { d with relayMask := portMask u.words }) ∧
  (∀ (s : State) (n : Conc) (u : UpdFrame), (s.conc n).rd AFLT_STATUS_DEADBOLT = 0 → (s.conc n).fw.up = true → u.dest = false →
    u.session = (s.conc n).fw.tag → (s.conc n).fw.sess.st = 2 →
    ConcDoes (.updateVerify (.conc n) u) s n fun d e =>
      Concentrator.Keeps concFwKeys d e ∧
      (Config.sha384 d.fw.idle.body = pkHash d.fw.sess.hdr → e.fw.sess.st = 4 ∧ e.fw.idle.hash = some (pkHash d.fw.sess.hdr) ∧
        e.rd AID_FW_STATUS_SESSION = 4) ∧
      (Config.sha384 d.fw.idle.body ≠ pkHash d.fw.sess.hdr → e.fw.sess.st = 1 ∧ e.fw.sess.bits = [] ∧ e.rd AID_FW_STATUS_SESSION = 1) ∧
      e = { d with bank := e.bank, fw := e.fw }) ∧
  (∀ (s : State) (c : CellId) (u : UpdFrame), (s.cell c).pow = .run → (s.cell c).rd CFLT_STATUS_DEADBOLT = 0 → (s.cell c).fw.canActivate u = true →
    (s.cell c).rd CUPD_STATUS_AUX_LOW = 0 → (s.cell c).sw.st = .ready →
    CellDoes (.updateActivate (.cell c) u) s c fun d e =>
      Cell.KeepsOut (CBYP_STATUS_FIRED.key 0 :: cellFwKeys) [cpwmBlock] d e ∧
      e.sw.st = .updating ∧ e.rd CPWM_GATES_STATE = 0 ∧ e.fw.ptr.newest.trial = true ∧ e.fw.ptr.newest.second = !d.fw.run ∧ e.fw.sess = {} ∧
      e = { d with bank := e.bank, sw := e.sw, fw := e.fw }) ∧
  (∀ (s : State) (c : CellId) (u : UpdFrame), (s.cell c).pow = .run → (s.cell c).rd CFLT_STATUS_DEADBOLT = 0 → (s.cell c).fw.canActivate u = true →
    (s.cell c).rd CUPD_STATUS_AUX_LOW = 1 →
    CellDoes (.updateActivate (.cell c) u) s c fun d e =>
      e.rd CUPD_STATUS_ACT_REFUSED = 1 ∧ Cell.Keeps [CUPD_STATUS_ACT_REFUSED.key 0] d e ∧ e = { d with bank := e.bank }) ∧
  (∀ (s : State) (n : Conc) (u : UpdFrame), (s.conc n).rd AFLT_STATUS_DEADBOLT = 0 → (s.conc n).fw.up = true → u.dest = false →
    (s.conc n).fw.canActivate u = true →
    ConcDoes (.updateActivate (.conc n) u) s n fun d e =>
      Concentrator.ResetOut (isOneOf (AFLT_STATUS_DEADBOLT :: concStored)) concFwKeys d e ∧
      e = { ident := d.ident, bank := e.bank, out := e.out, freeIdx := d.freeIdx, fw := e.fw } ∧
      e.fw.ptr.newest.trial = true ∧ e.fw.ptr.newest.second = (!d.fw.run) ∧ e.fw.up = false ∧ e.flt = {} ∧ e.sw = {}) ∧
  (∀ (s : State) (c : CellId) (u : UpdFrame), (s.cell c).pow = .run → (s.cell c).rd CFLT_STATUS_DEADBOLT = 0 →
    (s.cell c).fw.ptr.newest.trial = true →
    CellDoes (.updateConfirm (.cell c) u) s c fun d e =>
      Cell.Keeps cellFwKeys d e ∧
      e.fw.ptr.newest.trial = false ∧ e.fw.ptr.newest.second = d.fw.ptr.newest.second ∧ e.rd CUPD_STATUS_TRIAL = 0 ∧
      e = { d with bank := e.bank, fw := { d.fw with ptr := e.fw.ptr } }) ∧
  (∀ (s : State) (c : CellId) (u : UpdFrame), (s.cell c).pow = .run → (s.cell c).rd CFLT_STATUS_DEADBOLT = 0 → u.session = (s.cell c).fw.tag →
    (s.cell c).fw.sess.st ≠ 0 →
    CellDoes (.updateAbort (.cell c) u) s c fun d e =>
      Cell.Keeps cellFwKeys d e ∧
      e.fw.sess = {} ∧ e.fw.idle = {} ∧ e.rd CUPD_STATUS_SESSION = 0 ∧ e.fw.ptr = d.fw.ptr ∧ e = { d with bank := e.bank, fw := e.fw }) ∧
  (∀ (s : State) (c : CellId) (u : UpdFrame) (v : Nat), (s.cell c).pow = .run → (s.cell c).rd CFLT_STATUS_DEADBOLT = 0 → u.words = [v] →
    CellDoes (.updateFloor (.cell c) u) s c fun d e =>
      e.rd CUPD_FLOOR_FLOOR = max v (d.rd CUPD_FLOOR_FLOOR) % 2 ^ 32 ∧ Cell.Keeps [CUPD_FLOOR_FLOOR.key 0] d e ∧ e = { d with bank := e.bank }) ∧
  (∀ (s : State) (n : Conc) (u : UpdFrame), (s.conc n).rd AFLT_STATUS_DEADBOLT = 0 → (s.conc n).fw.up = true → (s.conc n).relay = [(2, u)] →
    (s.conc n).relayMask = 1 → (s.conc n).laneUp (.port n 0) = true → ((s.conc n).sender (.port n 0)).unacked = [] →
    ConcDoes (.distributionPieceSend n) s n fun d e =>
      e.relay = [] ∧ e.out = d.out ++ [.frame (.port n 0) 9 [cellUpd 2 u]] ∧ e = { d with relay := [], out := e.out, lanes := e.lanes }) ∧
  (∀ (s : State) (l : LeafId) (u : UpdFrame) (i : Instr), i ∈ [.updateData (.leaf l) u, .updateHeader (.leaf l) u, .updateSelect (.leaf l) u,
      .updateVerify (.leaf l) u, .updateActivate (.leaf l) u, .updateConfirm (.leaf l) u, .updateAbort (.leaf l) u, .updateFloor (.leaf l) u] →
    LeafDoes i s l fun d e => e = d)

/-- The wakes of a cell, the end of its restart, and the age of a trial (09_cell_measurement_and_sleep.md R344, R345; 17_updates.md R537, R545). The definitions behind it follow the model's log entry 31. -/
def Obligations.WakesAndTrialsTakeEffect : Prop :=
  (∀ (s : State) (c : CellId), (s.cell c).pow ≠ .run → (s.cell c).retValid = false → (s.cell c).held = false → (s.cell c).rd CBYP_STATUS_AUX = 0 →
    CellDoes (.wakeFromOff c) s c fun d e =>
      Cell.ResetOut offFields wakeKeys [] d e ∧
      e.fw = d.fw.boot d.ident.revoked (d.rd CUPD_FLOOR_FLOOR % 2 ^ 32) ∧
      e = { ident := d.ident, bank := e.bank, out := e.out, freeIdx := e.freeIdx, lanes := e.lanes, rdata := d.rdata, fw := e.fw, pow := .run,
            sw := { st := e.sw.st }, trip := e.trip, adc := { calReq := true }, ret := e.ret } ∧
      e.pow = .run ∧ e.sw.st = .starting ∧ e.ret.latch = true ∧ e.rd CRET_STATUS_VALID = 1 ∧ e.rd CRET_STATUS_FROM_OFF = 1 ∧
      e.rd CRET_STATUS_WAKES = 1 ∧ e.rd (XX_STATE_STATE.at 0x400) = 1 ∧ e.adc.calReq = true ∧
      (∃ x, SMap.get none e.ret.log 0 = some x ∧ x.r.code = 0x8F01) ∧ e.ident = d.ident) ∧
  (∀ (s : State) (c : CellId), (s.cell c).pow = .sleep → (s.cell c).retValid = true → (s.cell c).held = false → (s.cell c).ret.errWait = false →
    (s.cell c).rd CBYP_STATUS_AUX = 0 →
    CellDoes (.wakeFromSleep c) s c fun d e =>
      Cell.ResetOut keptFields wakeKeys [] d e ∧
      e.fw = d.fw.boot d.ident.revoked (d.rd CUPD_FLOOR_FLOOR % 2 ^ 32) ∧
      e = { ident := d.ident, bank := e.bank, out := e.out, freeIdx := e.freeIdx, lanes := e.lanes, rdata := d.rdata, fw := e.fw, pow := .run,
            sw := { st := e.sw.st }, trip := e.trip, adc := { calReq := true },
            ret := { d.ret with log := e.ret.log, logSeq := e.ret.logSeq } } ∧
      e.pow = .run ∧ e.rd CRET_STATUS_WAKES = min (d.rd CRET_STATUS_WAKES + 1) 65535 ∧ e.ret.counters = d.ret.counters ∧
      (d.ret.bolt0 = true → e.sw.st = .bolted ∧ e.rd CBYP_STATUS_BOLTED = 1) ∧
      (d.ret.bolt0 = false → d.ret.bolt1 = false → d.ret.bolt2 = false → e.sw.st = .starting ∧ e.rd CBYP_STATUS_BOLTED = 0) ∧
      e.rd (XX_STATE_STATE.at 0x400) = 1 ∧ e.adc.calReq = true) ∧
  (∀ (s : State) (c : CellId), (s.cell c).pow = .run → (s.cell c).sw.st = .updating → (s.cell c).rd CTRP_STATUS_SEEN = 0 →
    CellDoes (.updateRestartDone c) s c fun d e =>
      Cell.ResetOut (keptFields ++ restartFields) (CADC_CAL_REQ.key 0 :: CBYP_STATUS_BOLTED.key 0 :: CBYP_STATUS_FIRED.key 0 :: cellFwKeys)
        [(0x400, 0x480)] d e ∧
      (∀ (g : Fld) (j : Nat), 32 * 0x400 ≤ g.key j → g.key j < 32 * 0x428 → e.rd g j = d.rd g j) ∧
      e = { d with bank := e.bank, remote := [], fw := e.fw, sw := e.sw, adc := { calReq := true, seq := d.adc.seq } } ∧
      e.sw.st = .starting ∧ e.adc.calReq = true ∧ e.rd CADC_CAL_REQ = 1 ∧ e.rd CBYP_STATUS_BOLTED = 0 ∧ e.pow = .run ∧ e.ret = d.ret ∧ e.trip = d.trip) ∧
  (∀ (s : State) (l : LeafId) (secs : Nat), (s.leaf l).running = true → (s.leaf l).upd.boot.newest.trial = true →
    (s.leaf l).upd.boot.newest.age + secs < 86400 → (s.leaf l).upd.kptr.newest.trial = false →
    LeafDoes (.trialAgeUpdate (.leaf l) secs) s l fun d e =>
      Leaf.Keeps ptrKeys d e ∧
      e.upd.boot.newest.age = d.upd.boot.newest.age + secs ∧ e.rd UPD_BOOT_AGE_AGE = d.upd.boot.newest.age + secs ∧
      e.upd.boot.newest.trial = true ∧ e = { d with bank := e.bank, upd := { d.upd with boot := e.upd.boot } }) ∧
  (∀ (s : State) (c : CellId) (secs : Nat), (s.cell c).pow = .run → (s.cell c).fw.up = true → (s.cell c).fw.ptr.newest.trial = true →
    (s.cell c).restarting = false → (s.cell c).fw.ptr.newest.age + secs < 86400 →
    CellDoes (.trialAgeUpdate (.cell c) secs) s c fun d e =>
      Cell.Keeps cellFwKeys d e ∧
      e.fw.ptr.newest.age = d.fw.ptr.newest.age + secs ∧ e.rd CUPD_TRIAL_AGE_AGE = d.fw.ptr.newest.age + secs ∧
      e = { d with bank := e.bank, fw := { d.fw with ptr := e.fw.ptr } }) ∧
  (∀ (s : State) (l : LeafId) (secs : Nat), (s.leaf l).trialOver secs = false →
    LeafDoes (.trialExpired (.leaf l) secs) s l fun d e => e = d) ∧
  (∀ (s : State) (l : LeafId) (secs : Nat), (s.leaf l).running = true → (s.leaf l).upd.boot.newest.trial = true →
    86400 ≤ (s.leaf l).upd.boot.newest.age + secs → (s.leaf l).upd.kptr.newest.trial = false → (s.leaf l).moving = true → (s.leaf l).upd.fwWait = false →
    LeafDoes (.trialExpired (.leaf l) secs) s l fun d e =>
      Leaf.Keeps (UPD_STATUS_FALLBACK_WAIT.key 0 :: ptrKeys ++ faultKeys) d e ∧
      e = { d with bank := e.bank, upd := e.upd, flt := e.flt, out := e.out } ∧
      e.upd.fwWait = true ∧ e.rd UPD_STATUS_FALLBACK_WAIT = 1 ∧ d.Raised e 0x2A01 .alarm 0 0 0x101 ∧ e.conv = d.conv) ∧
  (∀ (s : State) (l : LeafId) (secs : Nat), (s.leaf l).running = true → (s.leaf l).upd.boot.newest.trial = true →
    86400 ≤ (s.leaf l).upd.boot.newest.age + secs → (s.leaf l).upd.kptr.newest.trial = false → (s.leaf l).moving = false →
    LeafDoes (.trialExpired (.leaf l) secs) s l fun d e =>
      d.WarmReset 5 e ∧
      e.upd = { d.keptUpd with boot := e.upd.boot } ∧
      e.upd.boot.newest.second = (!d.upd.boot.newest.second) ∧ e.upd.boot.newest.trial = false ∧ e.upd.boot.newest.fellBack = true ∧
      e.rd PWR_STATUS_CAUSE = 5 ∧ e.pwr.step = 3 ∧ e.hng.role = .starting) ∧
  (∀ (s : State) (n : Conc) (secs : Nat), (s.conc n).fw.up = true → (s.conc n).fw.ptr.newest.trial = true →
    86400 ≤ (s.conc n).fw.ptr.newest.age + secs → (s.conc n).moving = false →
    ConcDoes (.trialExpired (.conc n) secs) s n fun d e =>
      Concentrator.ResetOut (isOneOf (AFLT_STATUS_DEADBOLT :: concStored)) (AID_FW_STATUS_FELL_BACK.key 0 :: concFwKeys) d e ∧
      e = { ident := d.ident, bank := e.bank, out := e.out, freeIdx := d.freeIdx, fw := e.fw } ∧
      e.fw.ptr.newest.second = (!d.fw.ptr.newest.second) ∧ e.fw.ptr.newest.trial = false ∧ e.rd AID_FW_STATUS_FELL_BACK = 1 ∧ e.fw.up = false) ∧
  (∀ (s : State) (c : CellId) (secs : Nat), (s.cell c).pow = .run → (s.cell c).fw.up = true → (s.cell c).fw.ptr.newest.trial = true →
    (s.cell c).restarting = false → 86400 ≤ (s.cell c).fw.ptr.newest.age + secs → (s.cell c).conv = 4 →
    CellDoes (.trialExpired (.cell c) secs) s c fun d e =>
      Cell.Keeps cellFwKeys d e ∧
      e = { d with bank := e.bank, fw := e.fw } ∧
      e.fw.fallbackWait = true ∧ e.sw = d.sw ∧ e.pow = .run)

/-- The supplies and the warm reset (19_power_reset_startup.md R572 to R574, R578, R579, Table 19.7). The definitions behind it follow the model's log entries 1, 32, 49. -/
def Obligations.SuppliesAndWarmResetTakeEffect : Prop :=
  (∀ (s : State) (l : LeafId) (r : Fin 7), 2 ≤ (s.leaf l).pwr.step → r ≠ 5 → bitOf ((s.leaf l).rd PWR_RAIL_ERR_OUT) r.val = false →
    LeafDoes (.railOutOfRange l r) s l fun d e =>
      bitOf (e.rd PWR_RAIL_ERR_OUT) r.val = true ∧ bitOf (e.rd PWR_RAILS_IN_WINDOW) r.val = false ∧ d.Raised e 0x2C02 .trip r.val 0 0 ∧
      Leaf.Keeps (PWR_RAIL_ERR_OUT.key 0 :: PWR_RAILS_IN_WINDOW.key 0 :: faultKeys) d e ∧
      e = { d with bank := e.bank, flt := e.flt, conv := e.conv, out := e.out }) ∧
  (∀ (s : State) (l : LeafId) (r : Fin 7), 2 ≤ (s.leaf l).pwr.step → r ≠ 5 → bitOf ((s.leaf l).rd PWR_RAIL_ERR_OUT) r.val = true →
    LeafDoes (.railOutOfRange l r) s l fun d e =>
      Leaf.Keeps [PWR_RAIL_ERR_OUT.key 0, PWR_RAILS_IN_WINDOW.key 0] d e ∧
      bitOf (e.rd PWR_RAIL_ERR_OUT) r.val = true ∧ bitOf (e.rd PWR_RAILS_IN_WINDOW) r.val = false ∧ e = { d with bank := e.bank }) ∧
  (∀ (s : State) (l : LeafId) (mv : Nat), mv < (s.leaf l).rd PWR_VHOLD_THRESH → (s.leaf l).rd PWR_STATUS_AUX_LOW = 0 →
    LeafDoes (.holdUpLow l mv) s l fun d e =>
      e.rd PWR_VHOLD_MV = mv % 4096 ∧ e.rd PWR_STATUS_AUX_LOW = 1 ∧ d.Raised e 0x2C01 .alarm 0 0 0 ∧
      Leaf.Keeps (PWR_VHOLD_MV.key 0 :: PWR_STATUS_AUX_LOW.key 0 :: faultKeys) d e ∧ e = { d with bank := e.bank, flt := e.flt, out := e.out }) ∧
  (∀ (s : State) (l : LeafId) (mv : Nat), (s.leaf l).rd PWR_VHOLD_THRESH + 50 < mv →
    LeafDoes (.holdUpNormal l mv) s l fun d e =>
      e.rd PWR_VHOLD_MV = mv % 4096 ∧ e.rd PWR_STATUS_AUX_LOW = 0 ∧ e.rd UPD_STATUS_AUX_LOW = 0 ∧
      Leaf.Keeps [PWR_VHOLD_MV.key 0, PWR_STATUS_AUX_LOW.key 0, UPD_STATUS_AUX_LOW.key 0] d e ∧ e = { d with bank := e.bank }) ∧
  (∀ (s : State) (l : LeafId), (s.leaf l).writable = true → (s.leaf l).active = false →
    LeafDoes (.warmReset l 0x5AFE0001) s l fun d e =>
      d.WarmReset 3 e ∧
      e.upd = d.keptUpd ∧
      e.pwr = { step := 3, upAt := d.tim.c } ∧ e.rd PWR_STATUS_CAUSE = 3 ∧ e.rd PWR_STATUS_STAGE = 1 ∧
      e.rd PWR_CNT_WARM = min (d.rd PWR_CNT_WARM + 1) 65535 ∧ e.conv.st = .unkeyed ∧ e.hng = { partner := d.hng.partner } ∧
      e.tim.c = d.tim.c ∧ e.tim.ofs = d.tim.ofs ∧ e.tim.cyc = d.tim.cyc ∧ e.hnd = { mram := d.hnd.mram, jnext := d.hnd.jnext } ∧ e.saf = d.saf) ∧
  (∀ (s : State) (l : LeafId), (s.leaf l).writable = true → (s.leaf l).active = true → (s.leaf l).is HNG_STATUS_PARTNER_STANDING = false →
    (s.leaf l).moving = true →
    LeafDoes (.warmReset l 0x5AFE0001) s l fun d e =>
      e.rd PWR_STATUS_WARM_REFUSED = 1 ∧ Leaf.Keeps [PWR_STATUS_WARM_REFUSED.key 0] d e ∧ e = { d with bank := e.bank }) ∧
  (∀ (s : State) (l : LeafId) (v : Word), bits v.toNat 31 16 ≠ 0x5AFE →
    LeafDoes (.warmReset l v) s l fun d e => e = d)

/-- The resets of a leaf, of a concentrator and of a cell (19_power_reset_startup.md R575 to R577, R585, Tables 19.2, 19.3). The definitions behind it follow the model's log entries 1, 31, 32, 97. -/
def Obligations.ResetsTakeEffect : Prop :=
  (∀ (s : State) (l : LeafId),
    LeafDoes (.fullPowerOnReset (.leaf l)) s l fun d e =>
      Leaf.ResetOut (isOneOf storedFields) showKeys d e ∧
      e = { ident := d.ident, out := e.out, freeIdx := d.freeIdx, bank := e.bank, upd := d.keptUpd, hnd := d.keptHnd } ∧
      e.rd KEY_FLOOR_FLOOR = d.rd KEY_FLOOR_FLOOR ∧ e.rd FLT_STATUS_DEADBOLT = 0 ∧ e.rd CYC_PERIOD_PERIOD = CYC_PERIOD_PERIOD.rst ∧
      e.out.getLast? = some (.pin "DEADBOLT_N" 1)) ∧
  (∀ (s : State) (l : LeafId),
    LeafDoes (.corePowerOnReset (.leaf l)) s l fun d e =>
      Leaf.ResetOut (isOneOf (storedFields ++ latchFields)) (PWR_CNT_PIN.key 0 :: PWR_STATUS_CAUSE.key 0 :: showKeys) d e ∧
      e = { ident := d.ident, out := e.out, freeIdx := d.freeIdx, bank := e.bank, upd := d.keptUpd, hnd := d.keptHnd,
            conv := { boltPend := d.is FLT_STATUS_DEADBOLT } } ∧
      e.pwr = {} ∧ e.hng = {} ∧ e.flt = {} ∧ e.tim = {} ∧ e.key = {} ∧ e.upd = d.keptUpd ∧ e.hnd = d.keptHnd ∧ e.rd PWR_STATUS_CAUSE = 1 ∧
      e.rd PWR_CNT_PIN = min (d.rd PWR_CNT_PIN + 1) 65535 ∧ e.rd FLT_STATUS_DEADBOLT = d.rd FLT_STATUS_DEADBOLT ∧
      e.rd FLT_DBOLT_CODE = d.rd FLT_DBOLT_CODE ∧ e.rd SAF_CFG_LOCK = 0) ∧
  (∀ (s : State) (l : LeafId),
    LeafDoes (.pinReset (.leaf l)) s l fun d e =>
      Leaf.ResetOut (isOneOf (storedFields ++ latchFields ++ lockedFields)) (PWR_CNT_PIN.key 0 :: PWR_STATUS_CAUSE.key 0 :: showKeys) d e ∧
      e = { ident := d.ident, out := e.out, freeIdx := d.freeIdx, bank := e.bank, upd := d.keptUpd, hnd := d.keptHnd,
            conv := { boltPend := d.is FLT_STATUS_DEADBOLT }, pwr := { held := true } } ∧
      e.pwr = { held := true } ∧ e.hng = {} ∧ e.flt = {} ∧ e.upd = d.keptUpd ∧ e.hnd = d.keptHnd ∧ e.rd PWR_STATUS_CAUSE = 2 ∧
      e.rd FLT_STATUS_DEADBOLT = d.rd FLT_STATUS_DEADBOLT ∧ e.rd SAF_CFG_LOCK = d.rd SAF_CFG_LOCK) ∧
  (∀ (s : State) (l : LeafId), (s.leaf l).pwr.held = true →
    LeafDoes (.pinResetRelease (.leaf l)) s l fun d e =>
      Leaf.Keeps [SAF_GRP_STATE_STATE.key 0, SAF_STATUS_RUNNING.key 0, SAF_STATUS_DEMAND.key 0, SAF_OUT_ON.key 0, SAF_OUT_READBACK.key 0] d e ∧
      e = { d with bank := e.bank, pwr := e.pwr, out := e.out } ∧
      e.pwr = { d.pwr with held := false, step := 2, upAt := d.tim.c } ∧ e.rd SAF_GRP_STATE_STATE = 0) ∧
  (∀ (s : State) (n : Conc),
    ConcDoes (.fullPowerOnReset (.conc n)) s n fun d e =>
      Concentrator.ResetOut (isOneOf concStored) concFwKeys d e ∧
      e = { ident := d.ident, bank := e.bank, out := e.out, freeIdx := d.freeIdx, fw := e.fw } ∧
      e.flt = {} ∧ e.sw = {} ∧ e.lanes = [] ∧ e.fw.up = false ∧ e.fw.ptr = d.fw.ptr ∧ e.rd AFLT_STATUS_DEADBOLT = 0 ∧
      e.rd AID_FW_FLOOR_FLOOR = d.rd AID_FW_FLOOR_FLOOR) ∧
  (∀ (s : State) (n : Conc) (i : Instr), i ∈ [.corePowerOnReset (.conc n), .pinReset (.conc n)] →
    ConcDoes i s n fun d e =>
      Concentrator.ResetOut (isOneOf (AFLT_STATUS_DEADBOLT :: concStored)) concFwKeys d e ∧
      e = { ident := d.ident, bank := e.bank, out := e.out, freeIdx := d.freeIdx, fw := e.fw } ∧
      e.flt = {} ∧ e.sw = {} ∧ e.lanes = [] ∧ e.fw.up = false ∧ e.rd AFLT_STATUS_DEADBOLT = d.rd AFLT_STATUS_DEADBOLT ∧
      e.rd AID_FW_FLOOR_FLOOR = d.rd AID_FW_FLOOR_FLOOR) ∧
  (∀ (s : State) (c : CellId), (s.cell c).pow = .run →
    CellDoes (.pinReset (.cell c)) s c fun d e =>
      Cell.Keeps [CPWM_GATES_G.key 0, CPWM_GATES_SOFT_OFF.key 0] d e ∧
      e = { d with bank := e.bank, sw := e.sw, trip := e.trip, pow := e.pow, held := e.held, out := e.out } ∧
      e.pow = .sleep ∧ e.held = true ∧ (∀ g < 4, bitOf (e.rd CPWM_GATES_G) g = false) ∧ e.rd CPWM_GATES_SOFT_OFF = 0 ∧ e.ret = d.ret ∧
      (d.sw.st = .bolted → e.trip = d.trip) ∧ (d.sw.st ≠ .bolted → e.trip = { d.trip with firing := false })) ∧
  (∀ (s : State) (c : CellId), (s.cell c).held = true → (s.cell c).retValid = true →
    CellDoes (.pinResetRelease (.cell c)) s c fun d e =>
      Cell.ResetOut keptFields (CFLT_STATUS_DEADBOLT.key 0 :: wakeKeys) [] d e ∧
      e = { ident := d.ident, bank := e.bank, out := e.out, freeIdx := e.freeIdx, lanes := e.lanes, rdata := d.rdata, fw := e.fw, pow := .run,
            sw := { st := e.sw.st }, trip := e.trip, adc := { calReq := true }, ret := e.ret } ∧
      e.pow = .run ∧ e.held = false ∧ e.rd CFLT_STATUS_DEADBOLT = b2n (d.is CFLT_STATUS_DEADBOLT) ∧
      (d.is CFLT_STATUS_DEADBOLT = true → d.holdsBolt = false → e.sw.st = .tripBlocked) ∧ e.rd CRET_STATUS_WAKES = min (d.rd CRET_STATUS_WAKES + 1) 65535)

/-- Start-up (19_power_reset_startup.md R577, R581, R582, R584, Table 19.4; 17_updates.md R536). The definitions behind it follow the model's log entries 1, 32. -/
def Obligations.StartUpTakesEffect : Prop :=
  (∀ (s : State) (l : LeafId), (s.leaf l).pwr.step = 1 → (s.leaf l).pwr.held = false → (s.leaf l).ident.fuseOk = true →
    (s.leaf l).rd TIM_CLK_STATUS_STATE = 0 →
    LeafDoes (.resetTimerEnd l) s l fun d e => e = { d with pwr := { d.pwr with step := 2 } }) ∧
  (∀ (s : State) (l : LeafId), (s.leaf l).pwr.step = 1 → (s.leaf l).pwr.held = false → (s.leaf l).ident.fuseOk = false →
    (s.leaf l).rd TIM_CLK_STATUS_STATE = 0 →
    LeafDoes (.resetTimerEnd l) s l fun d e =>
      Leaf.Keeps faultKeys d e ∧
      e = { d with bank := e.bank, pwr := e.pwr, flt := e.flt, conv := e.conv, out := e.out } ∧
      e.pwr = { d.pwr with step := 2 } ∧ e.rd FLT_STATUS_DEADBOLT = 1 ∧ e.conv.boltPend = true ∧ d.Raised e 0x0003 .deadbolt 0 0 0) ∧
  (∀ (s : State) (l : LeafId), (s.leaf l).pwr.step = 3 →
    LeafDoes (.bootRomStart l) s l fun d e =>
      Leaf.KeepsOut (ID_FW_VER_VERSION.key 0 :: PWR_STATUS_STAGE.key 0 :: UPD_STATUS_FELL_BACK.key 0 :: ptrKeys ++ faultKeys) [lnkBlock,
        mirBlock] d e ∧
      e = { d with bank := e.bank, upd := e.upd, pwr := e.pwr, flt := e.flt, out := e.out } ∧
      e.upd.boot = (d.upd.boot.boot d.fwWard fun b => (d.fwWard b).bootable d.ident.revoked (d.rd UPD_Sk_FLOOR_FLOOR 0)).1 ∧
      ((d.upd.boot.boot d.fwWard fun b => (d.fwWard b).bootable d.ident.revoked (d.rd UPD_Sk_FLOOR_FLOOR 0)).2 = none →
        e.pwr.step = 0 ∧ e.rd PWR_STATUS_STAGE = 6) ∧
      (∀ b, (d.upd.boot.boot d.fwWard fun b => (d.fwWard b).bootable d.ident.revoked (d.rd UPD_Sk_FLOOR_FLOOR 0)).2 = some b →
        (e.pwr.step = 5 ∨ e.pwr.step = 6) ∧ e.upd.running = pkVersion (d.fwWard b).hdr ∧
        ∀ n : Conc, e.rd (XX_CTL_EN.at (0x220000 + 1024 * n.val)) = 1)) ∧
  (∀ (s : State) (n : Conc), (s.conc n).fw.up = false →
    ConcDoes (.concentratorStart n) s n fun d e =>
      Concentrator.KeepsOut (AGRT_STATUS_GRANT.key 0 :: concFwKeys) [(0x400, 0x480), (0x4000, 0x8000)] d e ∧
      e.fw = d.fw.boot d.ident.revoked (d.rd AID_FW_FLOOR_FLOOR) ∧
      (e.fw.up = true → e.rd AGRT_STATUS_GRANT = 2 ∧ e.rd (XX_CTL_EN.at 0x400) = 1 ∧ e.rd (XX_CTL_EN.at 0x440) = 1) ∧
      e = { d with bank := e.bank, fw := e.fw })

/-- Frames of the leaves at a concentrator (01_architecture.md R30; 03_control_cycle.md R106, R111; 04_tumblers_and_arm_modulation.md R157, R158;
10_flenor_links.md R356; 13_the_hinge.md R436, Tables 13.3, 13.6, 13.7). The definitions behind it follow the model's log entries 60, 62. -/
def Obligations.ConcentratorFramesTakeEffect : Prop :=
  (∀ (s : State) (n : Conc) (u : LeafId) (h : BitVec 128) (ws : List (BitVec 16)) (g : Nat), (s.conc n).laneUp (.uplinkConc n u) = true →
    bits h.toNat 127 124 = 1 → (s.conc n).pageOf (bits h.toNat 63 32) = some g → bits h.toNat 63 32 ≠ 0 →
    ws.length = ((s.conc n).mappedPorts g).length → bits h.toNat 31 16 = ws.length → (s.conc n).isPast (bits h.toNat 111 96) = false →
    (s.conc n).mayUse u (bits h.toNat 111 96) = true →
    ConcDoes (.commandSet n u h ws) s n fun d e =>
      e.sw.held = (d.sw.held.filter fun y => !(y.leaf = u.num && y.cycle = bits h.toNat 111 96)) ++
        [{ leaf := u.num, cycle := bits h.toNat 111 96, skip := false, use := true, block := false, conv := bits h.toNat 123 120,
           words := (d.mappedPorts g).zip (ws.map (·.toNat)) }] ∧
      e.sw.page = g ∧ e.sw.cutoff = bits h.toNat 79 64 ∧ e.seen u.num = some (bits h.toNat 111 96, true) ∧
      Concentrator.Keeps [AGRT_STATUS_AVAIL0.key 0, AGRT_STATUS_AVAIL1.key 0] d e ∧ e = { d with bank := e.bank, sw := e.sw }) ∧
  (∀ (s : State) (n : Conc) (u : LeafId) (h : BitVec 128) (ws : List (BitVec 16)) (g : Nat), (s.conc n).laneUp (.uplinkConc n u) = true →
    bits h.toNat 127 124 = 1 → (s.conc n).pageOf (bits h.toNat 63 32) = some g → bits h.toNat 63 32 ≠ 0 →
    bits h.toNat 31 16 ≠ ((s.conc n).mappedPorts g).length →
    ConcDoes (.commandSet n u h ws) s n fun d e =>
      Concentrator.Keeps ((XX_DROP_CTRL_BAD.at (laneBase (.uplinkConc n u))).key 0 :: AGRT_STATUS_AVAIL0.key 0 :: AGRT_STATUS_AVAIL1.key 0 ::
        concFaultKeys) d e ∧
      e = { d with bank := e.bank, flt := e.flt, sw := e.sw, lanes := e.lanes, out := e.out } ∧
      e.rd (XX_DROP_CTRL_BAD.at (laneBase (.uplinkConc n u))) = min (d.rd (XX_DROP_CTRL_BAD.at (laneBase (.uplinkConc n u))) + 1) 255 ∧
      d.Raised n e 0x5403 .note u.num 0 0 ∧ e.seen u.num = some (bits h.toNat 111 96, false) ∧
      e.sw = { d.sw with seen0 := e.sw.seen0, seen1 := e.sw.seen1 }) ∧
  (∀ (s : State) (n : Conc) (u : LeafId) (h : BitVec 128), (s.conc n).laneUp (.uplinkConc n u) = true → bits h.toNat 127 124 = 2 →
    bits h.toNat 63 32 = 0 → (s.conc n).isPast (bits h.toNat 111 96) = false → (s.conc n).mayUse u (bits h.toNat 111 96) = true →
    ConcDoes (.skip n u h) s n fun d e =>
      e.sw.held.getLast? = some { leaf := u.num, cycle := bits h.toNat 111 96, skip := true, use := true, block := false,
                                    conv := bits h.toNat 123 120, words := [] } ∧ e.seen u.num = some (bits h.toNat 111 96, true) ∧
      Concentrator.Keeps [AGRT_STATUS_AVAIL0.key 0, AGRT_STATUS_AVAIL1.key 0] d e ∧ e = { d with bank := e.bank, sw := e.sw }) ∧
  (∀ (s : State) (n : Conc) (u : LeafId) (b : BitVec 64), (s.conc n).laneUp (.uplinkConc n u) = true → bits b.toNat 63 60 = 7 →
    (s.conc n).mayUse u (bits b.toNat 59 44) = true →
    ConcDoes (.armInfo n u b) s n fun d e =>
      e.sw.iarm = bits b.toNat 31 0 ∧ e.sw.iarms.getLast? = some (u.num, bits b.toNat 59 44, bits b.toNat 31 0) ∧
      e = { d with sw := { d.sw with iarm := e.sw.iarm, iarms := e.sw.iarms } }) ∧
  (∀ (s : State) (n : Conc) (u : LeafId) (h : BitVec 128), (s.conc n).laneUp (.uplinkConc n u) = true → bits h.toNat 127 124 = 5 →
    ConcDoes (.standby n u h) s n fun d e =>
      e.seen u.num = some ((bits h.toNat 111 96 + 2) % 65536, bitOf h.toNat 118) ∧ e.seen u.other.num = d.seen u.other.num ∧
      Concentrator.Keeps [AGRT_STATUS_AVAIL0.key 0, AGRT_STATUS_AVAIL1.key 0] d e ∧ e = { d with bank := e.bank, sw := e.sw }) ∧
  (∀ (s : State) (n : Conc) (u : LeafId) (h : BitVec 128), (s.conc n).laneUp (.uplinkConc n u) = true → bits h.toNat 127 124 = 6 →
    (s.conc n).rd AGRT_STATUS_GRANT = u.num → bitOf h.toNat 118 = true →
    ConcDoes (.releaseFrame n u h) s n fun d e =>
      e.rd AGRT_STATUS_PEND_VALID = 1 ∧ e.rd AGRT_PEND_EFFECTIVE = bits h.toNat 111 96 ∧
      e.rd AGRT_CNT_RELEASES = min (d.rd AGRT_CNT_RELEASES + 1) 255 ∧
      Concentrator.Keeps [AGRT_STATUS_PEND_VALID.key 0, AGRT_PEND_EFFECTIVE.key 0, AGRT_CNT_RELEASES.key 0] d e ∧ e = { d with bank := e.bank }) ∧
  (∀ (s : State) (n : Conc) (u : LeafId) (h : BitVec 128), (s.conc n).laneUp (.uplinkConc n u) = true → bits h.toNat 127 124 = 6 →
    (s.conc n).rd AGRT_STATUS_GRANT = u.num → bitOf h.toNat 118 = false → (s.conc n).available n u.other.num = true →
    (s.conc n).rd AFLT_STATUS_DEADBOLT = 0 →
    ConcDoes (.releaseFrame n u h) s n fun d e =>
      Concentrator.Keeps (AGRT_CNT_RELEASES.key 0 :: grantKeys ++ concFaultKeys) d e ∧
      e = { d with bank := e.bank, flt := e.flt, lanes := e.lanes, out := e.out } ∧
      e.rd AGRT_STATUS_GRANT = u.other.num ∧ e.rd AGRT_LAST_CAUSE = 1 ∧ e.rd AGRT_LAST_CYCLE = d.nextLatch % 65536 ∧ e.rd AGRT_STATUS_MOVED = 1 ∧
      e.rd AGRT_CNT_MOVES = min (d.rd AGRT_CNT_MOVES + 1) 65535 ∧ e.sw = d.sw) ∧
  (∀ (s : State) (n : Conc) (u : LeafId) (h : BitVec 128), (s.conc n).laneUp (.uplinkConc n u) = true → bits h.toNat 127 124 = 6 →
    (s.conc n).rd AGRT_STATUS_GRANT ≠ u.num →
    ConcDoes (.releaseFrame n u h) s n fun d e => e = d)

/-- The replay instant, the grant and the control slots of a concentrator (03_control_cycle.md R110 to R112; 13_the_hinge.md Table 13.7; 14_faults.md
R449, R464; 10_flenor_links.md R361, R362; 19_power_reset_startup.md R584). The definitions behind it follow the model's log entries 61, 85. -/
def Obligations.ReplayInstantAndControlSlotTakeEffect : Prop :=
  (∀ (s : State) (n : Conc) (m : Nat) (x : HeldSet), m < 65536 → (s.conc n).isPast m = false → (s.conc n).rd AGRT_STATUS_PEND_VALID = 0 →
    (s.conc n).rd AGRT_STATUS_GRANT = x.leaf → x.leaf ≤ 1 → x.cycle = m → x.use = true → x.skip = false → (s.conc n).sw.held = [x] →
    ConcDoes (.replayInstant n m) s n fun d e =>
      Concentrator.Keeps [AGRT_STATUS_REPLAYS.key 0, AGRT_STATUS_MISS.key 0, AGRT_STATUS_BLOCKING.key 0, AGRT_STATUS_AVAIL0.key 0,
        AGRT_STATUS_AVAIL1.key 0] d e ∧
      e.sw.cur = some x ∧ e.sw.held = [] ∧ e.sw.passed = some m ∧ e.rd AGRT_STATUS_REPLAYS = 0 ∧ e.rd AGRT_STATUS_MISS = 0 ∧
      e.rd AGRT_STATUS_BLOCKING = 0 ∧ e.rd AGRT_STATUS_GRANT = x.leaf ∧ e = { d with bank := e.bank, sw := e.sw }) ∧
  (∀ (s : State) (n : Conc) (m : Nat), m < 65536 → (s.conc n).isPast m = false → (s.conc n).rd AGRT_STATUS_PEND_VALID = 0 →
    (s.conc n).rd AGRT_STATUS_GRANT ≤ 1 → (s.conc n).sw.held = [] →
    ConcDoes (.replayInstant n m) s n fun d e =>
      Concentrator.Keeps [AGRT_STATUS_REPLAYS.key 0, AGRT_STATUS_MISS.key 0, AGRT_STATUS_BLOCKING.key 0, AGRT_STATUS_AVAIL0.key 0,
        AGRT_STATUS_AVAIL1.key 0] d e ∧
      e.sw.cur = none ∧ e.sw.passed = some m ∧ e.rd AGRT_STATUS_REPLAYS = min (d.rd AGRT_STATUS_REPLAYS + 1) 15 ∧
      e.rd AGRT_STATUS_MISS = min 3 (d.rd AGRT_STATUS_MISS + 1) ∧ e.rd AGRT_STATUS_GRANT = d.rd AGRT_STATUS_GRANT ∧
      e = { d with bank := e.bank, sw := e.sw }) ∧
  (∀ (s : State) (n : Conc), 5 ≤ (s.conc n).rd AGRT_STATUS_REPLAYS → (s.conc n).rd AGRT_STATUS_BLOCKING = 0 →
    ConcDoes (.replayExhausted n) s n fun d e =>
      e.rd AGRT_STATUS_BLOCKING = 1 ∧ e.rd AGRT_CNT_EXHAUSTED = min (d.rd AGRT_CNT_EXHAUSTED + 1) 255 ∧ d.Raised n e 0x5601 .alarm 0 0 0 ∧
      Concentrator.Keeps (AGRT_STATUS_BLOCKING.key 0 :: AGRT_CNT_EXHAUSTED.key 0 :: concFaultKeys) d e ∧
      e = { d with bank := e.bank, flt := e.flt, lanes := e.lanes, out := e.out }) ∧
  (∀ (s : State) (n : Conc) (u : LeafId), (s.conc n).rd AGRT_STATUS_GRANT = u.num → 3 ≤ (s.conc n).rd AGRT_STATUS_MISS →
    (s.conc n).available n u.other.num = true → (s.conc n).rd AFLT_STATUS_DEADBOLT = 0 →
    ConcDoes (.silenceGrantMove n) s n fun d e =>
      Concentrator.Keeps (grantKeys ++ concFaultKeys) d e ∧
      e = { d with bank := e.bank, flt := e.flt, lanes := e.lanes, out := e.out } ∧
      e.rd AGRT_STATUS_GRANT = u.other.num ∧ e.rd AGRT_LAST_CAUSE = 2 ∧ e.rd AGRT_STATUS_MISS = 0 ∧
      e.rd AGRT_CNT_MOVES = min (d.rd AGRT_CNT_MOVES + 1) 65535 ∧ e.sw = d.sw) ∧
  (∀ (s : State) (n : Conc) (u : LeafId) (h : BitVec 128) (m : Nat) (i : Instr), (s.conc n).rd AFLT_STATUS_DEADBOLT = 1 →
    i ∈ [.releaseFrame n u h, .silenceGrantMove n, .replayInstant n m] →
    ConcDoes i s n fun d e => e.rd AGRT_STATUS_GRANT = d.rd AGRT_STATUS_GRANT ∧ e.rd AGRT_CNT_MOVES = d.rd AGRT_CNT_MOVES ∧ e.flt = d.flt) ∧
  (∀ (s : State) (n : Conc) (m : Nat), (s.conc n).sw.linked = false → ConcDoes (.controlSlot n m) s n fun d e => e = d) ∧
  (∀ (s : State) (n : Conc) (m w o : Nat) (p : Port), m < 65536 → (s.conc n).sw.linked = true → (s.conc n).sw.passed = some m →
    (s.conc n).sw.sent = [] → (s.conc n).blocksAll = false →
    (s.conc n).slotWords = [(p.val, w, o)] → (s.conc n).laneUp (.port n p) = true → (s.conc n).fw.fallbackWait = false →
    (s.conc n).sw.cur = none →
    ConcDoes (.controlSlot n m) s n fun d e =>
      e.sw.words = [(p.val, w, o)] ∧ e.sw.sent = [(m, [(p.val, w)])] ∧
      e.out = d.out ++ [.frame (.port n p) 1 [controlBody d.sw.conv m o true w (slipWord d.sw.slips m) (d.slotIarm m)]] ∧
      Concentrator.Keeps [AUPL_SLOT_OPEN.key 0] d e ∧ e = { d with bank := e.bank, sw := e.sw, out := e.out }) ∧
  (∀ (s : State) (n : Conc) (m : Nat), m < 65536 → (s.conc n).sw.linked = true → (s.conc n).sw.passed = some m → (s.conc n).sw.sent = [] →
    (s.conc n).fw.fallbackWait = false →
    ((s.conc n).rd AFLT_STATUS_DEADBOLT = 1 ∨ (s.conc n).flt.openOf 2 = true ∨ 5 ≤ (s.conc n).rd AGRT_STATUS_REPLAYS ∧ (s.conc n).sw.cur = none) →
    ConcDoes (.controlSlot n m) s n fun d e =>
      Concentrator.Keeps [AUPL_SLOT_OPEN.key 0] d e ∧
      e = { d with bank := e.bank, sw := e.sw, lanes := e.lanes, out := e.out } ∧
      e.sw.words ≠ [] ∧ ∀ w ∈ e.sw.words, w.2.1 = 0)

/-- Uplink frames and the sums of a concentrator (03_control_cycle.md R100, R101; 10_flenor_links.md R357, R358, R363). The definitions behind it follow the model's log entry 65. -/
def Obligations.RecordsAndSumsTakeEffect : Prop :=
  (∀ (s : State) (n : Conc) (p q : Port) (f : BitVec 128), (s.conc n).laneUp (.port n p) = true → (s.conc n).sw.summed = none → p ≠ q →
    q.val ∈ (s.conc n).mappedPorts (s.conc n).sw.page → (s.conc n).laneUp (.port n q) = true →
    (∀ x ∈ (s.conc n).recsOf (bits f.toNat 127 112), x.2 ≠ q.val) →
    ConcDoes (.uplink n p f true) s n fun d e =>
      e.sw.recCyc = some (bits f.toNat 127 112) ∧ e.sw.recs = d.recsOf (bits f.toNat 127 112) ++ [(f.toNat, p.val)] ∧
      (d.laneUp (.uplinkConc n .leaf0) = true → .frame (.uplinkConc n .leaf0) 3 [p.val, f.toNat] ∈ e.out) ∧
      (d.laneUp (.uplinkConc n .leaf1) = true → .frame (.uplinkConc n .leaf1) 3 [p.val, f.toNat] ∈ e.out) ∧
      e = { d with sw := { d.sw with recCyc := e.sw.recCyc, recs := e.sw.recs }, out := e.out }) ∧
  (∀ (s : State) (n : Conc) (p : Port) (f : BitVec 128), (s.conc n).laneUp (.port n p) = true →
    ConcDoes (.uplink n p f false) s n fun d e =>
      e.rd (XX_ERR_BAD.at (laneBase (.port n p))) = min (d.rd (XX_ERR_BAD.at (laneBase (.port n p))) + 1) 65535 ∧
      Concentrator.Keeps [(XX_ERR_BAD.at (laneBase (.port n p))).key 0] d e ∧ e = { d with bank := e.bank }) ∧
  (∀ (s : State) (n : Conc) (p : Port) (f : BitVec 128), (s.conc n).laneUp (.port n p) = true →
    (s.conc n).sw.summed = some (bits f.toNat 127 112) →
    ConcDoes (.uplink n p f true) s n fun d e =>
      e = { d with bank := e.bank, sw := e.sw, flt := e.flt, lanes := e.lanes, out := e.out } ∧
      e.sw = { d.sw with late := d.sw.late + 1 } ∧ d.Raised n e 0x5802 .note p.val 0 0 ∧ Concentrator.Keeps concFaultKeys d e) ∧
  (∀ (s : State) (n : Conc) (k : BitVec 16), (s.conc n).sw.summed = none →
    ConcDoes (.recordCutoff n k) s n fun d e =>
      e.sw = { d.sw with summed := some k.toNat, recs := [], recCyc := some k.toNat, late := 0 } ∧
      (d.laneUp (.uplinkConc n .leaf0) = true → .frame (.uplinkConc n .leaf0) 4 [d.sumsOf k.toNat] ∈ e.out) ∧
      (d.laneUp (.uplinkConc n .leaf1) = true → .frame (.uplinkConc n .leaf1) 4 [d.sumsOf k.toNat] ∈ e.out) ∧
      e = { d with sw := e.sw, out := e.out, freeIdx := d.freeIdx + 1 }) ∧
  (∀ (s : State) (n : Conc) (k : BitVec 16), (s.conc n).sw.summed = some k.toNat →
    ConcDoes (.recordCutoff n k) s n fun d e => e = d)

/-- Knocks (11_discovery_and_membership.md R381 to R384, Tables 11.1 and 11.2): a PROBE on an idle port, a JOIN on a slot to be joined, an UNJOIN
where one is ordered, each with the next KNOCK_SEQ; the cell answers every one, and takes the type of a JOIN with its own serial number. The definitions behind it follow the model's log entry 56. -/
def Obligations.KnocksTakeEffect : Prop :=
  (∀ (s : State) (n : Conc) (p : Port), (s.conc n).laneUp (.port n p) = true → s.lead.slotAt n.val p.val = none → s.lead.conv.st = .unkeyed →
    SMap.get 0 s.lead.disc.unjoin (n.val * 256 + p.val) = 0 →
    ConcDoes (.knockInterval n p) s n fun d e =>
      (SMap.get {} e.knocks p.val).seq = ((SMap.get {} d.knocks p.val).seq + 1) % 256 ∧
      e.out = d.out ++ [.frame (.port n p) 3 [knockBody 0 0 0 n.val p.val 0 0 (((SMap.get {} d.knocks p.val).seq + 1) % 256)]] ∧
      e = { d with knocks := e.knocks, out := e.out }) ∧
  (∀ (s : State) (n : Conc) (p : Port) (slot : Nat) (im : Image), (s.conc n).laneUp (.port n p) = true → s.lead.key.active = some im →
    s.lead.slotAt n.val p.val = some slot → s.lead.joins n.val slot = true →
    SMap.get 0 s.lead.disc.unjoin (n.val * 256 + p.val) ≤ (SMap.get {} (s.conc n).knocks p.val).unjoined →
    ConcDoes (.knockInterval n p) s n fun d e =>
      (SMap.get {} e.knocks p.val).joins = (SMap.get {} d.knocks p.val).joins + 1 ∧
      e.out = d.out ++ [.frame (.port n p) 3 [knockBody 1 (s.lead.rd CT_TYPE slot) slot n.val p.val im.mapTag (s.lead.slotInfo slot).ans
        (((SMap.get {} d.knocks p.val).seq + 1) % 256)]] ∧ e = { d with knocks := e.knocks, out := e.out }) ∧
  (∀ (s : State) (n : Conc) (p : Port), (s.conc n).laneUp (.port n p) = true → s.lead.idlePort n.val p.val = true → s.lead.conv.st = .unkeyed →
    (SMap.get {} (s.conc n).knocks p.val).unjoined < SMap.get 0 s.lead.disc.unjoin (n.val * 256 + p.val) →
    ConcDoes (.knockInterval n p) s n fun d e =>
      (SMap.get {} e.knocks p.val).unjoined = SMap.get 0 s.lead.disc.unjoin (n.val * 256 + p.val) ∧
      e.out = d.out ++ [.frame (.port n p) 3 [knockBody 2 0 0 n.val p.val 0 0 (((SMap.get {} d.knocks p.val).seq + 1) % 256)]] ∧
      e = { d with knocks := e.knocks, out := e.out }) ∧
  (∀ (s : State) (c : CellId) (b : BitVec 219), (s.cell c).pow = .run → (s.cell c).laneUp = true → bits b.toNat 218 216 = 0 →
    CellDoes (.probe c b) s c fun d e =>
      e = { d with out := d.out ++ [.frame (.cell c) 4 [d.answerBody c (bits b.toNat 89 82)]] }) ∧
  (∀ (s : State) (c : CellId) (b : BitVec 219), (s.cell c).pow = .run → (s.cell c).laneUp = true → bits b.toNat 218 216 = 1 →
    bits b.toNat 153 90 = (s.cell c).serialNo c → (s.cell c).is CBYP_STATUS_BOLTED = false →
    CellDoes (.join c b) s c fun d e =>
      Cell.Keeps [CPWM_STATUS_TYPE.key 0] d e ∧
      e = { d with bank := e.bank, ret := e.ret, out := e.out } ∧
      e.rd CPWM_STATUS_TYPE = bits b.toNat 215 214 ∧ e.ret = { d.ret with mapHash := d.ret.mapHash / 2 ^ 32 * 2 ^ 32 + bits b.toNat 185 154 } ∧
      e.out = d.out ++ [.frame (.cell c) 4 [e.answerBody c (bits b.toNat 89 82)]]) ∧
  (∀ (s : State) (c : CellId) (b : BitVec 219), (s.cell c).pow = .run → (s.cell c).laneUp = true → bits b.toNat 218 216 = 1 →
    (bits b.toNat 153 90 ≠ (s.cell c).serialNo c ∨ (s.cell c).is CBYP_STATUS_BOLTED = true) →
    CellDoes (.join c b) s c fun d e =>
      e = { d with out := d.out ++ [.frame (.cell c) 4 [d.answerBody c (bits b.toNat 89 82)]] }) ∧
  (∀ (s : State) (c : CellId) (b : BitVec 219), (s.cell c).pow = .run → (s.cell c).laneUp = true → bits b.toNat 218 216 = 2 →
    (s.cell c).is CBYP_STATUS_BOLTED = false →
    CellDoes (.unjoin c b) s c fun d e =>
      e.rd CPWM_STATUS_TYPE = 0 ∧ e.out = d.out ++ [.frame (.cell c) 4 [e.answerBody c (bits b.toNat 89 82)]] ∧
      Cell.Keeps [CPWM_STATUS_TYPE.key 0] d e ∧ e = { d with bank := e.bank, out := e.out })

/-- Membership (11_discovery_and_membership.md Table 11.3, R380, R382, R385 to R389): what an answer, silence, a lane out of UP and a REPLACE ask for at
the next boundary. The definitions behind it follow the model's log entries 57, 58, 79. -/
def Obligations.MembershipCommandsTakeEffect : Prop :=
  (∀ (s : State) (l : LeafId) (n : Conc) (p : Port) (b : BitVec 219) (slot : Nat), (s.leaf l).running = true → (s.leaf l).active = true →
    bits b.toNat 55 48 = (SMap.get {} (s.conc n).knocks p.val).seq → SMap.get 0 (s.leaf l).disc.caps n.val ≠ 0 →
    (s.leaf l).declared.contains n.val = true → (s.leaf l).slotAt n.val p.val = some slot → p.val < (s.leaf l).portCount n.val →
    bitOf b.toNat 105 = true → (s.leaf l).slotState slot ≠ slBOLTED →
    LeafDoes (.knockAnswer l n p b) s l fun d e =>
      Leaf.KeepsOut faultKeys [discBlock] d e ∧
      SMap.get 16 e.cyc.member slot = slBOLTED ∧ (e.slotInfo slot).ans = bits b.toNat 210 147 ∧ (e.slotInfo slot).fw = bits b.toNat 146 115 ∧
      e.slotState slot = d.slotState slot ∧ e = { d with bank := e.bank, flt := e.flt, out := e.out, disc := e.disc, cyc := e.cyc }) ∧
  (∀ (s : State) (l : LeafId) (n : Conc) (p : Port) (b : BitVec 219) (slot : Nat), (s.leaf l).running = true → (s.leaf l).active = true →
    bits b.toNat 55 48 = (SMap.get {} (s.conc n).knocks p.val).seq → SMap.get 0 (s.leaf l).disc.caps n.val ≠ 0 →
    (s.leaf l).declared.contains n.val = true → (s.leaf l).slotAt n.val p.val = some slot → p.val < (s.leaf l).portCount n.val →
    bitOf b.toNat 105 = false → bits b.toNat 112 109 ≠ 5 → (s.leaf l).slotState slot = slEMPTY → ((s.leaf l).slotInfo slot).answered = false →
    (s.leaf l).quarReason slot (((s.leaf l).slotInfo slot).heard b.toNat) = 0 → (s.leaf l).wiringOk n.val = true →
    SMap.get 16 (s.leaf l).cyc.member slot = 16 →
    LeafDoes (.knockAnswer l n p b) s l fun d e =>
      Leaf.KeepsOut [] [discBlock] d e ∧
      SMap.get 16 e.cyc.member slot = slKNOCKED ∧ e.slotInfo slot = { (d.slotInfo slot).heard b.toNat with qreason := 0 } ∧
      e = { d with bank := e.bank, disc := e.disc, cyc := e.cyc }) ∧
  (∀ (s : State) (l : LeafId) (n : Conc) (p : Port) (b : BitVec 219) (slot : Nat), (s.leaf l).running = true → (s.leaf l).active = true →
    bits b.toNat 55 48 = (SMap.get {} (s.conc n).knocks p.val).seq → SMap.get 0 (s.leaf l).disc.caps n.val ≠ 0 →
    (s.leaf l).declared.contains n.val = true → (s.leaf l).slotAt n.val p.val = some slot → p.val < (s.leaf l).portCount n.val →
    bitOf b.toNat 105 = false → (s.leaf l).slotState slot = slJOINED →
    fellBack ((s.leaf l).slotInfo slot) (((s.leaf l).slotInfo slot).heard b.toNat) = false →
    (s.leaf l).admits (((s.leaf l).slotInfo slot).heard b.toNat) = true → (s.leaf l).wiringOk n.val = true →
    SMap.get 16 (s.leaf l).cyc.member slot = 16 →
    LeafDoes (.knockAnswer l n p b) s l fun d e =>
      Leaf.KeepsOut [] [discBlock] d e ∧
      SMap.get 16 e.cyc.member slot = slACTIVE ∧ e.slotState slot = slJOINED ∧ e = { d with bank := e.bank, disc := e.disc, cyc := e.cyc }) ∧
  (∀ (s : State) (l : LeafId) (n : Conc) (p : Port) (b : BitVec 219), (s.leaf l).running = true → (s.leaf l).key.active.isSome = true →
    bits b.toNat 55 48 = (SMap.get {} (s.conc n).knocks p.val).seq → SMap.get 0 (s.leaf l).disc.caps n.val ≠ 0 →
    (s.leaf l).declared.contains n.val = true → (s.leaf l).slotAt n.val p.val = none →
    SMap.get 0 (s.leaf l).disc.noted (n.val * 256 + p.val) ≠ (SMap.get {} (s.conc n).lanes p.val).ups + 1 →
    LeafDoes (.knockAnswer l n p b) s l fun d e =>
      Leaf.KeepsOut faultKeys [discBlock] d e ∧
      e.rd DISC_UNMAP_VALID = 1 ∧ e.rd DISC_UNMAP_CONC = n.val % 2 ^ 6 ∧ e.rd DISC_UNMAP_PORT = p.val ∧
      e.rd DISC_UNMAP_SN_LO_SN = bits b.toNat 210 147 % 2 ^ 32 ∧ e.rd DISC_UNMAP_SN_HI_SN = bits b.toNat 210 147 / 2 ^ 32 ∧
      e.rd DISC_EVT_UNMAP = 1 ∧ d.Raised e 0x2409 .note n.val 0 p.val ∧ e = { d with bank := e.bank, flt := e.flt, out := e.out, disc := e.disc }) ∧
  (∀ (s : State) (l : LeafId) (n : Conc) (p : Port) (b : BitVec 219),
    bits b.toNat 55 48 ≠ (SMap.get {} (s.conc n).knocks p.val).seq → LeafDoes (.knockAnswer l n p b) s l fun d e => e = d) ∧
  (∀ (s : State) (l : LeafId) (slot : Slot) (im : Image) (x : PortEnt), (s.leaf l).active = true → (s.leaf l).key.active = some im →
    im.entryOf slot.val = some x → (s.leaf l).slotState slot.val = slKNOCKED →
    3 ≤ (SMap.get {} (SMap.get {} s.concs x.conc).knocks x.port).joins →
    ((s.leaf l).slotInfo slot.val).type ≠ (s.leaf l).rd CT_TYPE slot.val → SMap.get 16 (s.leaf l).cyc.member slot.val = 16 →
    LeafDoes (.joinFailed l slot) s l fun d e =>
      SMap.get 16 e.cyc.member slot.val = slQUARANTINED ∧ e.slotInfo slot.val = { d.slotInfo slot.val with qreason := 4 } ∧
      e = { d with disc := e.disc, cyc := e.cyc }) ∧
  (∀ (s : State) (l : LeafId) (slot : Slot), (s.leaf l).active = true →
    ((s.leaf l).slotState slot.val = slACTIVE ∨ (s.leaf l).slotState slot.val = slBYPASSED) → 16 ≤ SMap.get 0 (s.leaf l).cyc.silent slot.val →
    SMap.get 16 (s.leaf l).cyc.member slot.val = 16 →
    LeafDoes (.cellLost l slot) s l fun d e =>
      SMap.get 16 e.cyc.member slot.val = slLOST ∧ e = { d with cyc := { d.cyc with member := e.cyc.member } }) ∧
  (∀ (s : State) (l : LeafId) (n : Conc) (p : Port) (slot : Nat), (s.leaf l).active = true → (s.leaf l).slotAt n.val p.val = some slot →
    (s.conc n).laneUp (.port n p) = false →
    ((s.leaf l).slotState slot = slKNOCKED ∨ (s.leaf l).slotState slot = slJOINED ∨
      (s.leaf l).slotState slot = slQUARANTINED ∧ (s.leaf l).moving = false) → SMap.get 16 (s.leaf l).cyc.member slot = 16 →
    LeafDoes (.portDownTimeout l n p) s l fun d e =>
      SMap.get 16 e.cyc.member slot = slEMPTY ∧ e = { d with cyc := { d.cyc with member := e.cyc.member } }) ∧
  (∀ (s : State) (l : LeafId) (h : Handle) (c : Cmd), (s.leaf l).WaitsDue h 6 0x30 c → (s.leaf l).slotMapped (c.par 0 14) = true →
    (s.leaf l).conv.st ≠ .deblocked →
    ((s.leaf l).slotState (c.par 0 14) = slBOLTED ∨ (s.leaf l).slotState (c.par 0 14) = slQUARANTINED) →
    LeafDoes (.replace l h) s l fun d e =>
      e.disc = { d.disc with replace := d.disc.replace ++ [(h, c.par 0 14)] } ∧ Leaf.Keeps [HND_JRNL_LIVE.key 0] d e ∧
      e = { d with bank := e.bank, hnd := e.hnd, disc := e.disc, lanes := e.lanes, out := e.out }) ∧
  (∀ (s : State) (l : LeafId) (h : Handle) (c : Cmd), (s.leaf l).WaitsDue h 6 0x30 c → (s.leaf l).slotMapped (c.par 0 14) = false →
    LeafDoes (.replace l h) s l fun d e =>
      Leaf.Keeps jrnlKeys d e ∧
      e.Answered h stINVALID 0 0 ∧ e = { d with bank := e.bank, hnd := e.hnd, lanes := e.lanes, out := e.out })

/-- Mirror frames and grant blocks (13_the_hinge.md R424, R428, R431, R435, R438, R447; 01_architecture.md R34, R40; 02_clocks_and_time.md R61): what
a leaf takes from its partner and from the concentrators. The definitions behind it follow the model's log entries 43, 90. -/
def Obligations.MirrorFramesTakeEffect : Prop :=
  (∀ (s : State) (l : LeafId) (n : Conc) (g : GrantMsg), (s.leaf l).running = true → (s.leaf l).uplinkUp n.val = true →
    LeafDoes (.grantBlock l n g false) s l fun d e =>
      SMap.get {} e.hng.grantOwn n.val = ⟨g.grant, some d.tim.cyc⟩ ∧
      e = { d with hng := { d.hng with grantOwn := e.hng.grantOwn }, lanes := e.lanes, out := e.out }) ∧
  (∀ (s : State) (l : LeafId) (n : Conc) (g : GrantMsg), (s.leaf l).running = true →
    LeafDoes (.grantBlock l n g true) s l fun d e =>
      SMap.get {} e.hng.grantFwd n.val = ⟨g.grant, some d.tim.cyc⟩ ∧ e = { d with hng := { d.hng with grantFwd := e.hng.grantFwd } }) ∧
  (∀ (s : State) (l : LeafId) (k : Nat), (s.leaf l).running = true → (s.leaf l).is HNG_STATUS_PARTNER_UP = true →
    (s.leaf l).active = false → (s.leaf l).conv.st ≠ .deadbolted → (s.leaf l).conv.since < k →
    LeafDoes (.mirror l (.convState 3 k)) s l fun d e =>
      Leaf.Keeps (convKeys ++ hngShowKeys ++ faultKeys) d e ∧
      e = { d with bank := e.bank, conv := e.conv, hng := e.hng, cyc := e.cyc, hnd := e.hnd, lanes := e.lanes, out := e.out } ∧
      e.conv.st = .blockedReady ∧ e.hng.partner = { d.hng.partner with conv := 3 }) ∧
  (∀ (s : State) (l : LeafId) (k : Nat), (s.leaf l).running = true → (s.leaf l).is HNG_STATUS_PARTNER_UP = true →
    (s.leaf l).hng.role ≠ .starting → (s.leaf l).conv.st ≠ .deadbolted →
    LeafDoes (.mirror l (.convState 6 k)) s l fun d e =>
      Leaf.Keeps (FLT_STATUS_DEADBOLT.key 0 :: hngShowKeys) d e ∧
      e = { d with bank := e.bank, conv := e.conv, hng := e.hng, out := e.out } ∧
      e.rd FLT_STATUS_DEADBOLT = 1 ∧ e.conv = { d.conv with boltPend := true } ∧ Out.pin "DEADBOLT_N" 0 ∈ e.out) ∧
  (∀ (s : State) (l : LeafId) (cause k : Nat), (s.leaf l).running = true → (s.leaf l).is HNG_STATUS_PARTNER_UP = true →
    (s.leaf l).hng.role = .standby →
    LeafDoes (.mirror l (.release false cause k)) s l fun d e =>
      e.hng.relSeen = true ∧ e.hng.cause = cause ∧ e.rd HNG_STATUS_PARTNER_STANDING = 0 ∧
      Leaf.Keeps [HNG_STATUS_PARTNER_STANDING.key 0, HNG_STATUS_STANDING_BY.key 0, HNG_HEALTH_SUMMARY.key 0] d e ∧
      e = { d with bank := e.bank, hng := { d.hng with relSeen := true, cause := cause, partner := e.hng.partner } }) ∧
  (∀ (s : State) (l : LeafId) (h : Health), (s.leaf l).running = true → (s.leaf l).is HNG_STATUS_PARTNER_UP = true → (s.leaf l).active = true →
    LeafDoes (.mirror l (.health h)) s l fun d e =>
      e.rd HNG_HEALTH_SUMMARY = h.summary % 2 ^ 32 ∧ e.rd HNG_HEALTH_AGE_MS = 0 ∧
      Leaf.Keeps [HNG_HEALTH_SUMMARY.key 0, HNG_HEALTH_AGE_MS.key 0, HNG_STATUS_STANDING_BY.key 0] d e ∧
      e = { d with bank := e.bank, hng := { d.hng with healthAt := some d.tim.c, healthLate := false } }) ∧
  (∀ (s : State) (l : LeafId) (k slot : Nat), (s.leaf l).running = true → (s.leaf l).is HNG_STATUS_PARTNER_UP = true →
    (s.leaf l).active = true →
    LeafDoes (.mirror l (.mismatch k slot true)) s l fun d e =>
      Leaf.Keeps (HNG_CMP_BAD_MISMATCHED.key 0 :: HNG_CMP_LAST_CYCLE.key 0 :: HNG_CMP_LAST_SLOT.key 0 :: HNG_STATUS_MISMATCH.key 0 ::
        hngShowKeys ++ faultKeys) d e ∧
      e = { d with bank := e.bank, hng := e.hng, flt := e.flt, out := e.out } ∧
      e.rd HNG_CMP_BAD_MISMATCHED = min (d.rd HNG_CMP_BAD_MISMATCHED + 1) 65535 ∧ e.rd HNG_CMP_LAST_CYCLE = k % 65536 ∧
      e.rd HNG_CMP_LAST_SLOT = slot % 16384 ∧ e.rd HNG_STATUS_MISMATCH = 1 ∧ e.hng = { d.hng with lastMis := some d.tim.cyc } ∧
      d.Raised e 0x2604 .alarm 0 0 0) ∧
  (∀ (s : State) (l : LeafId) (hold persist solo : Nat), (s.leaf l).running = true → (s.leaf l).is HNG_STATUS_PARTNER_UP = true →
    (s.leaf l).active = false →
    LeafDoes (.mirror l (.hngCfg hold persist solo)) s l fun d e =>
      Leaf.Keeps (HNG_CFG_ALIGN_HOLD_MS.key 0 :: HNG_CFG_CMP_PERSIST.key 0 :: HNG_SOLO_MS.key 0 :: hngShowKeys) d e ∧
      e.rd HNG_CFG_ALIGN_HOLD_MS = hold % 256 ∧ e.rd HNG_CFG_CMP_PERSIST = persist % 256 ∧ e.rd HNG_SOLO_MS = solo % 65536 ∧
      e = { d with bank := e.bank }) ∧
  (∀ (s : State) (l : LeafId) (rate cyc per : Nat) (ofs err : Int) (unset : Bool) (slips : List (Nat × Int)), (s.leaf l).running = true →
    (s.leaf l).is HNG_STATUS_PARTNER_UP = true → (s.leaf l).hng.role = .standby →
    LeafDoes (.mirror l (.time rate ofs cyc unset slips err per)) s l fun d e =>
      Leaf.Keeps (TIM_RATE_VALUE.key 0 :: TIM_STATUS_UNSET.key 0 :: CYC_PERIOD_PERIOD.key 0 :: hngShowKeys) d e ∧
      e.now = linearAt (s.leaf l.other).tim.c (sext 32 rate) + ofs ∧ e.rd TIM_STATUS_UNSET = b2n unset ∧ e.tim.cyc = d.tim.cyc ∧
      e.rd CYC_PERIOD_PERIOD = per % 2 ^ CYC_PERIOD_PERIOD.w ∧ e = { d with bank := e.bank, shadow := e.shadow, tim := e.tim })

/-- First roles, takeovers, split grants, planned exchanges and health reports (13_the_hinge.md R423, R424, R431, R439, R442 to R446;
12_host_interface_and_handles.md R420). The definitions behind it follow the model's log entries 69, 91, 92, 95. -/
def Obligations.HingeCommandsTakeEffect : Prop :=
  (∀ (s : State) (l : LeafId), (s.leaf l).running = true → (s.leaf l).is HNG_STATUS_PARTNER_UP = true → (s.leaf l).hng.role ≠ .starting →
    (s.leaf l).hng.partner.ident = none → (SMap.get {} (s.leaf l).lanes 48).unacked.length < 16 →
    LeafDoes (.mirrorLinkUp l) s l fun d e =>
      Leaf.Keeps hngShowKeys d e ∧
      Out.mirror (.identity d.identity) ∈ e.out ∧ e.hng = { d.hng with mirrorAt := d.tim.c, healthLate := false } ∧
      e = { d with bank := e.bank, hng := e.hng, lanes := e.lanes, out := e.out }) ∧
  (∀ (s : State) (l : LeafId) (i : Identity), (s.leaf l).running = true → (s.leaf l).is HNG_STATUS_PARTNER_UP = true →
    (s.leaf l).hng.role = .starting → (s.leaf l).hng.partner.conv ≠ 6 → (s.leaf l).hng.partner.ident = some i → (s.leaf l).pairOk i = true →
    i.role = 1 → i.floor ≤ (s.leaf l).rd KEY_FLOOR_FLOOR → (s.leaf l).mayStand (s.leaf l.other) = true →
    LeafDoes (.mirrorLinkUp l) s l fun d e =>
      Leaf.Keeps (roleKeys ++ faultKeys) d e ∧
      e = { d with bank := e.bank, hng := e.hng, flt := e.flt, lanes := e.lanes, out := e.out } ∧
      e.hng.role = .standby ∧ e.rd HNG_STATUS_ROLE = Role.standby.code ∧ e.rd HND_STATUS_ROLE = 2 ∧ e.rd TIM_STATUS_FOLLOWING = 1 ∧
      d.Raised e 0x2601 .note 0 0 0) ∧
  (∀ (s : State) (l : LeafId), (s.leaf l).hng.role = .starting → (s.leaf l).pwr.step = 6 → (s.leaf l).is HNG_STATUS_PARTNER_UP = false →
    (∀ n : Fin 48, (s.leaf l).uplinkUp n.val = true → (SMap.get {} (s.leaf l).hng.grantOwn n.val).grant ≠ 1 - (s.leaf l).ident.leaf) →
    LeafDoes (.soloTimeout l) s l fun d e =>
      Leaf.KeepsOut (roleKeys ++ faultKeys) [hndBlock, keyBlock, updBlock] d e ∧
      e = { d with bank := e.bank, hng := e.hng, hnd := e.hnd, key := e.key, upd := e.upd, pwr := e.pwr, flt := e.flt, lanes := e.lanes,
                   out := e.out } ∧
      e.hng.role = .active ∧ e.rd HNG_STATUS_ROLE = Role.active.code ∧ e.rd HND_STATUS_ROLE = 1 ∧ e.pwr.step = 7 ∧
      e.key.load.isSome = true ∧ e.hng.journalOk = true ∧ e.tim = d.tim) ∧
  (∀ (s : State) (l : LeafId), (s.leaf l).standing = true → (s.leaf l).hng.relSeen = true → (s.leaf l).conv.st ≠ .deadbolted →
    (s.leaf l).hng.exchange = none →
    LeafDoes (.takeover l .release) s l fun d e =>
      Leaf.KeepsOut (HNG_STATUS_HINGED.key 0 :: HNG_CNT_HINGE_OVERS.key 0 :: roleKeys ++ isoKeys ++ faultKeys) [profBlock] d e ∧
      e = { d with bank := e.bank, hng := e.hng, prof := e.prof, flt := e.flt, hnd := e.hnd, lanes := e.lanes, out := e.out } ∧
      e.hng.role = .active ∧ e.rd HND_STATUS_ROLE = 3 ∧ e.rd HNG_STATUS_HINGED = 1 ∧ e.hng.takeover = true ∧ e.hng.takenAt = some d.tim.c ∧
      e.hng.relSeen = false ∧ e.rd HNG_CNT_HINGE_OVERS = min (d.rd HNG_CNT_HINGE_OVERS + 1) 65535 ∧ d.Raised e 0x2603 .alarm 0 0 d.hng.cause ∧
      Out.msix 3 ∈ e.out) ∧
  (∀ (s : State) (l : LeafId), (s.leaf l).standing = true → (s.leaf l).ownMajority = true → (s.leaf l).conv.st ≠ .deadbolted →
    (s.leaf l).hng.exchange = none →
    LeafDoes (.takeover l .majority) s l fun d e =>
      Leaf.KeepsOut (HNG_STATUS_HINGED.key 0 :: HNG_CNT_HINGE_OVERS.key 0 :: roleKeys ++ isoKeys ++ faultKeys) [profBlock] d e ∧
      e = { d with bank := e.bank, hng := e.hng, prof := e.prof, flt := e.flt, hnd := e.hnd, lanes := e.lanes, out := e.out } ∧
      e.hng.role = .active ∧ e.rd HND_STATUS_ROLE = 3 ∧ e.hng.takeover = true ∧ d.Raised e 0x2603 .alarm 0 0 0) ∧
  (∀ (s : State) (l : LeafId), (s.leaf l).active = true → (s.leaf l).hng.takeover = true →
    LeafDoes (.takeoverComplete l) s l fun d e =>
      Leaf.KeepsOut [] [hndBlock] d e ∧
      e.hng = { d.hng with takeover := false } ∧ e.rd HND_STATUS_ROLE = 1 ∧ e.hnd.cqNext = e.hnd.ack ∧ e.hnd.stopped = false ∧
      Out.msix 3 ∈ e.out ∧ e = { d with bank := e.bank, hng := e.hng, hnd := e.hnd, lanes := e.lanes, out := e.out }) ∧
  (∀ (s : State) (l : LeafId), (s.leaf l).is HNG_STATUS_SPLIT = true → 4 < (s.leaf l).rd HNG_SPLIT_NOW →
    (s.leaf l).majority = (s.leaf l).ident.leaf → (s.leaf l).hng.splitRaised = false →
    LeafDoes (.splitGrant l) s l fun d e =>
      d.Raised e 0x2606 .trip 0 0 0 ∧ (d.active = true → e.conv.tripPend = true) ∧ e.hng = { d.hng with splitRaised := true } ∧
      Leaf.Keeps faultKeys d e ∧ e = { d with bank := e.bank, hng := e.hng, flt := e.flt, conv := e.conv, out := e.out }) ∧
  (∀ (s : State) (l : LeafId) (h : Handle) (c : Cmd), (s.leaf l).Waits h 7 1 c → c.par 0 1 = (s.leaf l).ident.leaf →
    LeafDoes (.hngSwap l h) s l fun d e =>
      Leaf.Keeps jrnlKeys d e ∧
      e.Answered h stDONE 0 (d.naming d.ident.leaf).length ∧ e.hng = d.hng ∧
      e = { d with bank := e.bank, hnd := e.hnd, lanes := e.lanes, out := e.out }) ∧
  (∀ (s : State) (l : LeafId) (h : Handle) (c : Cmd), (s.leaf l).Waits h 7 1 c → c.par 0 1 ≠ (s.leaf l).ident.leaf →
    (s.leaf l).swapRefusedNow = false →
    LeafDoes (.hngSwap l h) s l fun d e =>
      Leaf.Keeps jrnlKeys d e ∧
      e.hng = { d.hng with exchange := some ⟨h, c.par 0 1, d.tim.cyc + 4⟩ } ∧
      e = { d with bank := e.bank, hng := e.hng, hnd := e.hnd, lanes := e.lanes, out := e.out }) ∧
  (∀ (s : State) (l : LeafId) (h : Handle) (c : Cmd), (s.leaf l).Waits h 7 1 c → c.par 0 1 ≠ (s.leaf l).ident.leaf →
    (s.leaf l).swapRefusedNow = true →
    LeafDoes (.hngSwap l h) s l fun d e =>
      Leaf.Keeps jrnlKeys d e ∧
      e = { d with bank := e.bank, hnd := e.hnd, lanes := e.lanes, out := e.out } ∧
      e.Answered h stREFUSED_STATE 0 0 ∧ e.hng = d.hng) ∧
  (∀ (s : State) (l : LeafId) (x : Exchange), (s.leaf l).hng.exchange = some x → x.j ≤ (s.leaf l).tim.cyc + 1 →
    (s.leaf l).conv.st ≠ .deadbolted → (s.leaf l).hng.role = .standby → x.target = (s.leaf l).ident.leaf →
    LeafDoes (.plannedExchange l) s l fun d e =>
      Leaf.KeepsOut (HNG_STATUS_HINGED.key 0 :: HNG_CNT_SWAPS.key 0 :: roleKeys ++ isoKeys) [profBlock] d e ∧
      e = { d with bank := e.bank, hng := e.hng, prof := e.prof, hnd := e.hnd, lanes := e.lanes, out := e.out } ∧
      e.hng.role = .active ∧ e.rd HND_STATUS_ROLE = 3 ∧ e.hng.takenAt = none ∧ e.rd HNG_CNT_SWAPS = min (d.rd HNG_CNT_SWAPS + 1) 65535 ∧
      e.hng.exchange = some x) ∧
  (∀ (s : State) (l : LeafId) (x : Exchange), (s.leaf l).hng.exchange = some x → x.j ≤ (s.leaf l).tim.cyc + 1 →
    (s.leaf l).conv.st ≠ .deadbolted → (s.leaf l).active = true → x.target ≠ (s.leaf l).ident.leaf → (s.leaf l).pwr.warmWait = none →
    LeafDoes (.plannedExchange l) s l fun d e =>
      Leaf.Keeps (HNG_CNT_SWAPS.key 0 :: roleKeys) d e ∧
      e.hng = { d.hng with role := .standby, roleCycle := some d.tim.cyc } ∧ e.rd HNG_STATUS_ROLE = Role.standby.code ∧
      e.rd TIM_CLK_STATUS_MIR_ALIGN = 1 ∧ e.rd HNG_CNT_SWAPS = min (d.rd HNG_CNT_SWAPS + 1) 65535 ∧
      e = { d with bank := e.bank, hng := e.hng }) ∧
  (∀ (s : State) (l : LeafId), (s.leaf l).hng.role = .standby →
    LeafDoes (.healthReport l) s l fun d e =>
      e.rd HNG_HEALTH_SUMMARY = d.summary ∧ e.rd HNG_HEALTH_AGE_MS = 0 ∧ e.hng = { d.hng with healthAt := some d.tim.c } ∧
      Leaf.Keeps [HNG_HEALTH_SUMMARY.key 0, HNG_HEALTH_AGE_MS.key 0] d e ∧
      e = { d with bank := e.bank, hng := e.hng, lanes := e.lanes, out := e.out }) ∧
  (∀ (s : State) (l : LeafId) (t : Nat), (s.leaf l).active = true → (s.leaf l).is HNG_STATUS_PARTNER_UP = true →
    (s.leaf l).hng.healthAt = some t → t + 2400000000 ≤ (s.leaf l).tim.c → (s.leaf l).hng.mirrorAt + 2400000000 ≤ (s.leaf l).tim.c →
    (s.leaf l).hng.healthLate = false →
    LeafDoes (.healthReportLate l) s l fun d e =>
      e.rd HNG_STATUS_REPORT_LATE = 1 ∧ d.Raised e 0x2605 .alarm 0 0 0 ∧ e.hng = { d.hng with healthLate := true } ∧
      Leaf.Keeps (HNG_STATUS_REPORT_LATE.key 0 :: faultKeys) d e ∧ e = { d with bank := e.bank, hng := e.hng, flt := e.flt, out := e.out })

/-- Fault records between the parts and their closing (14_faults.md R451 to R453, Table 14.1, Tables 14.10 to 14.12): a record that arrives enters the
ring of the leaf or brings an open one up to date; a concentrator forwards a cell's record to both leaves; a write of a CLEAR register closes the
records that its table names, and no other. The definitions behind it follow the model's log entries 33, 45. -/
def Obligations.FaultRecordsTakeEffect : Prop :=
  (∀ (s : State) (l : LeafId) (n : Conc) (r : FaultRec), (s.leaf l).running = true →
    FltEnt.updateFirst ((s.leaf l).fillIn n.val r) (s.leaf l).flt.recs = none → (∀ x ∈ (s.leaf l).flt.recs, x.r.time ≠ r.time) →
    (s.leaf l).flt.recs.length < 1024 →
    LeafDoes (.fault l n r) s l fun d e =>
      e.flt = d.flt.putAt d.flt.recs.length (d.fillIn n.val r) ∧ (1 ≤ r.cls.code → Out.msix 2 ∈ e.out) ∧ Leaf.Keeps faultKeys d e ∧
      e = { d with bank := e.bank, flt := e.flt, out := e.out }) ∧
  (∀ (s : State) (l : LeafId) (n : Conc) (r : FaultRec) (rs : List FltEnt), (s.leaf l).running = true →
    FltEnt.updateFirst ((s.leaf l).fillIn n.val r) (s.leaf l).flt.recs = some rs →
    LeafDoes (.fault l n r) s l fun d e =>
      e.flt = { d.flt with recs := rs } ∧ Leaf.Keeps faultKeys d e ∧ e = { d with bank := e.bank, flt := e.flt }) ∧
  (∀ (s : State) (n : Conc) (p : Port) (b : BitVec 219), (s.conc n).fw.up = true → (s.conc n).laneUp (.uplinkConc n .leaf0) = true →
    (s.conc n).laneUp (.uplinkConc n .leaf1) = true → ((s.conc n).sender (.uplinkConc n .leaf0)).unacked.length < 16 →
    ((s.conc n).sender (.uplinkConc n .leaf1)).unacked.length < 16 →
    ConcDoes (.cellFault n p b) s n fun d e =>
      e.out = d.out ++ [.frame (.uplinkConc n .leaf0) 8 (recWords (bodyRec p.val b.toNat)),
        .frame (.uplinkConc n .leaf1) 8 (recWords (bodyRec p.val b.toNat))] ∧ e = { d with lanes := e.lanes, out := e.out }) ∧
  (∀ (s : State) (l : LeafId) (v : Word), (s.leaf l).writable = true → bitOf v.toNat 10 = false →
    LeafDoes (.fltClear l v) s l fun d e =>
      e.flt.recs = (d.flt.recs.map fun x =>
        if x.idx = bits v.toNat 9 0 ∧ x.r.isOpen = true ∧ (x.r.cls.code ≤ 1 ∨ x.r.cls = .trip ∧ d.conv.st ≠ .tripped)
        then { x with r := { x.r with isOpen := false } } else x) ∧
      e.flt = { d.flt with recs := e.flt.recs } ∧
      Leaf.Keeps faultKeys d e ∧ e = { d with bank := e.bank, flt := e.flt }) ∧
  (∀ (s : State) (l : LeafId) (v : Word), (s.leaf l).writable = true → bitOf v.toNat 10 = true →
    LeafDoes (.fltClearAll l v) s l fun d e =>
      e.flt = { d.flt with recs := (d.flt.recs.map fun x =>
        if x.r.isOpen = true ∧ x.r.cls.code ≤ 1 then { x with r := { x.r with isOpen := false } } else x) } ∧
      Leaf.Keeps faultKeys d e ∧ e = { d with bank := e.bank, flt := e.flt }) ∧
  (∀ (s : State) (n : Conc) (v : Word), (s.conc n).writable = true → bitOf v.toNat 4 = false →
    ConcDoes (.afltClear n v) s n fun d e =>
      e.flt = { d.flt with recs := (d.flt.recs.map fun x =>
        if x.idx = bits v.toNat 3 0 ∧ x.r.isOpen = true ∧ x.r.cls.code ≤ 2 ∧ (x.r.cls.code ≤ 1 ∨ d.causeStands x.r = false) then
          { x with r := { x.r with isOpen := false } } else x) } ∧
      Concentrator.Keeps concFaultKeys d e ∧ e = { d with bank := e.bank, flt := e.flt, lanes := e.lanes, out := e.out }) ∧
  (∀ (s : State) (n : Conc) (v : Word), (s.conc n).writable = true → bitOf v.toNat 4 = true →
    ConcDoes (.afltClearAll n v) s n fun d e =>
      e.flt = { d.flt with recs := (d.flt.recs.map fun x =>
        if x.r.isOpen = true ∧ x.r.cls.code ≤ 2 ∧ d.causeStands x.r = false then { x with r := { x.r with isOpen := false } } else x) } ∧
      Concentrator.Keeps concFaultKeys d e ∧ e = { d with bank := e.bank, flt := e.flt, lanes := e.lanes, out := e.out }) ∧
  (∀ (s : State) (c : CellId) (v : Word), (s.cell c).pow = .run → (s.cell c).is CFLT_STATUS_DEADBOLT = false → bitOf v.toNat 8 = false →
    CellDoes (.cfltClear c v) s c fun d e =>
      Cell.Keeps [CFLT_STATUS_TRIP_OPEN.key 0, CFLT_STATUS_ALARM_OPEN.key 0] d e ∧
      e.ret = { d.ret with log := (d.ret.log.map fun x => (x.1, x.2.map fun g =>
        if g.r.cls.code ≤ 1 ∧ g.r.seq = bits v.toNat 7 0 then { g with r := { g.r with isOpen := false } } else g)) } ∧
      e = { d with bank := e.bank, ret := e.ret }) ∧
  (∀ (s : State) (c : CellId) (v : Word), (s.cell c).pow = .run → (s.cell c).is CFLT_STATUS_DEADBOLT = false → bitOf v.toNat 8 = true →
    CellDoes (.cfltClearAll c v) s c fun d e =>
      Cell.Keeps [CFLT_STATUS_TRIP_OPEN.key 0, CFLT_STATUS_ALARM_OPEN.key 0] d e ∧
      e.ret = { d.ret with log := (d.ret.log.map fun x => (x.1, x.2.map fun g =>
        if g.r.cls.code ≤ 1 then { g with r := { g.r with isOpen := false } } else g)) } ∧
      e = { d with bank := e.bank, ret := e.ret })

/-- Fault lines and injection (14_faults.md R460 to R462, R465): an input of a leaf raises its fault at the change to active, BLOCK_IN of the leaf
that holds the grant holds the concentrator's cells blocked, a broken line is marked and raised; a write of an INJ_CAUSE register raises the fault
that the injection registers describe. The definitions behind it follow the model's log entries 46, 47. -/
def Obligations.FaultLinesAndInjectionTakeEffect : Prop :=
  (∀ (s : State) (l : LeafId), (s.leaf l).running = true → (s.leaf l).is FLT_STATUS_MODE = true → bitOf ((s.leaf l).rd FLT_LINES_LEVEL) 4 = false →
    LeafDoes (.faultLineInput (.leaf l) 4 true) s l fun d e =>
      d.Raised e 0x2702 .trip 0 0 0 ∧ bitOf (e.rd FLT_LINES_LEVEL) 4 = true ∧ bitOf (e.rd FLT_LINES_BROKEN) 4 = false ∧
      Leaf.Keeps (FLT_LINES_BROKEN.key 0 :: faultKeys) d e ∧ e = { d with bank := e.bank, flt := e.flt, conv := e.conv, out := e.out }) ∧
  (∀ (s : State) (l : LeafId) (k : Nat), (s.leaf l).running = true → (s.leaf l).is FLT_STATUS_MODE = true →
    (k = 5 ∨ k = 6) → bitOf ((s.leaf l).rd FLT_LINES_LEVEL) k = false →
    LeafDoes (.faultLineInput (.leaf l) k true) s l fun d e =>
      Leaf.Keeps (FLT_LINES_BROKEN.key 0 :: faultKeys) d e ∧
      d.Raised e (0x2703 + (k - 5)) .alarm 0 0 0 ∧ bitOf (e.rd FLT_LINES_LEVEL) k = true ∧ bitOf (e.rd FLT_LINES_BROKEN) k = false ∧
      e = { d with bank := e.bank, flt := e.flt, out := e.out }) ∧
  (∀ (s : State) (n : Conc) (k : Nat), (s.conc n).fw.up = true → (s.conc n).is AFLT_STATUS_MODE = true → 1 ≤ k → k ≤ 2 →
    (s.conc n).rd AGRT_STATUS_GRANT + 1 = k →
    ConcDoes (.faultLineInput (.conc n) k true) s n fun d e =>
      e.sw = { d.sw with blockHold := true } ∧ bitOf (e.rd AFLT_LINES_LEVEL) k = true ∧ bitOf (e.rd AFLT_LINES_BROKEN) k = false ∧
      Concentrator.Keeps [AFLT_LINES_LEVEL.key 0, AFLT_LINES_BROKEN.key 0] d e ∧ e = { d with bank := e.bank, sw := e.sw }) ∧
  (∀ (s : State) (l : LeafId) (k : Nat), (s.leaf l).running = true → (s.leaf l).is FLT_STATUS_MODE = true → k ≤ 6 →
    LeafDoes (.brokenWire (.leaf l) k (decide (k < 4))) s l fun d e =>
      e.rd FLT_STATUS_BROKEN = 1 ∧ bitOf (e.rd FLT_LINES_BROKEN) k = true ∧ d.Raised e 0x2701 .alarm k 0 0 ∧
      Leaf.Keeps (FLT_STATUS_BROKEN.key 0 :: FLT_LINES_BROKEN.key 0 :: faultKeys) d e ∧
      e = { d with bank := e.bank, flt := e.flt, out := e.out }) ∧
  (∀ (s : State) (n : Conc) (k : Nat), (s.conc n).fw.up = true → (s.conc n).is AFLT_STATUS_MODE = true → k ≤ 2 →
    ConcDoes (.brokenWire (.conc n) k (decide (k = 0))) s n fun d e =>
      Concentrator.Keeps (AFLT_STATUS_BROKEN.key 0 :: AFLT_LINES_BROKEN.key 0 :: concFaultKeys) d e ∧
      e.rd AFLT_STATUS_BROKEN = 1 ∧ bitOf (e.rd AFLT_LINES_BROKEN) k = true ∧ d.Raised n e 0x5701 .alarm k 0 0 ∧
      e = { d with bank := e.bank, flt := e.flt, lanes := e.lanes, out := e.out }) ∧
  (∀ (s : State) (l : LeafId) (v : Word), (s.leaf l).writable = true → (s.leaf l).ident.test = true →
    diagCause ((s.leaf l).rd FLT_INJ_CODE_CODE) = none →
    LeafDoes (.fltInjCause l v) s l fun d e =>
      e.flt = (FltStore.add 1024 10 d.flt { d.errorRec (d.rd FLT_INJ_CODE_CODE) (FaultClass.ofCode (d.rd FLT_INJ_CODE_CLASS))
        (d.rd FLT_INJ_SRC_SOURCE % 256) (v.toNat % 65536) 0 false with
        injected := true, part := bits (d.rd FLT_INJ_SRC_SOURCE) 31 30, unit := bits (d.rd FLT_INJ_SRC_SOURCE) 29 16 }).1 ∧
      (FaultClass.ofCode (d.rd FLT_INJ_CODE_CLASS) = .deadbolt → e.rd FLT_STATUS_DEADBOLT = 1 ∧ e.conv.boltPend = true) ∧
      Leaf.Keeps faultKeys d e ∧ e = { d with bank := e.bank, flt := e.flt, conv := e.conv, out := e.out }) ∧
  (∀ (s : State) (n : Conc) (v : Word), (s.conc n).writable = true → (s.conc n).ident.test = true →
    ConcDoes (.afltInjCause n v) s n fun d e =>
      e.flt = (FltStore.add 16 4 d.flt { d.errorRec n (d.rd AFLT_INJ_CODE_CODE) (FaultClass.ofCode (d.rd AFLT_INJ_CODE_CLASS))
        (bits v.toNat 31 24) (bits v.toNat 15 0) 0 with injected := true }).1 ∧
      Concentrator.Keeps concFaultKeys d e ∧ e = { d with bank := e.bank, flt := e.flt, lanes := e.lanes, out := e.out }) ∧
  (∀ (s : State) (c : CellId) (v : Word), (s.cell c).pow = .run → (s.cell c).is CFLT_STATUS_DEADBOLT = false → (s.cell c).ident.test = true →
    (s.cell c).rd CFLT_INJ_CODE_CLASS = 1 →
    CellDoes (.cfltInjCause c v) s c fun d e =>
      Cell.Keeps cellFaultKeys d e ∧
      e = { d with bank := e.bank, ret := e.ret, lanes := e.lanes, out := e.out, freeIdx := e.freeIdx } ∧
      e.ret.log = (d.raiseRec c { d.errorRec (d.rd CFLT_INJ_CODE_CODE) .alarm (bits v.toNat 15 0) 0xFFFFFFFF with injected := true }).ret.log ∧
      e.sw = d.sw ∧ e.trip = d.trip) ∧
  (∀ (s : State) (c : CellId) (v : Word), (s.cell c).pow = .run → (s.cell c).is CFLT_STATUS_DEADBOLT = false → (s.cell c).ident.test = true →
    (s.cell c).rd CFLT_INJ_CODE_CLASS = 2 → (s.cell c).sw.st = .ready →
    ((s.cell c).trip.window.filter fun t => (s.cell c).trip.ms < t + 1000).length < 2 →
    CellDoes (.cfltInjCause c v) s c fun d e =>
      Cell.KeepsOut (CBYP_STATUS_FIRED.key 0 :: cellFaultKeys) [cpwmBlock, ctrpBlock] d e ∧
      e = { d with bank := e.bank, sw := e.sw, trip := e.trip, ret := e.ret, lanes := e.lanes, out := e.out, freeIdx := e.freeIdx } ∧
      e.sw.st = .tripBlocked ∧ e.rd CPWM_GATES_SOFT_OFF = 1 ∧ e.rd CTRP_CNT_TRIPS = min (d.rd CTRP_CNT_TRIPS + 1) 65535 ∧
      e.ret.log = (d.raiseRec c { d.errorRec (d.rd CFLT_INJ_CODE_CODE) .trip (bits v.toNat 15 0) 0xFFFFFFFF with injected := true }).ret.log)

/-- The decimators and their frames (15_disturbance_recorder.md R469 to R472, Table 15.1; 05_control_fabric.md R188): a sample joins the frame of its
cycle, a sample of another cycle sends the frame to both leaves, an overload is flagged and raised; a leaf keeps the samples of a frame for the fabric
and, while it watches, for its fast channels. -/
def Obligations.DecimatorCommandsTakeEffect : Prop :=
  (∀ (s : State) (n : Conc) (k : Fin 8) (v cyc tick : BitVec 16), (s.conc n).ident.variant = 1 → (s.conc n).is ADSD_CTLd_EN k.val = true →
    (SMap.get {} (s.conc n).dec k.val).cycle = cyc.toNat → (SMap.get {} (s.conc n).dec k.val).samples ≠ [] →
    (SMap.get {} (s.conc n).dec k.val).samples.length < 59 →
    ConcDoes (.decimatorSample n k v false cyc tick) s n fun d e =>
      SMap.get {} e.dec k.val = { SMap.get {} d.dec k.val with samples := (SMap.get {} d.dec k.val).samples ++ [v.toNat] } ∧
      e = { d with dec := e.dec }) ∧
  (∀ (s : State) (n : Conc) (k : Fin 8) (v cyc tick : BitVec 16), (s.conc n).ident.variant = 1 → (s.conc n).is ADSD_CTLd_EN k.val = true →
    (SMap.get {} (s.conc n).dec k.val).cycle = cyc.toNat → (SMap.get {} (s.conc n).dec k.val).samples.length < 59 →
    ConcDoes (.decimatorSample n k v true cyc tick) s n fun d e =>
      (SMap.get {} e.dec k.val).ovr = true ∧ bitOf (e.rd ADSD_STATUS_OVR) k.val = true ∧ d.Raised n e 0x5A01 .note k.val 0 0 ∧
      Concentrator.Keeps (ADSD_STATUS_OVR.key 0 :: concFaultKeys) d e ∧
      e = { d with bank := e.bank, dec := e.dec, flt := e.flt, lanes := e.lanes, out := e.out }) ∧
  (∀ (s : State) (n : Conc) (k : Fin 8) (v cyc tick : BitVec 16) (x : Dec), (s.conc n).ident.variant = 1 → (s.conc n).is ADSD_CTLd_EN k.val = true →
    SMap.get {} (s.conc n).dec k.val = x → x.cycle ≠ cyc.toNat → x.samples ≠ [] →
    (s.conc n).laneUp (.uplinkConc n .leaf0) = true → (s.conc n).laneUp (.uplinkConc n .leaf1) = true →
    ((s.conc n).sender (.uplinkConc n .leaf0)).unacked.length < 16 → ((s.conc n).sender (.uplinkConc n .leaf1)).unacked.length < 16 →
    ConcDoes (.decimatorSample n k v false cyc tick) s n fun d e =>
      e = { d with dec := e.dec, lanes := e.lanes, out := e.out } ∧
      SMap.get {} e.dec k.val = { cycle := cyc.toNat, tick := tick.toNat, samples := [v.toNat], ovr := false } ∧
      e.out = d.out ++ [LeafId.leaf0, LeafId.leaf1].map fun u => .frame (.uplinkConc n u) 0xB
        ((k.val * 2 ^ 29 + d.rd ADSD_CTLd_RATE k.val * 2 ^ 26 + x.samples.length * 65536 + x.cycle) ::
          (x.tick * 65536 + b2n x.ovr) :: pairWords x.samples)) ∧
  (∀ (s : State) (l : LeafId) (n : Conc) (k : Fin 8) (w1 w2 w : Word), (s.leaf l).recWatching = false → bits w1.toNat 25 16 = 2 →
    LeafDoes (.decim l n k [w1, w2, w]) s l fun d e =>
      SMap.get 0 e.rcd.rates (8 * n.val + bits w1.toNat 31 29) = bits w1.toNat 28 26 ∧
      SMap.get [] e.fab.decs (8 * n.val + bits w1.toNat 31 29) =
        ((SMap.get [] d.fab.decs (8 * n.val + bits w1.toNat 31 29)).filter fun x => d.tim.cyc ≤ x.1 + 3) ++
          [(d.cycleNear (w1.toNat % 65536), w2.toNat / 65536, w.toNat / 65536),
           (d.cycleNear (w1.toNat % 65536), w2.toNat / 65536 + 256 * 2 ^ bits w1.toNat 28 26, w.toNat % 65536)] ∧
      e = { d with rcd := { d.rcd with rates := e.rcd.rates }, fab := { d.fab with decs := e.fab.decs } }) ∧
  (∀ (s : State) (l : LeafId) (n : Conc) (k : Fin 8) (w1 w2 w : Word) (f : Nat), (s.leaf l).recWatching = true →
    reached (s.leaf l).rcd.lastRow ((s.leaf l).cycleNear (w1.toNat % 65536)) = false → bits w1.toNat 25 16 = 1 → f < 32 →
    (s.leaf l).rd REC_FCHf_CONC f = n.val → (s.leaf l).rd REC_FCHf_DECIM f = bits w1.toNat 31 29 → bitOf ((s.leaf l).rd REC_FMASK_MASK) f = true →
    (∀ u < 8, (s.leaf l).is REC_TRGu_CTL_EN u = false) →
    LeafDoes (.decim l n k [w1, w2, w]) s l fun d e =>
      e = { d with rcd := e.rcd, fab := e.fab } ∧
      SMap.get [] e.rcd.samples f = SMap.get [] d.rcd.samples f ++
        [(d.cycleNear (w1.toNat % 65536), w2.toNat / 65536 / (256 * 2 ^ bits w1.toNat 28 26), w.toNat / 65536)])

/-- The capture states and the REC commands (15_disturbance_recorder.md R481 to R488, R492, Tables 15.6 and 15.9). The definitions behind it follow the model's log entry 39. -/
def Obligations.CaptureAndRecCommandsTakeEffect : Prop :=
  (∀ (s : State) (l : LeafId), (s.leaf l).recWatching = true → (s.leaf l).recSt = recPRE → (s.leaf l).rd REC_CFG_AUTO_MS ≠ 0 →
    (s.leaf l).rcd.preAt + (s.leaf l).rd REC_CFG_AUTO_MS * 800000 ≤ (s.leaf l).tim.c →
    LeafDoes (.autoTrigger l) s l fun d e =>
      e.recSt = recPOST ∧ (∃ t, e.rcd.trig = some t ∧ t.forced = true ∧ t.at_ = d.now ∧ d.tim.cyc ≤ t.row) ∧ e.rcd.post = 0 ∧
      Leaf.Keeps [REC_STATUS_STATE.key 0] d e ∧ e = { d with bank := e.bank, rcd := { d.rcd with trig := e.rcd.trig, p := none, post := 0 } }) ∧
  (∀ (s : State) (l : LeafId) (t : Trig), (s.leaf l).recWatching = true → (s.leaf l).recSt = recPOST →
    (s.leaf l).rcd.postN ≤ (s.leaf l).rcd.post → (s.leaf l).rcd.trig = some t → (s.leaf l).is REC_STATUS_MODE = false →
    LeafDoes (.postRowsComplete l) s l fun d e =>
      e.recSt = recSTOPPED ∧ (∃ c, e.rcd.closing = d.rcd.closing ++ [c] ∧ c.seg = d.rcd.seg ∧ c.recno = d.rd REC_RECNO_NEXT ∧ c.trig = t) ∧
      e.rcd.trig = none ∧ e.rd REC_RECNO_NEXT = (d.rd REC_RECNO_NEXT + 1) % 65536 ∧
      Leaf.Keeps [REC_STATUS_STATE.key 0, REC_RECNO_NEXT.key 0] d e ∧
      e = { d with bank := e.bank, rcd := { d.rcd with closing := e.rcd.closing, trig := none, p := none } }) ∧
  (∀ (s : State) (l : LeafId) (t : Trig), (s.leaf l).recWatching = true → (s.leaf l).recSt = recPOST →
    (s.leaf l).rcd.postN ≤ (s.leaf l).rcd.post → (s.leaf l).rcd.trig = some t → (s.leaf l).is REC_STATUS_MODE = true →
    ((s.leaf l).segOf ((s.leaf l).rd REC_SEGSTAT_NEXT)).1 = 0 →
    LeafDoes (.postRowsComplete l) s l fun d e =>
      Leaf.Keeps [REC_STATUS_STATE.key 0, REC_RECNO_NEXT.key 0] d e ∧
      e = { d with bank := e.bank, rcd := e.rcd } ∧
      e.recSt = recREARM ∧ e.rcd.closing.length = d.rcd.closing.length + 1 ∧ e.rd REC_RECNO_NEXT = (d.rd REC_RECNO_NEXT + 1) % 65536) ∧
  (∀ (s : State) (l : LeafId) (t : Trig), (s.leaf l).recWatching = true → (s.leaf l).recSt = recPOST →
    (s.leaf l).rcd.postN ≤ (s.leaf l).rcd.post → (s.leaf l).rcd.trig = some t → (s.leaf l).is REC_STATUS_MODE = true →
    ((s.leaf l).segOf ((s.leaf l).rd REC_SEGSTAT_NEXT)).1 ≠ 0 →
    LeafDoes (.postRowsComplete l) s l fun d e =>
      Leaf.Keeps (REC_STATUS_STATE.key 0 :: REC_RECNO_NEXT.key 0 :: REC_STATUS_OVERFLOW.key 0 :: faultKeys) d e ∧
      e = { d with bank := e.bank, rcd := e.rcd, flt := e.flt, out := e.out } ∧
      e.recSt = recSTOPPED ∧ e.rd REC_STATUS_OVERFLOW = (if d.is REC_STATUS_OVERFLOW then d.rd REC_STATUS_OVERFLOW else 1) ∧
      d.Raised e 0x2801 .note 0 0 0 ∧ (∃ c, e.rcd.closing = d.rcd.closing ++ [c] ∧ c.overflow = true)) ∧
  (∀ (s : State) (l : LeafId), (s.leaf l).recWatching = true → (s.leaf l).recSt = recREARM →
    LeafDoes (.rearmComplete l) s l fun d e =>
      Leaf.Keeps (REC_STATUS_STATE.key 0 :: REC_SEGSTAT_NEXT.key 0 :: recShowKeys) d e ∧
      e.recSt = recPRE ∧ e.rcd.seg = d.rd REC_SEGSTAT_NEXT ∧ e.segOf (d.rd REC_SEGSTAT_NEXT) = (1, d.rd REC_RECNO_NEXT) ∧ e.rcd.pre = 0 ∧
      e.rcd.preAt = d.tim.c ∧ e = { d with bank := e.bank, rcd := e.rcd }) ∧
  (∀ (s : State) (l : LeafId) (c : RecClose) (r : List RecClose), (s.leaf l).rcd.closing = c :: r →
    LeafDoes (.recordClosed l) s l fun d e =>
      Leaf.Keeps recShowKeys d e ∧
      e.rcd.closing = r ∧ e.segOf c.seg = (2, c.recno) ∧
      (∀ i < (c.header d.rcd.mem d.freeIdx).length,
        SMap.get 0 e.rcd.mem (c.geo.segWord c.seg + i) = (c.header d.rcd.mem d.freeIdx).getD i 0) ∧
      e.out = d.out ++ [.msix 5] ∧ e = { d with bank := e.bank, rcd := e.rcd, freeIdx := d.freeIdx + 80, out := e.out }) ∧
  (∀ (s : State) (l : LeafId) (h : Handle) (c : Cmd), (s.leaf l).WaitsDue h 5 1 c → c.par 0 32 ≤ 1 → (s.leaf l).recSt = recSTOPPED →
    ((s.leaf l).segOf ((s.leaf l).rd REC_SEGSTAT_NEXT)).1 = 0 → (s.leaf l).armInvalid = false →
    LeafDoes (.recArm l h) s l fun d e =>
      Leaf.Keeps (REC_STATUS_STATE.key 0 :: REC_SEGSTAT_NEXT.key 0 :: REC_STATUS_MODE.key 0 :: recShowKeys ++ jrnlKeys) d e ∧
      e.recSt = recPRE ∧ e.rcd.geo = d.recGeo ∧ e.rcd.postN = min (d.rd REC_POST_ROWS) (d.recGeo.cap - d.rd REC_PRE_ROWS) ∧
      e.rcd.seg = d.rd REC_SEGSTAT_NEXT ∧ e.rd REC_STATUS_MODE = c.par 0 32 ∧ e.Answered h stDONE 0 0 ∧
      e = { d with bank := e.bank, rcd := e.rcd, hnd := e.hnd, lanes := e.lanes, out := e.out }) ∧
  (∀ (s : State) (l : LeafId) (h : Handle) (c : Cmd), (s.leaf l).WaitsDue h 5 1 c → c.par 0 32 ≤ 1 → (s.leaf l).recSt ≠ recSTOPPED →
    LeafDoes (.recArm l h) s l fun d e =>
      Leaf.Keeps jrnlKeys d e ∧
      e = { d with bank := e.bank, hnd := e.hnd, lanes := e.lanes, out := e.out } ∧
      e.Answered h stREFUSED_STATE 0 0 ∧ e.rcd = d.rcd) ∧
  (∀ (s : State) (l : LeafId) (h : Handle) (c : Cmd), (s.leaf l).WaitsDue h 5 2 c → (s.leaf l).recSt = recPRE →
    LeafDoes (.recStop l h) s l fun d e =>
      Leaf.Keeps (REC_STATUS_STATE.key 0 :: REC_SEGSTAT_NEXT.key 0 :: recShowKeys ++ jrnlKeys) d e ∧
      e.recSt = recSTOPPED ∧ e.segOf d.rcd.seg = (0, 0) ∧ e.Answered h stDONE 0 0 ∧
      e = { d with bank := e.bank, rcd := { d.rcd with segs := e.rcd.segs }, hnd := e.hnd, lanes := e.lanes, out := e.out }) ∧
  (∀ (s : State) (l : LeafId) (h : Handle) (c : Cmd), (s.leaf l).WaitsDue h 5 2 c →
    LeafDoes (.recStop l h) s l fun d e =>
      Leaf.Keeps (REC_STATUS_STATE.key 0 :: REC_SEGSTAT_NEXT.key 0 :: REC_RECNO_NEXT.key 0 :: recShowKeys ++ jrnlKeys) d e ∧
      e = { d with bank := e.bank, rcd := e.rcd, hnd := e.hnd, lanes := e.lanes, out := e.out } ∧
      e.recSt = recSTOPPED ∧ e.Answered h stDONE 0 0) ∧
  (∀ (s : State) (l : LeafId) (h : Handle) (c : Cmd), (s.leaf l).WaitsDue h 5 3 c → (s.leaf l).recSt = recPRE →
    LeafDoes (.recForce l h) s l fun d e =>
      Leaf.Keeps (REC_STATUS_STATE.key 0 :: jrnlKeys) d e ∧
      e.recSt = recPOST ∧ (∃ t, e.rcd.trig = some t ∧ t.forced = true ∧ t.at_ = d.now ∧ d.tim.cyc ≤ t.row) ∧ e.Answered h stDONE 0 0 ∧
      e = { d with bank := e.bank, rcd := e.rcd, hnd := e.hnd, lanes := e.lanes, out := e.out }) ∧
  (∀ (s : State) (l : LeafId) (h : Handle) (c : Cmd), (s.leaf l).WaitsDue h 5 3 c → (s.leaf l).recSt ≠ recPRE →
    LeafDoes (.recForce l h) s l fun d e =>
      Leaf.Keeps jrnlKeys d e ∧
      e = { d with bank := e.bank, hnd := e.hnd, lanes := e.lanes, out := e.out } ∧
      e.Answered h stREFUSED_STATE 0 0 ∧ e.rcd = d.rcd) ∧
  (∀ (s : State) (l : LeafId) (h : Handle) (c : Cmd), (s.leaf l).Waits h 5 4 c → (s.leaf l).segOf (c.par 0 12) = (2, c.par 12 16) →
    c.par 60 32 % 4 = 0 → c.par 28 32 % 4 = 0 → c.par 28 32 + c.par 60 32 ≤ (s.leaf l).segSize * 4096 →
    LeafDoes (.recDrain l h) s l fun d e =>
      Leaf.Keeps jrnlKeys d e ∧
      (∃ ws, Out.dma (c.par 92 64) ws ∈ e.out ∧ ws.length = c.par 60 32 / 4) ∧ e.Answered h stDONE (c.par 60 32) 0 ∧ e.rcd = d.rcd ∧
      e = { d with bank := e.bank, hnd := e.hnd, lanes := e.lanes, out := e.out }) ∧
  (∀ (s : State) (l : LeafId) (h : Handle) (c : Cmd), (s.leaf l).WaitsDue h 5 5 c → (s.leaf l).segOf (c.par 0 12) = (2, c.par 12 16) →
    LeafDoes (.recRelease l h) s l fun d e =>
      Leaf.Keeps (recShowKeys ++ jrnlKeys) d e ∧
      e.segOf (c.par 0 12) = (0, 0) ∧ e.Answered h stDONE 0 0 ∧
      e = { d with bank := e.bank, rcd := { d.rcd with segs := e.rcd.segs }, hnd := e.hnd, lanes := e.lanes, out := e.out }) ∧
  (∀ (s : State) (l : LeafId) (h : Handle) (c : Cmd), (s.leaf l).WaitsDue h 5 5 c → ((s.leaf l).segOf (c.par 0 12)).1 ≠ 0 →
    (s.leaf l).segOf (c.par 0 12) ≠ (2, c.par 12 16) →
    LeafDoes (.recRelease l h) s l fun d e =>
      Leaf.Keeps jrnlKeys d e ∧
      e = { d with bank := e.bank, hnd := e.hnd, lanes := e.lanes, out := e.out } ∧
      e.Answered h stREFUSED_STATE 0 0 ∧ e.rcd = d.rcd) ∧
  (∀ (s : State) (l : LeafId) (h : Handle) (c : Cmd), (s.leaf l).WaitsDue h 5 1 c →
    1 < c.par 0 32 ∨ ((s.leaf l).recSt = recSTOPPED ∧ ((s.leaf l).segOf ((s.leaf l).rd REC_SEGSTAT_NEXT)).1 = 0 ∧ (s.leaf l).armInvalid = true) →
    LeafDoes (.recArm l h) s l fun d e =>
      Leaf.Keeps jrnlKeys d e ∧
      e = { d with bank := e.bank, hnd := e.hnd, lanes := e.lanes, out := e.out } ∧
      e.Answered h stINVALID 0 0 ∧ e.rcd = d.rcd)

/-- The safety tick, its inputs and its outputs (16_personnel_safety.md R495 to R502, R506 to R511, R518, R519): an enabled group that runs leaves RUN at
the tick at which a pair it names is at its demand level; a fault of the block ends RUNNING, turns every output off and deadbolts the leaf. The definitions behind it follow the model's log entries 8, 20. -/
def Obligations.SafetyInputsAndOutputsTakeEffect : Prop :=
  (∀ (s : State) (l : LeafId) (a b : BitVec 32) (g i : Nat), (s.leaf l).safOn = true → (s.leaf l).safRunning = true → g < 16 → i < 32 →
    (s.leaf l).is SAF_GRPg_CFG_EN g = true → (s.leaf l).grpState g = 2 → bitOf ((s.leaf l).rd SAF_GRPg_INMASK_PAIRS g) i = true →
    (s.leaf l).rd SAF_INn_CFG_TYPE i ≠ 3 → bitOf a.toNat i = false →
    LeafDoes (.safetyTick l a b) s l fun d e =>
      Leaf.Keeps safTickKeys d e ∧
      e = { d with bank := e.bank, saf := e.saf, flt := e.flt, conv := e.conv, out := e.out } ∧
      e.grpState g ≠ 2 ∧ bitOf (e.rd SAF_IN_RUN_MAP) i = false ∧ bitOf (e.rd SAF_IN_A_LEVEL) i = false ∧ e.tim = d.tim) ∧
  (∀ (s : State) (l : LeafId) (a b : BitVec 32), (s.leaf l).safOn = true → (s.leaf l).safRunning = false →
    LeafDoes (.safetyTick l a b) s l fun d e =>
      Leaf.Keeps safTickKeys d e ∧
      (∀ i < 32, d.rd SAF_INn_CFG_TYPE i ≠ 3 →
        bitOf (e.rd SAF_IN_A_LEVEL) i = bitOf a.toNat i ∧ bitOf (e.rd SAF_IN_B_LEVEL) i = bitOf b.toNat i) ∧
      (∀ n < 8, bitOf (e.rd SAF_OUT_ON) n = false) ∧ e = { d with bank := e.bank, saf := e.saf, out := e.out }) ∧
  (∀ (s : State) (l : LeafId) (ns : Nat), (s.leaf l).safOn = true → (ns < 8500 ∨ 11500 < ns) →
    LeafDoes (.tickWatchdog l ns) s l fun d e =>
      Leaf.Keeps chanKeys d e ∧
      e.rd SAF_STATUS_CHAN_FAULT = 1 ∧ e.rd SAF_STATUS_RUNNING = 0 ∧ (∀ n < 8, bitOf (e.rd SAF_OUT_ON) n = false) ∧
      d.Raised e 0x2905 .deadbolt 0 4 0 ∧ e.rd FLT_STATUS_DEADBOLT = 1 ∧ e.conv = { d.conv with boltPend := true } ∧
      e = { d with bank := e.bank, flt := e.flt, conv := e.conv, out := e.out }) ∧
  (∀ (s : State) (l : LeafId) (ns : Nat), 8500 ≤ ns → ns ≤ 11500 → LeafDoes (.tickWatchdog l ns) s l fun d e => e = d) ∧
  (∀ (s : State) (l : LeafId), (s.leaf l).safOn = true →
    LeafDoes (.channelDisagreement l) s l fun d e =>
      Leaf.Keeps chanKeys d e ∧
      e.rd SAF_STATUS_CHAN_FAULT = 1 ∧ e.rd SAF_STATUS_RUNNING = 0 ∧ (∀ n < 8, bitOf (e.rd SAF_OUT_ON) n = false) ∧
      d.Raised e 0x2905 .deadbolt 0 1 0 ∧ e.rd FLT_STATUS_DEADBOLT = 1 ∧ e = { d with bank := e.bank, flt := e.flt, conv := e.conv, out := e.out }) ∧
  (∀ (s : State) (l : LeafId) (i : Fin 32), (s.leaf l).safOn = true → (s.leaf l).rd SAF_INn_CFG_TYPE i.val = 3 →
    100 ≤ ((s.leaf l).safPair i.val).demA →
    LeafDoes (.ossdDemand l i false) s l fun d e =>
      Leaf.Keeps safTickKeys d e ∧
      e = { d with bank := e.bank, saf := e.saf, flt := e.flt, conv := e.conv, out := e.out } ∧
      bitOf (e.rd SAF_IN_A_LEVEL) i.val = false ∧ bitOf (e.rd SAF_IN_RUN_MAP) i.val = false) ∧
  (∀ (s : State) (l : LeafId) (i : Fin 32), (s.leaf l).safOn = true → bitOf ((s.leaf l).rd SAF_IN_DISC_MAP) i.val = false →
    100 * (s.leaf l).rd SAF_INn_CFG_TD i.val ≤ ((s.leaf l).safPair i.val).disagree →
    LeafDoes (.discrepancy l i) s l fun d e =>
      Leaf.Keeps (SAF_STATUS_DISCREP.key 0 :: SAF_CNT_DISCREP.key 0 :: safTickKeys) d e ∧
      e = { d with bank := e.bank, saf := e.saf, flt := e.flt, conv := e.conv, out := e.out } ∧
      bitOf (e.rd SAF_IN_DISC_MAP) i.val = true ∧ e.is SAF_STATUS_DISCREP = true ∧ e.rd SAF_CNT_DISCREP = min (d.rd SAF_CNT_DISCREP + 1) 255 ∧
      (d.safRunning = false → d.Raised e 0x2902 .alarm i.val 0 0) ∧
      (d.safRunning = true → ∀ g < 16, d.is SAF_GRPg_CFG_EN g = true → bitOf (d.rd SAF_GRPg_INMASK_PAIRS g) i.val = true → e.grpState g = 3)) ∧
  (∀ (s : State) (l : LeafId) (g : Fin 16) (n : Nat), (s.leaf l).safOn = true → (s.leaf l).safRunning = true → (s.leaf l).twoHand g.val = true →
    (s.leaf l).grpState g.val = 1 → SMap.get none (s.leaf l).saf.twoHand g.val = some n → 50000 ≤ n →
    LeafDoes (.twoHandTimeout l g) s l fun d e =>
      Leaf.Keeps (SAF_GRP_STATE_STATE.key 0 :: safOutKeys) d e ∧
      e.grpState g.val = 0 ∧ SMap.get none e.saf.twoHand g.val = none ∧ e = { d with bank := e.bank, saf := e.saf, out := e.out }) ∧
  (∀ (s : State) (l : LeafId) (i : Fin 32), (s.leaf l).safOn = true → 200001 ≤ ((s.leaf l).safPair i.val).press →
    ((s.leaf l).safPair i.val).heldRaised = false →
    LeafDoes (.resetButtonHeld l i) s l fun d e =>
      e.is SAF_STATUS_RESET_HELD = true ∧ d.Raised e 0x2904 .note i.val 0 0 ∧ (e.safPair i.val) = { d.safPair i.val with heldRaised := true } ∧
      Leaf.Keeps (SAF_STATUS_RESET_HELD.key 0 :: faultKeys) d e ∧
      e = { d with bank := e.bank, saf := { d.saf with pairs := e.saf.pairs }, flt := e.flt, out := e.out }) ∧
  (∀ (s : State) (l : LeafId) (n : Fin 8), (s.leaf l).safOn = true → (s.leaf l).rd SAF_OUTn_CFG_MODE n.val = 2 →
    (s.leaf l).pairRun ((s.leaf l).rd SAF_OUTn_CFG_PERMIT n.val) = true →
    (s.leaf l).rd SAF_OUTn_CFG_RELEASE_S n.val * 100000 ≤ (s.leaf l).saf.idle →
    ((s.leaf l).conv.st = .unkeyed ∨ (s.leaf l).conv.st = .keyedIdle) →
    LeafDoes (.releaseOutputPermit l n) s l fun d e =>
      Leaf.Keeps safOutKeys d e ∧
      bitOf e.saf.permitted n.val = true ∧ bitOf (e.rd SAF_OUT_ON) n.val = (d.safRunning && !bitOf (d.rd SAF_OUT_FAULT) n.val) ∧
      e = { d with bank := e.bank, saf := { d.saf with permitted := e.saf.permitted }, out := e.out }) ∧
  (∀ (s : State) (l : LeafId) (n : Fin 8), (s.leaf l).safOn = true → bitOf ((s.leaf l).rd SAF_OUT_ON) n.val = true →
    (s.leaf l).is SAF_OUTn_CFG_TEST_EN n.val = true →
    LeafDoes (.outputTestPulse l n true false) s l fun d e =>
      Leaf.Keeps chanKeys d e ∧
      e = { d with bank := e.bank, flt := e.flt, conv := e.conv, out := e.out } ∧
      e.rd SAF_STATUS_CHAN_FAULT = 1 ∧ e.rd SAF_STATUS_RUNNING = 0 ∧ d.Raised e 0x2905 .deadbolt 0 2 0 ∧ bitOf (e.rd SAF_OUT_ON) n.val = false) ∧
  (∀ (s : State) (l : LeafId) (n : Fin 8), (s.leaf l).safOn = true → bitOf ((s.leaf l).rd SAF_OUT_ON) n.val = true →
    LeafDoes (.outputTestPulse l n false true) s l fun d e =>
      Leaf.Keeps (SAF_OUT_FAULT.key 0 :: safOutKeys) d e ∧
      bitOf (e.rd SAF_OUT_FAULT) n.val = true ∧ bitOf (e.rd SAF_OUT_ON) n.val = false ∧ Out.msix 6 ∈ e.out ∧
      e = { d with bank := e.bank, out := e.out }) ∧
  (∀ (s : State) (l : LeafId) (v : Word), (s.leaf l).writable = true → (s.leaf l).safOn = true → v.toNat % 2 = 1 →
    (s.leaf l).is SAF_STATUS_LOCKED = false →
    LeafDoes (.safCfgLock l v) s l fun d e =>
      Leaf.Keeps (SAF_CFG_LOCK.key 0 :: SAF_STATUS_LOCKED.key 0 :: SAF_CFG_CRC_NOW_CRC.key 0 :: SAF_STATUS_CFG_ERR.key 0 ::
        SAF_STATUS_RUNNING.key 0 :: SAF_GRP_STATE_STATE.key 0 :: safOutKeys) d e ∧
      e.rd SAF_STATUS_LOCKED = 1 ∧ e.rd SAF_CFG_LOCK = 1 ∧ e.rd SAF_CFG_CRC_NOW_CRC = crc32c (d.lckWords.flatMap (leBytes 4)) % 2 ^ 32 ∧
      e.rd SAF_GRP_STATE_STATE = 0 ∧ (e.is SAF_STATUS_CFG_ERR = false → e.rd SAF_CFG_CRC_NOW_CRC = d.rd SAF_CFG_CRC_CRC) ∧
      e.rd SAF_STATUS_RUNNING = b2n (!e.is SAF_STATUS_CFG_ERR && !d.is SAF_STATUS_CHAN_FAULT) ∧
      e = { d with bank := e.bank, out := e.out })

/-- The Hasp connections and the trip orders (16_personnel_safety.md R513 to R517, Tables 16.5 and 16.6). The definitions behind it follow the model's log entry 8. -/
def Obligations.HaspAndTripOrdersTakeEffect : Prop :=
  (∀ (s : State) (l : LeafId) (c : Fin 16), (s.leaf l).haspOpen c.val 1 = true →
    LeafDoes (.haspProduce l c) s l fun d e =>
      Leaf.Keeps [SAF_HASPc_STAT_OK.key c.val, SAF_HASPc_STAT_SEQ.key c.val, SAF_HASPc_DATA_INTERLOCK.key c.val] d e ∧
      (e.hasp c.val) = { d.hasp c.val with last := ((d.hasp c.val).last + 1) % 2 ^ 32 } ∧
      e.rd SAF_HASPc_STAT_SEQ c.val = ((d.hasp c.val).last + 1) % 2 ^ 32 % 2 ^ 16 ∧ e.rd SAF_HASPc_STAT_OK c.val = 1 ∧
      (∃ f, e.out = d.out ++ [.net 0 f, .net 1 f] ∧ 60 ≤ f.length) ∧
      e = { d with bank := e.bank, saf := { d.saf with hasp := e.saf.hasp }, out := e.out }) ∧
  (∀ (s : State) (l : LeafId) (net : Fin 2) (c : Fin 16) (f : List Byte), (s.leaf l).netTakes f 0x88B5 = true → (s.leaf l).haspOpen c.val 0 = true →
    (s.leaf l).haspMac c.val = beNum f 6 6 → crc32c ((f.drop 14).take 24) = beNum f 38 4 →
    beNum f 14 4 = (s.leaf l).rd SAF_HASPc_IDENT_IDENT c.val → beNum f 22 1 = 1 → ((s.leaf l).hasp c.val).resync = false →
    (beNum f 18 4 + 2 ^ 32 - ((s.leaf l).hasp c.val).last) % 2 ^ 32 = 1 →
    LeafDoes (.haspFrame l net f) s l fun d e =>
      Leaf.Keeps ((List.range 16).flatMap fun k => [SAF_HASPc_STAT_OK.key k, SAF_HASPc_STAT_SEQ.key k, SAF_HASPc_DATA_INTERLOCK.key k,
        SAF_HASPc_ERR_CRC.key k, SAF_HASPc_ERR_IDENT.key k, SAF_HASPc_ERR_REPEAT.key k, SAF_HASPc_ERR_GAP.key k]) d e ∧
      (e.hasp c.val) = ⟨beNum f 18 4, false, min 3 ((d.hasp c.val).good + 1), some d.tim.c⟩ ∧
      e.rd SAF_HASPc_STAT_SEQ c.val = beNum f 18 4 % 2 ^ 16 ∧ e.rd SAF_HASPc_DATA_INTERLOCK c.val = beNum f 24 2 % 2 ^ 16 ∧
      (2 ≤ (d.hasp c.val).good → e.rd SAF_HASPc_STAT_OK c.val = 1) ∧
      e = { d with bank := e.bank, saf := { d.saf with hasp := e.saf.hasp } }) ∧
  (∀ (s : State) (l : LeafId) (net : Fin 2) (c : Fin 16) (f : List Byte), (s.leaf l).netTakes f 0x88B5 = true → (s.leaf l).haspOpen c.val 0 = true →
    (s.leaf l).haspMac c.val = beNum f 6 6 → crc32c ((f.drop 14).take 24) ≠ beNum f 38 4 →
    LeafDoes (.haspFrame l net f) s l fun d e =>
      Leaf.Keeps ((List.range 16).map SAF_HASPc_ERR_CRC.key) d e ∧
      e = { d with bank := e.bank } ∧
      e.rd SAF_HASPc_ERR_CRC c.val = min (d.rd SAF_HASPc_ERR_CRC c.val + 1) 255 ∧ e.hasp c.val = d.hasp c.val) ∧
  (∀ (s : State) (l : LeafId) (c : Fin 16) (t : Nat), ((s.leaf l).hasp c.val).timing = some t → (s.leaf l).haspOpen c.val 0 = true →
    t + (s.leaf l).rd SAF_HASPc_CFG_TIME c.val * 760000 ≤ (s.leaf l).tim.c →
    LeafDoes (.haspTimeExpectation l c) s l fun d e =>
      Leaf.Keeps (SAF_HASPc_STAT_OK.key c.val :: SAF_STATUS_HASP_FAIL.key 0 :: safTickKeys) d e ∧
      e = { d with bank := e.bank, saf := e.saf, flt := e.flt, conv := e.conv, out := e.out } ∧
      (e.hasp c.val) = { d.hasp c.val with resync := true, good := 0, timing := none } ∧ e.rd SAF_HASPc_STAT_OK c.val = 0 ∧
      e.is SAF_STATUS_HASP_FAIL = true ∧ (d.safRunning = false → d.Raised e 0x2903 .alarm c.val 0 0) ∧
      (d.safRunning = true → ∀ g < 16, d.is SAF_GRPg_CFG_EN g = true → bitOf (d.rd SAF_GRPg_XMASK_HASP g) c.val = true → d.grpState g = 2 →
        e.grpState g ≠ 2)) ∧
  (∀ (s : State) (l : LeafId), (s.leaf l).safOn = true →
    LeafDoes (.tripOrderRepeat l) s l fun d e =>
      e.saf = { d.saf with tx := (d.saf.tx.map fun o => { o with next := o.next + 1 }).filter (·.next ≤ 2) } ∧
      e.out.length = d.out.length + 2 * d.saf.tx.length ∧ e = { d with saf := e.saf, out := e.out }) ∧
  (∀ (s : State) (l : LeafId) (net : Fin 2) (r : Fin 8) (f : List Byte), (s.leaf l).netTakes f 0x88B6 = true → (s.leaf l).is SAF_STATUS_LOCKED = true →
    (s.leaf l).is SAF_ORDr_CFG_EN r.val = true → (s.leaf l).is SAF_ORDr_CFG_TWO_OF_TWO r.val = false →
    beNum f 14 4 = (s.leaf l).rd SAF_ORDr_IDENT_IDENT r.val → crc32c ((f.drop 14).take 24) = beNum f 38 4 → beNum f 22 1 = 1 →
    ((s.leaf l).ordRx r.val) = {} →
    LeafDoes (.tripOrderFrame l net f) s l fun d e =>
      Leaf.Keeps (SAF_STATUS_ORD_RX.key 0 :: ((List.range 8).flatMap fun k => [SAF_ORDr_STAT_EXECUTED.key k, SAF_ORDr_STAT_MISMATCH.key k,
        SAF_ORDr_STAT_ERRORS.key k]) ++ SAF_STATUS_ORD_MISMATCH.key 0 :: safTickKeys) d e ∧
      e = { d with bank := e.bank, saf := e.saf, flt := e.flt, conv := e.conv, out := e.out } ∧
      (e.ordRx r.val).last = some (beNum f 18 4) ∧ e.rd SAF_ORDr_STAT_EXECUTED r.val = min (d.rd SAF_ORDr_STAT_EXECUTED r.val + 1) 255 ∧
      e.is SAF_STATUS_ORD_RX = true ∧
      (∀ g < 16, d.is SAF_GRPg_CFG_EN g = true → bitOf (d.rd SAF_GRPg_XMASK_ORDERS g) r.val = true → d.grpState g ≠ 3 → e.grpState g = 0)) ∧
  (∀ (s : State) (l : LeafId) (r : Fin 8) (c : OrdCopy), (s.leaf l).safOn = true → ((s.leaf l).ordRx r.val).first = some c → c.matched = false →
    c.at_ + 1520000 ≤ (s.leaf l).tim.c → (s.leaf l).is SAF_ORDr_CFG_TWO_OF_TWO r.val = true →
    LeafDoes (.tripOrderMatchTimeout l r) s l fun d e =>
      Leaf.Keeps [SAF_ORDr_STAT_SINGLE.key r.val, SAF_STATUS_ORD_MISMATCH.key 0] d e ∧
      (e.ordRx r.val) = { d.ordRx r.val with first := none } ∧ e.rd SAF_ORDr_STAT_SINGLE r.val = min (d.rd SAF_ORDr_STAT_SINGLE r.val + 1) 255 ∧
      e.is SAF_STATUS_ORD_MISMATCH = true ∧ e = { d with bank := e.bank, saf := { d.saf with rx := e.saf.rx }, out := e.out }) ∧
  (∀ (s : State) (l : LeafId) (r : Fin 8) (c : OrdCopy), (s.leaf l).safOn = true → ((s.leaf l).ordRx r.val).first = some c → c.matched = false →
    c.at_ + 1520000 ≤ (s.leaf l).tim.c → (s.leaf l).is SAF_ORDr_CFG_TWO_OF_TWO r.val = false →
    LeafDoes (.tripOrderMatchTimeout l r) s l fun d e =>
      Leaf.Keeps [SAF_ORDr_STAT_MISMATCH.key r.val, SAF_STATUS_ORD_MISMATCH.key 0] d e ∧
      e = { d with bank := e.bank, saf := e.saf, out := e.out } ∧
      (e.ordRx r.val) = { d.ordRx r.val with first := some { c with matched := true } } ∧
      e.rd SAF_ORDr_STAT_MISMATCH r.val = min (d.rd SAF_ORDr_STAT_MISMATCH r.val + 1) 255 ∧ e.is SAF_STATUS_ORD_MISMATCH = true)

/-- The SETPOINT commands (07_setpoint_profiler.md R249, R259, R269): a command whose parameters are in range waits for the next tick, another completes
INVALID; blend mode ends when its time has run out. -/
def Obligations.SetpointCommandsTakeEffect : Prop :=
  (∀ (s : State) (l : LeafId) (h : Handle) (c : Cmd), (s.leaf l).WaitsDue h 2 1 c → setpointOk c = true →
    LeafDoes (.setpointTarget l h) s l fun d e =>
      e.prof = { d.prof with waiting := d.prof.waiting.filter (· ≠ h) ++ [h] } ∧ Leaf.Keeps [HND_JRNL_LIVE.key 0] d e ∧
      e = { d with bank := e.bank, hnd := e.hnd, prof := e.prof, lanes := e.lanes, out := e.out }) ∧
  (∀ (s : State) (l : LeafId) (h : Handle) (c : Cmd), (s.leaf l).WaitsDue h 2 1 c → setpointOk c = false →
    LeafDoes (.setpointTarget l h) s l fun d e =>
      Leaf.Keeps jrnlKeys d e ∧
      e = { d with bank := e.bank, hnd := e.hnd, lanes := e.lanes, out := e.out } ∧
      (∃ r, e.Answered h stINVALID r 0) ∧ e.prof = d.prof) ∧
  (∀ (s : State) (l : LeafId) (h : Handle) (c : Cmd), (s.leaf l).WaitsDue h 2 2 c → setpointOk c = true →
    LeafDoes (.hold l h) s l fun d e =>
      Leaf.Keeps jrnlKeys d e ∧
      e.prof = { d.prof with waiting := d.prof.waiting.filter (· ≠ h) ++ [h] } ∧
      e = { d with bank := e.bank, hnd := e.hnd, prof := e.prof, lanes := e.lanes, out := e.out }) ∧
  (∀ (s : State) (l : LeafId) (h : Handle) (c : Cmd), (s.leaf l).WaitsDue h 2 3 c → setpointOk c = true →
    LeafDoes (.limits l h) s l fun d e =>
      Leaf.Keeps jrnlKeys d e ∧
      e.prof = { d.prof with waiting := d.prof.waiting.filter (· ≠ h) ++ [h] } ∧
      e = { d with bank := e.bank, hnd := e.hnd, prof := e.prof, lanes := e.lanes, out := e.out }) ∧
  (∀ (s : State) (l : LeafId) (h : Handle) (c : Cmd), (s.leaf l).WaitsDue h 2 4 c → setpointOk c = true →
    LeafDoes (.mode l h) s l fun d e =>
      Leaf.Keeps jrnlKeys d e ∧
      e.prof = { d.prof with waiting := d.prof.waiting.filter (· ≠ h) ++ [h] } ∧
      e = { d with bank := e.bank, hnd := e.hnd, prof := e.prof, lanes := e.lanes, out := e.out }) ∧
  (∀ (s : State) (l : LeafId) (h : Handle) (c : Cmd), (s.leaf l).WaitsDue h 2 5 c → setpointOk c = true →
    LeafDoes (.preset l h) s l fun d e =>
      Leaf.Keeps jrnlKeys d e ∧
      e.prof = { d.prof with waiting := d.prof.waiting.filter (· ≠ h) ++ [h] } ∧
      e = { d with bank := e.bank, hnd := e.hnd, prof := e.prof, lanes := e.lanes, out := e.out }) ∧
  (∀ (s : State) (l : LeafId), (s.leaf l).active = true → (s.leaf l).blend = true →
    LeafDoes (.blendExpired l) s l fun d e =>
      Leaf.KeepsOut (jrnlKeys ++ faultKeys) [profBlock] d e ∧
      e.rd PROF_STATUS_MODE = 0 ∧ e.rd PROF_STATUS_REASON = 0 ∧ e.prof.left = 0 ∧ e.rd PROF_BLEND_LEFT_MS = 0 ∧
      d.Raised e 0x2101 .note 0 0 0 ∧
      e = { d with bank := e.bank, hnd := e.hnd, prof := e.prof, flt := e.flt, lanes := e.lanes, out := e.out })

/-- The KEY commands (06_keying_image.md R220 to R243, Table 6.14): a LOAD, a SWAP, a FALLBACK, a DISCARD and a raised floor. The definitions behind it follow the model's log entry 18. -/
def Obligations.KeyCommandsTakeEffect : Prop :=
  (∀ (s : State) (l : LeafId) (h : Handle) (c : Cmd), (s.leaf l).WaitsDue h 3 1 c → c.par 0 8 ≤ 1 → (s.leaf l).rd KEY_STATUS_SHD_STATE = 0 →
    (s.leaf l).key.pend = none → (s.leaf l).wardBusy (decide (c.par 0 8 = 1)) = false →
    LeafDoes (.keyLoad l h) s l fun d e =>
      Leaf.Keeps (loadKeys ++ jrnlKeys) d e ∧
      (d.wardOk (decide (c.par 0 8 = 1)) = true →
        e.key = { d.key with load := some { handle := h, ward := decide (c.par 0 8 = 1) }, staged := none, waitPartner := none } ∧
        e.rd KEY_STATUS_SHD_STATE = 1 ∧ e.rd KEY_STATUS_HITLESS = 0) ∧
      (d.wardOk (decide (c.par 0 8 = 1)) = false → e.key = d.key ∧ e.Answered h stREFUSED_STATE 0 0) ∧
      e = { d with bank := e.bank, hnd := e.hnd, key := e.key, lanes := e.lanes, out := e.out }) ∧
  (∀ (s : State) (l : LeafId) (h : Handle) (c : Cmd), (s.leaf l).WaitsDue h 3 1 c → 1 < c.par 0 8 →
    LeafDoes (.keyLoad l h) s l fun d e =>
      Leaf.Keeps jrnlKeys d e ∧
      e = { d with bank := e.bank, hnd := e.hnd, lanes := e.lanes, out := e.out } ∧
      e.Answered h stINVALID 0 0 ∧ e.key = d.key) ∧
  (∀ (s : State) (l : LeafId) (h : Handle) (c : Cmd) (im : Image), (s.leaf l).WaitsDue h 3 2 c → (s.leaf l).activationStop = none →
    (c.par 64 8 = 0 ∨ 16 ≤ c.par 64 8 ∧ c.par 64 8 ≤ 200) → (s.leaf l).key.active.map (fun i => expectOf i.hash) ≠ some (c.par 0 64) →
    (s.leaf l).key.staged = some im → expectOf im.hash = c.par 0 64 →
    (s.leaf l).swapRefused ((s.leaf l).delays (s.leaf l.other) s.concs) (c.par 64 8) = false →
    LeafDoes (.keySwap l h) s l fun d e =>
      e.key = { d.key with pend := some { handle := h, j := d.tim.cyc + 4, hitless := d.hitless, period := c.par 64 8, ward := d.key.stagedWard } } ∧
      e.rd KEY_STATUS_SWAP_PEND = 1 ∧ Leaf.Keeps [KEY_STATUS_SWAP_PEND.key 0, HND_JRNL_LIVE.key 0] d e ∧
      e = { d with bank := e.bank, hnd := e.hnd, key := e.key, lanes := e.lanes, out := e.out }) ∧
  (∀ (s : State) (l : LeafId) (h : Handle) (c : Cmd), (s.leaf l).WaitsDue h 3 2 c → (s.leaf l).is UPD_HASP_SET = true →
    LeafDoes (.keySwap l h) s l fun d e =>
      Leaf.Keeps jrnlKeys d e ∧
      e = { d with bank := e.bank, hnd := e.hnd, lanes := e.lanes, out := e.out } ∧
      e.Answered h stREFUSED_HASP 0 0 ∧ e.key = d.key) ∧
  (∀ (s : State) (l : LeafId) (h : Handle) (c : Cmd), (s.leaf l).WaitsDue h 3 3 c → (s.leaf l).key.pend = none → (s.leaf l).key.load = none →
    (s.leaf l).key.waitPartner = none →
    LeafDoes (.keyDiscard l h) s l fun d e =>
      Leaf.Keeps (loadKeys ++ jrnlKeys) d e ∧
      e.key = { d.key with staged := none } ∧ e.rd KEY_STATUS_SHD_STATE = 0 ∧ e.Answered h stDONE 0 0 ∧
      (∀ t, (e.tile t).coefShadow = (d.tile t).coef ∨ e.tile t = d.tile t) ∧
      e = { d with bank := e.bank, hnd := e.hnd, key := e.key, tiles := e.tiles, lanes := e.lanes, out := e.out }) ∧
  (∀ (s : State) (l : LeafId) (h : Handle) (c : Cmd), (s.leaf l).WaitsDue h 3 4 c → (s.leaf l).activationStop = none →
    (s.leaf l).key.active.map (fun i => expectOf i.hash) ≠ some (c.par 0 64) →
    ((s.leaf l).keyWard (!(s.leaf l).keyPtr)).hash.map expectOf = some (c.par 0 64) →
    (s.leaf l).rd KEY_FLOOR_FLOOR ≤ leAt ((s.leaf l).keyWard (!(s.leaf l).keyPtr)).body 0x0C 4 → (s.leaf l).rd KEY_STATUS_SHD_STATE ≠ 1 →
    (s.leaf l).key.pend = none →
    LeafDoes (.keyFallback l h) s l fun d e =>
      Leaf.Keeps (loadKeys ++ jrnlKeys) d e ∧
      (d.wardOk (!d.keyPtr) = true →
        e.key = { d.key with load := some { handle := h, ward := !d.keyPtr, fallback := true }, staged := none, waitPartner := none } ∧
        e.rd KEY_STATUS_SHD_STATE = 1) ∧
      (d.wardOk (!d.keyPtr) = false → e.key = d.key ∧ e.Answered h stINVALID 0 0) ∧
      e = { d with bank := e.bank, hnd := e.hnd, key := e.key, lanes := e.lanes, out := e.out }) ∧
  (∀ (s : State) (l : LeafId) (h : Handle) (c : Cmd), (s.leaf l).WaitsDue h 3 5 c → (s.leaf l).is UPD_HASP_SET = false →
    c.par 0 32 ≤ (s.leaf l).rd KEY_ACT_SEC_VALUE → (s.leaf l).rd KEY_FLOOR_FLOOR < c.par 0 32 → (s.leaf l).rd KEY_FLOOR_LEFT_LEFT ≠ 0 →
    LeafDoes (.keyRaiseFloor l h) s l fun d e =>
      e.rd KEY_FLOOR_FLOOR = c.par 0 32 ∧ e.rd KEY_FLOOR_LEFT_LEFT = (d.rd KEY_FLOOR_LEFT_LEFT - 1) % 2048 ∧ e.Answered h stDONE 0 0 ∧
      Leaf.Keeps [KEY_FLOOR_FLOOR.key 0, KEY_FLOOR_LEFT_LEFT.key 0, HND_JRNL_LIVE.key 0] d e ∧
      e = { d with bank := e.bank, hnd := e.hnd, lanes := e.lanes, out := e.out }) ∧
  (∀ (s : State) (l : LeafId) (h : Handle) (c : Cmd), (s.leaf l).WaitsDue h 3 5 c → (s.leaf l).is UPD_HASP_SET = false →
    (s.leaf l).rd KEY_ACT_SEC_VALUE < c.par 0 32 →
    LeafDoes (.keyRaiseFloor l h) s l fun d e =>
      Leaf.Keeps jrnlKeys d e ∧
      e = { d with bank := e.bank, hnd := e.hnd, lanes := e.lanes, out := e.out } ∧
      e.Answered h stINVALID 0 0 ∧ e.rd KEY_FLOOR_FLOOR = d.rd KEY_FLOOR_FLOOR)

/-- What becomes of a load and of a scheduled swap (06_keying_image.md R220, R226, R232, R236, R239): the first check that fails is shown, an image that
passes is staged, and at its cycle the staged image becomes the active one. The definitions behind it follow the model's log entry 44. -/
def Obligations.KeyEngineEventsTakeEffect : Prop :=
  (∀ (s : State) (l : LeafId) (j : LoadJob), (s.leaf l).key.load = some j → j.startUp = false → j.fallback = false →
    LeafDoes (.keyLoadDone l) s l fun d e =>
      Leaf.Keeps (loadKeys ++ jrnlKeys) d e ∧
      (∀ x, loadCheck d.loadEnv (d.keyWard j.ward).hash (d.keyWard j.ward).body = some x →
        e.key.load = none ∧ e.key.staged = none ∧ e.rd KEY_STATUS_SHD_STATE = 3 ∧ e.rd KEY_ERR_VALID = 1 ∧ e.rd KEY_ERR_CHECK = x.check % 256 ∧
        e.rd KEY_ERR_SECTION = x.sect % 65536 ∧ e.rd KEY_ERR_OFS_OFFSET = x.ofs % 2 ^ 32) ∧
      (loadCheck d.loadEnv (d.keyWard j.ward).hash (d.keyWard j.ward).body = none →
        e.key.load = none ∧ e.key.staged = some (imageOf (d.keyWard j.ward).body) ∧ e.key.stagedWard = j.ward ∧
        e.rd KEY_STATUS_SHD_STATE = 2 ∧ e.rd KEY_SHD_VER_VALUE = (imageOf (d.keyWard j.ward).body).version % 2 ^ 32) ∧
      e = { d with bank := e.bank, hnd := e.hnd, key := e.key, tiles := e.tiles, lanes := e.lanes, out := e.out }) ∧
  (∀ (s : State) (l : LeafId) (j : LoadJob), (s.leaf l).key.load = some j → j.startUp = true → j.second = false →
    LeafDoes (.keyLoadDone l) s l fun d e =>
      Leaf.Keeps (KEY_STATUS_SWAP_PEND.key 0 :: PWR_STATUS_STAGE.key 0 :: loadKeys ++ faultKeys) d e ∧
      e = { d with bank := e.bank, key := e.key, tiles := e.tiles, pwr := e.pwr, flt := e.flt, lanes := e.lanes, out := e.out } ∧
      ((loadCheck d.loadEnv (d.keyWard j.ward).hash (d.keyWard j.ward).body).isSome = true →
        e.key.load = some { handle := 0, ward := !j.ward, startUp := true, second := true } ∧ d.Raised e 0x2001 .alarm 0 0 0) ∧
      (loadCheck d.loadEnv (d.keyWard j.ward).hash (d.keyWard j.ward).body = none →
        e.pwr.step = 8 ∧ e.rd PWR_STATUS_STAGE = 5 ∧
        ∃ p, e.key.pend = some p ∧ p.j = d.tim.cyc + 4 ∧ p.startUp = true ∧ p.ward = j.ward)) ∧
  (∀ (s : State) (l : LeafId) (p : SwapPend) (im : Image), (s.leaf l).key.pend = some p → (s.leaf l).key.staged = some im →
    p.j ≤ (s.leaf l).tim.cyc → (p.startUp = true ∨ swapAllowed (s.leaf l).conv.st p.hitless = true) →
    LeafDoes (.planeSwap l) s l fun d e =>
      Leaf.KeepsOut (CYC_PERIOD_PERIOD.key 0 :: FLT_STATUS_MODE.key 0 :: faultKeys ++ jrnlKeys) [tumBlock, fabBlock, tileBlock, keyBlock,
        updBlock, discBlock, cellTable] d e ∧
      e = { d with bank := e.bank, shadow := e.shadow, key := e.key, tiles := e.tiles, tum := e.tum, fab := e.fab, hng := e.hng, disc := e.disc,
                   upd := e.upd, cyc := e.cyc, flt := e.flt, hnd := e.hnd, lanes := e.lanes, out := e.out } ∧
      e.key.active = some im ∧ e.key.pend = none ∧ e.key.staged = none ∧ e.rd KEY_STATUS_SHD_STATE = 0 ∧ e.rd KEY_STATUS_SWAP_PEND = 0 ∧
      e.rd KEY_STATUS_KEYED = 1 ∧ e.rd KEY_SWAP_VALID = 1 ∧ e.rd KEY_SWAP_CYCLE = p.j % 65536 ∧ e.rd KEY_SWAP_KIND = b2n (!p.hitless) ∧
      e.rd KEY_ACT_VER_VALUE = im.version % 2 ^ 32 ∧ e.conv = d.conv ∧ e.tim = d.tim) ∧
  (∀ (s : State) (l : LeafId) (p : SwapPend) (im : Image), (s.leaf l).key.pend = some p → (s.leaf l).key.staged = some im →
    p.j ≤ (s.leaf l).tim.cyc → p.startUp = false → swapAllowed (s.leaf l).conv.st p.hitless = false →
    LeafDoes (.planeSwap l) s l fun d e =>
      Leaf.Keeps (KEY_STATUS_SWAP_PEND.key 0 :: jrnlKeys) d e ∧
      e.key = { d.key with pend := none } ∧ e.rd KEY_STATUS_SWAP_PEND = 0 ∧
      e = { d with bank := e.bank, hnd := e.hnd, key := e.key, lanes := e.lanes, out := e.out }) ∧
  (∀ (s : State) (l : LeafId) (b : List Byte), (s.leaf l).active = false → (s.leaf l).running = true → (s.leaf l).is HNG_STATUS_PARTNER_UP = true →
    leAt b 0x0C 4 < (s.leaf l).rd KEY_FLOOR_FLOOR →
    LeafDoes (.imageTransfer l b) s l fun d e =>
      Leaf.Keeps (wardKeys ++ faultKeys) d e ∧
      e = { d with bank := e.bank, upd := e.upd, flt := e.flt, out := e.out } ∧
      e.keyWard (!d.keyPtr) = storeOfImage b ∧ e.keyWard d.keyPtr = d.keyWard d.keyPtr ∧ e.key = d.key ∧ d.Raised e 0x2003 .alarm 0 0 0) ∧
  (∀ (s : State) (l : LeafId) (b : List Byte), (s.leaf l).active = false → (s.leaf l).running = true → (s.leaf l).is HNG_STATUS_PARTNER_UP = true →
    (s.leaf l).rd KEY_FLOOR_FLOOR ≤ leAt b 0x0C 4 →
    LeafDoes (.imageTransfer l b) s l fun d e =>
      Leaf.Keeps (KEY_STATUS_SWAP_PEND.key 0 :: wardKeys ++ loadKeys) d e ∧
      e = { d with bank := e.bank, upd := e.upd, key := e.key, tiles := e.tiles } ∧
      e.keyWard (!d.keyPtr) = storeOfImage b ∧
      (loadCheck d.loadEnv (storeOfImage b).hash b = none →
        e.key.staged = some (imageOf b) ∧ ∃ p, e.key.pend = some p ∧ p.j = d.tim.cyc + 4 ∧ p.hitless = false) ∧
      (∀ x, loadCheck d.loadEnv (storeOfImage b).hash b = some x →
        e.key.staged = none ∧ e.rd KEY_STATUS_SHD_STATE = 3 ∧ e.rd KEY_ERR_CHECK = x.check % 256))

/-- Download into a store (17_updates.md R523, R526 to R529, Table 17.3): BEGIN opens a session, PIECE stores, VERIFY waits for the hash, ABORT erases. The definitions behind it follow the model's log entries 4, 8, 63, 72. -/
def Obligations.DownloadCommandsTakeEffect : Prop :=
  (∀ (s : State) (l : LeafId) (h : Handle) (c : Cmd) (buf : List Byte), (s.leaf l).WaitsDue h 4 1 c → 1 ≤ c.par 0 8 → c.par 0 8 ≤ 4 →
    (s.leaf l).is UPD_HASP_SET = false → (s.leaf l).beginBusy (c.par 0 8) (buf.take 512) = false → ((s.leaf l).sessOf (c.par 0 8)).st ≠ 1 →
    LeafDoes (.begin l h buf) s l fun d e =>
      Leaf.Keeps (sessKeys (c.par 0 8) ++ wardKeys ++ jrnlKeys) d e ∧
      (d.headerGood (c.par 0 8) (buf.take 512) = true →
        e.sessOf (c.par 0 8) = { st := 1, hdr := buf.take 512 } ∧ e.storeOf (c.par 0 8) = { hdr := buf.take 512 } ∧
        e.rd UPD_Sk_STATE_STATE (c.par 0 8 - 1) = 1 ∧ e.Answered h stDONE 0 0) ∧
      (d.headerGood (c.par 0 8) (buf.take 512) = false → e.upd = d.upd ∧ e.Answered h stINVALID 0 0) ∧
      e = { d with bank := e.bank, hnd := e.hnd, upd := e.upd, lanes := e.lanes, out := e.out }) ∧
  (∀ (s : State) (l : LeafId) (h : Handle) (c : Cmd) (buf : List Byte) (x : Session), (s.leaf l).WaitsDue h 4 2 c → 1 ≤ c.par 0 8 → c.par 0 8 ≤ 4 →
    (s.leaf l).sessOf (c.par 0 8) = x → x.st = 1 → leAt buf 0 4 < pkPieces x.hdr → SMap.get 0 x.bits (leAt buf 0 4) = 0 →
    crc32c (leBytes 4 (leAt buf 0 4) ++ sliceOf buf 4 4096) = leAt buf 4100 4 →
    LeafDoes (.piece l h buf) s l fun d e =>
      Leaf.Keeps (sessKeys (c.par 0 8) ++ wardKeys ++ jrnlKeys) d e ∧
      (e.storeOf (c.par 0 8)).piece (leAt buf 0 4) = sliceOf buf 4 4096 ∧
      e.sessOf (c.par 0 8) = { x with bits := SMap.put 0 x.bits (leAt buf 0 4) 1,
                                      st := if (SMap.put 0 x.bits (leAt buf 0 4) 1).length = pkPieces x.hdr then 2 else 1 } ∧
      e.Answered h stDONE (SMap.put 0 x.bits (leAt buf 0 4) 1).length 0 ∧
      e = { d with bank := e.bank, hnd := e.hnd, upd := e.upd, lanes := e.lanes, out := e.out }) ∧
  (∀ (s : State) (l : LeafId) (h : Handle) (c : Cmd) (buf : List Byte), (s.leaf l).WaitsDue h 4 2 c → 1 ≤ c.par 0 8 → c.par 0 8 ≤ 4 →
    ((s.leaf l).sessOf (c.par 0 8)).st = 1 → pkPieces ((s.leaf l).sessOf (c.par 0 8)).hdr ≤ leAt buf 0 4 →
    LeafDoes (.piece l h buf) s l fun d e =>
      Leaf.Keeps (UPD_STATUS_PIECE_REJ.key 0 :: faultKeys ++ jrnlKeys) d e ∧
      e = { d with bank := e.bank, flt := e.flt, hnd := e.hnd, lanes := e.lanes, out := e.out } ∧
      e.rd UPD_STATUS_PIECE_REJ = 1 ∧ d.Raised e 0x2A02 .note (c.par 0 8) 0 0 ∧ e.upd = d.upd ∧ e.Answered h stINVALID 0 0) ∧
  (∀ (s : State) (l : LeafId) (h : Handle) (c : Cmd), (s.leaf l).WaitsDue h 4 3 c → 1 ≤ c.par 0 8 → c.par 0 8 ≤ 4 →
    ((s.leaf l).sessOf (c.par 0 8)).st = 2 →
    LeafDoes (.verify l h) s l fun d e =>
      Leaf.Keeps (sessKeys (c.par 0 8) ++ wardKeys ++ jrnlKeys) d e ∧
      e.sessOf (c.par 0 8) = { d.sessOf (c.par 0 8) with st := 3, waiting := (d.sessOf (c.par 0 8)).waiting ++ [h] } ∧
      e.rd UPD_Sk_STATE_STATE (c.par 0 8 - 1) = 3 ∧ e = { d with bank := e.bank, hnd := e.hnd, upd := e.upd, lanes := e.lanes, out := e.out }) ∧
  (∀ (s : State) (l : LeafId) (h : Handle) (c : Cmd), (s.leaf l).WaitsDue h 4 3 c → 1 ≤ c.par 0 8 → c.par 0 8 ≤ 4 →
    ((s.leaf l).sessOf (c.par 0 8)).st = 4 →
    LeafDoes (.verify l h) s l fun d e =>
      Leaf.Keeps jrnlKeys d e ∧
      e = { d with bank := e.bank, hnd := e.hnd, lanes := e.lanes, out := e.out } ∧
      e.Answered h stDONE 0 0 ∧ e.upd = d.upd) ∧
  (∀ (s : State) (l : LeafId) (k : Nat), (s.leaf l).running = true → 1 ≤ k → k ≤ 4 → ((s.leaf l).sessOf k).st = 3 →
    (∀ m < k, 1 ≤ m → ((s.leaf l).sessOf m).st ≠ 3) →
    LeafDoes (.verifyDone l) s l fun d e =>
      Leaf.Keeps (UPD_STATUS_PIECE_REJ.key 0 :: sessKeys k ++ wardKeys ++ faultKeys ++ jrnlKeys) d e ∧
      (Config.sha384 (d.storeOf k).body = pkHash (d.sessOf k).hdr →
        (e.sessOf k).st = 4 ∧ (e.storeOf k).hash = some (pkHash (d.sessOf k).hdr) ∧ (e.sessOf k).waiting = []) ∧
      (Config.sha384 (d.storeOf k).body ≠ pkHash (d.sessOf k).hdr →
        (e.sessOf k).st = 1 ∧ (e.sessOf k).bits = [] ∧ e.rd UPD_STATUS_PIECE_REJ = 1 ∧ d.Raised e 0x2A02 .note k 0 0) ∧
      e = { d with bank := e.bank, hnd := e.hnd, upd := e.upd, flt := e.flt, lanes := e.lanes, out := e.out }) ∧
  (∀ (s : State) (l : LeafId) (h : Handle) (c : Cmd), (s.leaf l).WaitsDue h 4 8 c → 1 ≤ c.par 0 8 → c.par 0 8 ≤ 4 →
    ((s.leaf l).sessOf (c.par 0 8)).st ≠ 0 → (s.leaf l).kindBusy (c.par 0 8) = false →
    LeafDoes (.updAbort l h) s l fun d e =>
      Leaf.Keeps (sessKeys (c.par 0 8) ++ wardKeys ++ jrnlKeys) d e ∧
      e.sessOf (c.par 0 8) = {} ∧ e.storeOf (c.par 0 8) = {} ∧
      e = { d with bank := e.bank, hnd := e.hnd, upd := e.upd, lanes := e.lanes, out := e.out })

/-- Distribution, activation, waves and confirmation (17_updates.md R535, R538, R540 to R544, R551). The definitions behind it follow the model's log entries 71, 72. -/
def Obligations.ActivationCommandsTakeEffect : Prop :=
  (∀ (s : State) (l : LeafId) (h : Handle) (c : Cmd), (s.leaf l).WaitsDue h 4 5 c → c.par 0 8 = 3 → ((s.leaf l).sessOf 3).st = 4 →
    (s.leaf l).upd.acts = [] →
    LeafDoes (.distribute l h) s l fun d e =>
      Leaf.Keeps (UPD_DIST_BUSY.key 0 :: UPD_DIST_KIND.key 0 :: UPD_DIST_TARGETS.key 0 :: UPD_DIST_HOLDING.key 0 :: jrnlKeys) d e ∧
      e.upd = { d.upd with dist := d.upd.dist ++ [{ handle := h, kind := 3, targets := d.concTargets (pkVariants (d.sessOf 3).hdr) }] } ∧
      e.rd UPD_DIST_BUSY = 1 ∧ e.rd UPD_DIST_KIND = 0 ∧ e.rd UPD_DIST_TARGETS = (d.concTargets (pkVariants (d.sessOf 3).hdr)).length % 2 ^ 15 ∧
      e = { d with bank := e.bank, hnd := e.hnd, upd := e.upd, lanes := e.lanes, out := e.out }) ∧
  (∀ (s : State) (l : LeafId) (h : Handle) (c : Cmd), (s.leaf l).WaitsDue h 4 5 c → (c.par 0 8 = 3 ∨ c.par 0 8 = 4) →
    ((s.leaf l).sessOf (c.par 0 8)).st ≠ 4 →
    LeafDoes (.distribute l h) s l fun d e =>
      Leaf.Keeps jrnlKeys d e ∧
      e = { d with bank := e.bank, hnd := e.hnd, lanes := e.lanes, out := e.out } ∧
      e.Answered h stREFUSED_STATE 0 0 ∧ e.upd = d.upd) ∧
  (∀ (s : State) (l : LeafId) (h : Handle) (c : Cmd), (s.leaf l).WaitsDue h 4 4 c → c.par 0 8 = 3 → c.par 8 6 < 48 →
    (s.leaf l).activationStop = none → actState 3 (s.leaf l).conv.st = true → ((s.leaf l).sessOf 3).st = 4 →
    LeafDoes (.activate l h) s l fun d e =>
      e.upd = { d.upd with acts := d.upd.acts.filter (·.1 ≠ h) ++ [(h, 3, c.par 8 6)] } ∧ Leaf.Keeps [HND_JRNL_LIVE.key 0] d e ∧
      e = { d with bank := e.bank, hnd := e.hnd, upd := e.upd, lanes := e.lanes, out := e.out }) ∧
  (∀ (s : State) (l : LeafId) (h : Handle) (c : Cmd), (s.leaf l).WaitsDue h 4 4 c → c.par 0 8 = 3 → c.par 8 6 < 48 →
    (s.leaf l).is UPD_HASP_SET = true →
    LeafDoes (.activate l h) s l fun d e =>
      Leaf.Keeps jrnlKeys d e ∧
      e = { d with bank := e.bank, hnd := e.hnd, lanes := e.lanes, out := e.out } ∧
      e.Answered h stREFUSED_HASP 0 0 ∧ e.upd = d.upd) ∧
  (∀ (s : State) (l : LeafId) (h : Handle) (c : Cmd) (im : Image), (s.leaf l).WaitsDue h 4 6 c → (s.leaf l).activationStop = none →
    c.par 0 8 < 6 → 1 ≤ c.par 8 16 → c.par 8 16 ≤ 2048 → (s.leaf l).key.active = some im → c.par 0 8 < im.arms.length →
    ((s.leaf l).conv.st = .keyedIdle ∨ (s.leaf l).conv.st = .blockedReady) → (s.leaf l).upd.waves = [] →
    (s.leaf l).rd TUM_SPARE_N_REQ (c.par 0 8) < (s.leaf l).healthy (c.par 0 8) →
    (s.leaf l).wavePick s { handle := h, arm := c.par 0 8, max := c.par 8 16, start := (s.leaf l).tim.cyc } ≠ [] →
    LeafDoes (.wave l h) s l fun d e =>
      Leaf.Keeps (UPD_WAVE_BUSY.key 0 :: UPD_WAVE_ARM.key 0 :: UPD_WAVE_DONE.key 0 :: UPD_WAVE_IN_WAVE.key 0 :: UPD_WAVE_FAILED.key 0 ::
        jrnlKeys) d e ∧
      e.upd = { d.upd with waves := [{ handle := h, arm := c.par 0 8, max := c.par 8 16, start := d.tim.cyc, begun := d.tim.c,
                                       cells := d.wavePick s { handle := h, arm := c.par 0 8, max := c.par 8 16, start := d.tim.cyc } }] } ∧
      e.rd UPD_WAVE_BUSY = 1 ∧ e.rd UPD_WAVE_ARM = c.par 0 8 ∧
      e = { d with bank := e.bank, hnd := e.hnd, upd := e.upd, lanes := e.lanes, out := e.out }) ∧
  (∀ (s : State) (l : LeafId) (h : Handle) (c : Cmd), (s.leaf l).WaitsDue h 4 6 c → (6 ≤ c.par 0 8 ∨ c.par 8 16 = 0 ∨ 2048 < c.par 8 16) →
    LeafDoes (.wave l h) s l fun d e =>
      Leaf.Keeps jrnlKeys d e ∧
      e = { d with bank := e.bank, hnd := e.hnd, lanes := e.lanes, out := e.out } ∧
      e.Answered h stINVALID 0 0 ∧ e.upd = d.upd) ∧
  (∀ (s : State) (l : LeafId) (j : WaveJob), (s.leaf l).active = true → (s.leaf l).upd.waves = [j] →
    (∀ x ∈ j.cells, (s.leaf l).waveReady s x = true) → ((s.leaf l).conv.st = .keyedIdle ∨ (s.leaf l).conv.st = .blockedReady) →
    (s.leaf l).is PWR_STATUS_AUX_LOW = false → (s.leaf l).rd TUM_SPARE_N_REQ j.arm < (s.leaf l).healthy j.arm →
    (s.leaf l).wavePick s { j with cells := [], done := j.done ++ j.cells } = [] →
    LeafDoes (.waveNext l) s l fun d e =>
      Leaf.Keeps (UPD_WAVE_BUSY.key 0 :: UPD_WAVE_ARM.key 0 :: UPD_WAVE_DONE.key 0 :: UPD_WAVE_IN_WAVE.key 0 :: UPD_WAVE_FAILED.key 0 ::
        jrnlKeys) d e ∧
      e.upd = { d.upd with waves := [] } ∧ e.rd UPD_WAVE_BUSY = 0 ∧ e.rd UPD_WAVE_DONE = (j.done.length + j.cells.length) % 2 ^ 12 ∧
      e = { d with bank := e.bank, hnd := e.hnd, upd := e.upd, lanes := e.lanes, out := e.out }) ∧
  (∀ (s : State) (l : LeafId) (j : WaveJob) (x : Nat), (s.leaf l).active = true → (s.leaf l).upd.waves = [j] → x ∈ j.cells →
    (s.leaf l).waveReady s x = false → (s.leaf l).tim.c < j.begun + 800000000 → LeafDoes (.waveNext l) s l fun d e => e = d) ∧
  (∀ (s : State) (l : LeafId) (h : Handle) (c : Cmd), (s.leaf l).WaitsDue h 4 7 c → c.par 0 8 = 1 →
    (s.leaf l).upd.boot.newest.named (c.par 8 32) = true → (s.leaf l).hng.partner.ident = none →
    LeafDoes (.confirm l h) s l fun d e =>
      Leaf.Keeps (ptrKeys ++ jrnlKeys) d e ∧
      e.upd.boot.newest.trial = false ∧ e.upd.boot.newest.version = d.upd.boot.newest.version ∧
      e.upd.boot.newest.second = d.upd.boot.newest.second ∧ e.rd UPD_BOOT_TRIAL = 0 ∧ e.Answered h stDONE 1 0 ∧
      e = { d with bank := e.bank, hnd := e.hnd, upd := e.upd, lanes := e.lanes, out := e.out }) ∧
  (∀ (s : State) (l : LeafId) (h : Handle) (c : Cmd), (s.leaf l).WaitsDue h 4 7 c → c.par 0 8 = 2 →
    (s.leaf l).upd.kptr.newest.named (c.par 8 32) = true → (s.leaf l).hng.partner.ident = none →
    LeafDoes (.confirm l h) s l fun d e =>
      Leaf.Keeps (ptrKeys ++ wardKeys ++ jrnlKeys) d e ∧
      e = { d with bank := e.bank, upd := e.upd, hnd := e.hnd, lanes := e.lanes, out := e.out } ∧
      e.upd.kptr.newest.trial = false ∧ e.upd.kptr.newest.second = d.upd.kptr.newest.second ∧ e.rd UPD_KPTR_TRIAL = 0 ∧ e.Answered h stDONE 1 0)

/-- The hasp and the firmware floors (17_updates.md R531 to R533, R540). The definitions behind it follow the model's log entries 4, 81. -/
def Obligations.HaspCommandsTakeEffect : Prop :=
  (∀ (s : State) (l : LeafId) (h : Handle) (c : Cmd), (s.leaf l).WaitsDue h 4 9 c →
    LeafDoes (.haspSet l h) s l fun d e =>
      e.rd UPD_HASP_SET = 1 ∧ e.Answered h stDONE 0 0 ∧ Leaf.Keeps [UPD_HASP_SET.key 0, HND_JRNL_LIVE.key 0] d e ∧
      e = { d with bank := e.bank, hnd := e.hnd, lanes := e.lanes, out := e.out }) ∧
  (∀ (s : State) (l : LeafId) (h : Handle) (c : Cmd) (buf : List Byte), (s.leaf l).WaitsDue h 4 10 c →
    (s.leaf l).rd64 UPD_HASP_LIFT_LO_HANDLE UPD_HASP_LIFT_HI_HANDLE ≠ h →
    LeafDoes (.haspLift l h buf) s l fun d e =>
      Leaf.Keeps (UPD_HASP_SET.key 0 :: UPD_HASP_LIFT_LO_HANDLE.key 0 :: UPD_HASP_LIFT_HI_HANDLE.key 0 :: UPD_HASP_NONCE_LO_NONCE.key 0 ::
        UPD_HASP_NONCE_HI_NONCE.key 0 :: jrnlKeys) d e ∧
      (liftGood d.upd.owner (d.rd64 UPD_HASP_NONCE_LO_NONCE UPD_HASP_NONCE_HI_NONCE) s.leaf0.ident.serial buf = true →
        e.rd UPD_HASP_SET = 0 ∧ e.rd UPD_HASP_LIFT_LO_HANDLE = h % 2 ^ 32 ∧ e.rd UPD_HASP_LIFT_HI_HANDLE = h / 2 ^ 32 % 2 ^ 32 ∧
        e.Answered h stDONE 0 0) ∧
      (liftGood d.upd.owner (d.rd64 UPD_HASP_NONCE_LO_NONCE UPD_HASP_NONCE_HI_NONCE) s.leaf0.ident.serial buf = false →
        e.rd UPD_HASP_SET = d.rd UPD_HASP_SET ∧ e.Answered h stINVALID 0 0) ∧
      e.freeIdx = d.freeIdx + 1 ∧
      e = { d with bank := e.bank, hnd := e.hnd, lanes := e.lanes, out := e.out, freeIdx := e.freeIdx }) ∧
  (∀ (s : State) (l : LeafId) (h : Handle) (c : Cmd) (buf : List Byte), (s.leaf l).WaitsDue h 4 11 c → (s.leaf l).is UPD_HASP_ENROLLED = false →
    LeafDoes (.haspEnroll l h buf) s l fun d e =>
      e.upd = { d.upd with owner := some (Config.sha384 (sliceOf buf 0 96)) } ∧ e.rd UPD_HASP_ENROLLED = 1 ∧ e.Answered h stDONE 0 0 ∧
      Leaf.Keeps [UPD_HASP_ENROLLED.key 0, HND_JRNL_LIVE.key 0] d e ∧
      e = { d with bank := e.bank, hnd := e.hnd, upd := e.upd, lanes := e.lanes, out := e.out }) ∧
  (∀ (s : State) (l : LeafId) (h : Handle) (c : Cmd) (buf : List Byte), (s.leaf l).WaitsDue h 4 11 c → (s.leaf l).is UPD_HASP_ENROLLED = true →
    LeafDoes (.haspEnroll l h buf) s l fun d e =>
      Leaf.Keeps jrnlKeys d e ∧
      e = { d with bank := e.bank, hnd := e.hnd, lanes := e.lanes, out := e.out } ∧
      e.Answered h stREFUSED_STATE 0 0 ∧ e.upd = d.upd) ∧
  (∀ (s : State) (l : LeafId) (h : Handle) (c : Cmd), (s.leaf l).WaitsDue h 4 12 c → (s.leaf l).is UPD_HASP_SET = false →
    (c.par 0 8 = 1 ∨ c.par 0 8 = 3 ∨ c.par 0 8 = 4) → (s.leaf l).floorTooHigh s (c.par 0 8) (c.par 8 32) = false →
    LeafDoes (.updRaiseFloor l h) s l fun d e =>
      e.rd UPD_Sk_FLOOR_FLOOR (c.par 0 8 - 1) = max (c.par 8 32) (d.rd UPD_Sk_FLOOR_FLOOR (c.par 0 8 - 1)) % 2 ^ 32 ∧ e.Answered h stDONE 0 0 ∧
      Leaf.Keeps [UPD_Sk_FLOOR_FLOOR.key (c.par 0 8 - 1), HND_JRNL_LIVE.key 0] d e ∧
      e = { d with bank := e.bank, hnd := e.hnd, lanes := e.lanes, out := e.out }) ∧
  (∀ (s : State) (l : LeafId) (h : Handle) (c : Cmd), (s.leaf l).WaitsDue h 4 12 c → (s.leaf l).is UPD_HASP_SET = true →
    LeafDoes (.updRaiseFloor l h) s l fun d e =>
      Leaf.Keeps jrnlKeys d e ∧
      e = { d with bank := e.bank, hnd := e.hnd, lanes := e.lanes, out := e.out } ∧
      e.Answered h stREFUSED_HASP 0 0)

/-- The steps that write one result (05_control_fabric.md R168, R174 to R182, Table 5.5): the destination takes the result saturated to 32 bits, SAT and
the flag of the operation are set as the result says and are never cleared, the step takes its cycles, and nothing else of the leaf changes. -/
def Obligations.FabricStepsWriteTheirResults : Prop :=
  (∀ (s : State) (l : LeafId) (t : Tile) (k w n : Nat) (a v : Int) (i : Instr), (s.leaf l).StepAt t.val k w →
    (s.leaf l).opndVal ((s.leaf l).tile t.val) k (stepA w) = some a →
    (i, stepOp w, n, v) ∈ [(.stepMov l t .ok, 0x01, 1, a), (.stepNeg l t .ok, 0x04, 1, -a), (.stepAbs l t .ok, 0x05, 1, (a.natAbs : Int)),
      (.stepSqrt l t .ok, 0x0F, 18, if a < 0 then 0 else (isqrt (a.toNat * 2 ^ (stepMod w % 32)) : Int)),
      (.stepLoad l t .ok, 0x17, 1, ((s.leaf l).tile t.val).spRead ((a + (stepB w % 4096 : Nat)) % 4096).toNat)] →
    LeafDoes i s l fun d e => d.StepDone e t.val n (fun x => x.setDst w v) ∧
      e.is TILE_STATUS_SAT t.val = (d.is TILE_STATUS_SAT t.val || (dstOk w && (sat32 v).2)) ∧
      (stepOp w = 0x0F → e.is TILE_STATUS_SQRT_NEG t.val = (d.is TILE_STATUS_SQRT_NEG t.val || decide (a < 0)))) ∧
  (∀ (s : State) (l : LeafId) (t : Tile) (k w n : Nat) (a b v : Int) (i : Instr), (s.leaf l).StepAt t.val k w →
    (s.leaf l).opndVal ((s.leaf l).tile t.val) k (stepA w) = some a → (s.leaf l).opndVal ((s.leaf l).tile t.val) k (stepB w) = some b →
    (i, stepOp w, n, v) ∈ [(.stepAdd l t .ok, 0x02, 1, a + b), (.stepSub l t .ok, 0x03, 1, a - b), (.stepMin l t .ok, 0x06, 1, min a b),
      (.stepMax l t .ok, 0x07, 1, max a b),
      (.stepSel l t .ok, 0x09, 1, if ((s.leaf l).tile t.val).reg (stepMod w) ≠ 0 then a else b),
      (.stepMul l t .ok, 0x0B, 2, (sat64 (shiftBy (a * b) (sext 6 (stepMod w)))).1),
      (.stepDiv l t .ok, 0x0E, 34, if b = 0 then (if 0 < a then 2147483647 else if a < 0 then -2147483648 else 0)
        else Int.tdiv (a * (2 ^ (stepMod w % 32) : Nat)) b)] →
    LeafDoes i s l fun d e => d.StepDone e t.val (n + b2n (twoWords (stepA w) (stepB w))) (fun x => x.setDst w v) ∧
      e.is TILE_STATUS_SAT t.val = (d.is TILE_STATUS_SAT t.val || (dstOk w && (sat32 v).2)) ∧
      (stepOp w = 0x0B → e.is TILE_STATUS_ACC_OVF t.val =
        (d.is TILE_STATUS_ACC_OVF t.val || (sat64 (shiftBy (a * b) (sext 6 (stepMod w)))).2)) ∧
      (stepOp w = 0x0E → e.is TILE_STATUS_DIV_ZERO t.val = (d.is TILE_STATUS_DIV_ZERO t.val || decide (b = 0)))) ∧
  (∀ (s : State) (l : LeafId) (t : Tile) (k w : Nat) (a b : Int) (r : Bool), (s.leaf l).StepAt t.val k w → stepOp w = 0x08 →
    (s.leaf l).opndVal ((s.leaf l).tile t.val) k (stepA w) = some a → (s.leaf l).opndVal ((s.leaf l).tile t.val) k (stepB w) = some b →
    (stepMod w % 8, r) ∈ [(0, decide (a = b)), (1, decide (a ≠ b)), (2, decide (a < b)), (3, decide (a ≤ b)), (4, decide (b < a)), (5, decide (b ≤ a))] →
    LeafDoes (.stepCmp l t .ok) s l fun d e =>
      d.StepDone e t.val (1 + b2n (twoWords (stepA w) (stepB w))) (fun x => x.setDst w (b2n r : Nat))) ∧
  (∀ (s : State) (l : LeafId) (t : Tile) (k w : Nat) (a : Int), (s.leaf l).StepAt t.val k w → stepOp w = 0x0A → stepMod w % 2 = 0 →
    (s.leaf l).opndVal ((s.leaf l).tile t.val) k (stepA w) = some a →
    LeafDoes (.stepLim l t .ok) s l fun d e =>
      d.StepDone e t.val 1 (fun x => x.setDst w (min (max a (-((d.tile t.val).cVal (stepCoef w)).natAbs)) ((d.tile t.val).cVal (stepCoef w)).natAbs))) ∧
  (∀ (s : State) (l : LeafId) (t : Tile) (k w : Nat) (a b : Int), (s.leaf l).StepAt t.val k w → stepOp w = 0x0A → stepMod w % 2 = 1 →
    (s.leaf l).opndVal ((s.leaf l).tile t.val) k (stepA w) = some a → (s.leaf l).opndVal ((s.leaf l).tile t.val) k (stepB w) = some b →
    LeafDoes (.stepLim l t .ok) s l fun d e =>
      d.StepDone e t.val (1 + b2n (twoWords (stepA w) (stepB w))) (fun x => x.setDst w (min (max a b) ((d.tile t.val).cVal (stepCoef w))))) ∧
  (∀ (s : State) (l : LeafId) (t : Tile) (k w : Nat) (a : Int), (s.leaf l).StepAt t.val k w → stepOp w = 0x0E →
    (s.leaf l).opndVal ((s.leaf l).tile t.val) k (stepA w) = some a → (s.leaf l).opndVal ((s.leaf l).tile t.val) k (stepB w) = some 0 →
    (∀ r ∈ flagRoutes, (s.leaf l).is r.1 t.val = false) → (s.leaf l).rd FAB_ROUTE_DIV_ZERO = 2 → ((s.leaf l).tile t.val).pc + 1 < (s.leaf l).rd TILE_LIST_STEPS t.val →
    LeafDoes (.stepDiv l t .ok) s l fun d e =>
      e.rd TILE_FLAG_STEP_VALID t.val = 1 ∧ e.rd TILE_FLAG_STEP_STEP t.val = (d.tile t.val).pc % 512 ∧ e.rd TILE_FLAG_STEP_CYCLE t.val = k % 65536 ∧
      e.is TILE_STATUS_DIV_ZERO t.val = true)

/-- The steps with several results or with state of their own (05_control_fabric.md R174 to R183, R186 to R198, Table 5.5): the accumulator, the
coefficients, the trigonometric and transform steps, lines and filters in the scratchpad, the ports, the cell-table requests and the channels. The result of a CMP of relation code
6 or 7 and the place in a DELAY line of 0 words are free values (log entry 4, DESIGN CHOICE). The definitions behind it follow the model's log entries 4, 15, 16. -/
def Obligations.FabricStateStepsTakeEffect : Prop :=
  (∀ (s : State) (l : LeafId) (t : Tile) (k w : Nat) (a b : Int), (s.leaf l).StepAt t.val k w → stepOp w = 0x08 →
    (s.leaf l).opndVal ((s.leaf l).tile t.val) k (stepA w) = some a → (s.leaf l).opndVal ((s.leaf l).tile t.val) k (stepB w) = some b →
    6 ≤ stepMod w % 8 →
    LeafDoes (.stepCmp l t .ok) s l fun d e =>
      e.freeIdx = d.freeIdx + 1 ∧
      d.StepDone { e with freeIdx := d.freeIdx } t.val (1 + b2n (twoWords (stepA w) (stepB w))) (fun x => x.setDst w (d.free % 2 : Nat))) ∧
  (∀ (s : State) (l : LeafId) (t : Tile) (k w : Nat), (s.leaf l).StepAt t.val k w → stepOp w = 0x00 →
    LeafDoes (.stepNop l t .ok) s l fun d e => d.StepDone e t.val 1 id) ∧
  (∀ (s : State) (l : LeafId) (t : Tile) (k w : Nat), (s.leaf l).StepAt t.val k w → stepOp w = 0x0C →
    LeafDoes (.stepAccout l t .ok) s l fun d e => d.StepDone e t.val 1 (fun x => x.setDst w (d.tile t.val).acc)) ∧
  (∀ (s : State) (l : LeafId) (t : Tile) (k w : Nat) (a : Int), (s.leaf l).StepAt t.val k w → stepOp w = 0x0D →
    (s.leaf l).opndVal ((s.leaf l).tile t.val) k (stepA w) = some a →
    LeafDoes (.stepMac l t .ok) s l fun d e =>
      let x := d.tile t.val;
      let p := sat64 (shiftBy (a * x.cVal (stepCoef w)) (x.cShift (stepCoef w)));
      let base := if stepMod w % 2 = 1 then 0 else x.acc;
      let r := sat64 (if stepMod w / 2 % 2 = 1 then base - p.1 else base + p.1);
      d.StepDone e t.val 2 (fun y => { y with acc := r.1 }) ∧
        e.is TILE_STATUS_ACC_OVF t.val = (d.is TILE_STATUS_ACC_OVF t.val || p.2 || r.2)) ∧
  (∀ (s : State) (l : LeafId) (t : Tile) (k w : Nat) (a : Int), (s.leaf l).StepAt t.val k w → stepOp w = 0x10 →
    (s.leaf l).opndVal ((s.leaf l).tile t.val) k (stepA w) = some a →
    LeafDoes (.stepSincos l t .ok) s l fun d e =>
      d.StepDone e t.val 4 (fun x => (x.setReg (stepDst w % 64) (sinStep (pat 32 a))).setReg (stepDst w % 64 + 1) (cosStep (pat 32 a))) ∧
      (sinStep (pat 32 a) - sinTurn (pat 32 a)).natAbs ≤ 4 ∧ (cosStep (pat 32 a) - sinTurn (pat 32 a + 2 ^ 30)).natAbs ≤ 4) ∧
  (∀ (s : State) (l : LeafId) (t : Tile) (k w : Nat) (a : Int), (s.leaf l).StepAt t.val k w → stepOp w = 0x11 →
    (s.leaf l).opndVal ((s.leaf l).tile t.val) k (stepA w) = some a →
    LeafDoes (.stepAbc2ab l t .ok) s l fun d e =>
      let b := (d.tile t.val).reg (stepA w % 64 + 1);
      let c := (d.tile t.val).reg (stepA w % 64 + 2);
      d.StepDone e t.val 3 (fun x => (x.setReg (stepDst w % 64) (divNear (2 * a - b - c) 3)).setReg (stepDst w % 64 + 1) (divRoot3 (b - c)))) ∧
  (∀ (s : State) (l : LeafId) (t : Tile) (k w : Nat) (a b : Int), (s.leaf l).StepAt t.val k w → stepOp w = 0x12 →
    (s.leaf l).opndVal ((s.leaf l).tile t.val) k (stepA w) = some a → (s.leaf l).opndVal ((s.leaf l).tile t.val) k (stepB w) = some b →
    LeafDoes (.stepRot l t .ok) s l fun d e =>
      let y := (d.tile t.val).reg (stepA w % 64 + 1);
      let si := if stepMod w % 2 = 1 then -b else b;
      let co := (d.tile t.val).reg (stepB w % 64 + 1);
      d.StepDone e t.val (4 + b2n (twoWords (stepA w) (stepB w))) (fun x => (x.setReg (stepDst w % 64) (shiftBy (a * co + y * si) (-30))).setReg
        (stepDst w % 64 + 1) (shiftBy (y * co - a * si) (-30)))) ∧
  (∀ (s : State) (l : LeafId) (t : Tile) (k w : Nat) (a : Int), (s.leaf l).StepAt t.val k w → stepOp w = 0x13 → stepMod w ≠ 0 →
    (s.leaf l).opndVal ((s.leaf l).tile t.val) k (stepA w) = some a →
    LeafDoes (.stepDelay l t .ok) s l fun d e =>
      let p := stepB w % 4096 + k % stepMod w;
      d.StepDone e t.val 2 (fun x => (x.setDst w ((d.tile t.val).spRead p)).setSp p a)) ∧
  (∀ (s : State) (l : LeafId) (t : Tile) (k w : Nat) (a : Int), (s.leaf l).StepAt t.val k w → stepOp w = 0x13 → stepMod w = 0 →
    (s.leaf l).opndVal ((s.leaf l).tile t.val) k (stepA w) = some a →
    LeafDoes (.stepDelay l t .ok) s l fun d e =>
      let p := stepB w % 4096 + d.free;
      e.freeIdx = d.freeIdx + 1 ∧
      d.StepDone { e with freeIdx := d.freeIdx } t.val 2 (fun x => (x.setDst w ((d.tile t.val).spRead p)).setSp p a)) ∧
  (∀ (s : State) (l : LeafId) (t : Tile) (k w : Nat) (a : Int), (s.leaf l).StepAt t.val k w → stepOp w = 0x14 →
    (s.leaf l).opndVal ((s.leaf l).tile t.val) k (stepA w) = some a →
    LeafDoes (.stepRateLim l t .ok) s l fun d e =>
      let v := (d.tile t.val).reg (stepDst w % 64);
      let m : Int := ((d.tile t.val).cVal (stepCoef w)).natAbs;
      d.StepDone e t.val 2 (fun x => x.setReg (stepDst w % 64) (v + min (max (a - v) (-m)) m))) ∧
  (∀ (s : State) (l : LeafId) (t : Tile) (k w : Nat) (a : Int), (s.leaf l).StepAt t.val k w → stepOp w = 0x15 →
    (s.leaf l).opndVal ((s.leaf l).tile t.val) k (stepA w) = some a →
    LeafDoes (.stepFilt1 l t .ok) s l fun d e =>
      let v := (d.tile t.val).reg (stepDst w % 64);
      let p := sat64 (shiftBy ((d.tile t.val).cVal (stepCoef w) * (a - v)) ((d.tile t.val).cShift (stepCoef w)));
      d.StepDone e t.val 3 (fun x => x.setReg (stepDst w % 64) (v + p.1)) ∧
        e.is TILE_STATUS_ACC_OVF t.val = (d.is TILE_STATUS_ACC_OVF t.val || p.2)) ∧
  (∀ (s : State) (l : LeafId) (t : Tile) (k w : Nat) (a : Int), (s.leaf l).StepAt t.val k w → stepOp w = 0x16 →
    (s.leaf l).opndVal ((s.leaf l).tile t.val) k (stepA w) = some a →
    LeafDoes (.stepFilt2 l t .ok) s l fun d e =>
      let x := d.tile t.val;
      let p := stepB w % 4096;
      let u : Int := 2 ^ 32;
      let g (i : Nat) (v : Int) := shiftBy (x.cVal (stepCoef w + i) * v) (x.cShift (stepCoef w + i) + 32);
      let raw := shiftBy (g 0 a + x.spRead p * u) (-32);
      let y := (sat32 raw).1;
      d.StepDone e t.val 6 (fun z => ((z.setDst w raw).setSp p (shiftBy (g 1 a - g 3 y + x.spRead (p + 1) * u) (-32))).setSp (p + 1)
        (shiftBy (g 2 a - g 4 y) (-32)))) ∧
  (∀ (s : State) (l : LeafId) (t : Tile) (k w : Nat) (a b : Int), (s.leaf l).StepAt t.val k w → stepOp w = 0x18 →
    (s.leaf l).opndVal ((s.leaf l).tile t.val) k (stepA w) = some a → (s.leaf l).opndVal ((s.leaf l).tile t.val) k (stepB w) = some b →
    LeafDoes (.stepStore l t .ok) s l fun d e =>
      d.StepDone e t.val (1 + b2n (twoWords (stepA w) (stepB w))) (fun x => x.setSp ((a + (stepDst w % 4096 : Nat)) % 4096).toNat b)) ∧
  (∀ (s : State) (l : LeafId) (t : Tile) (k w : Nat) (a : Int), (s.leaf l).StepAt t.val k w → stepOp w = 0x1C →
    (s.leaf l).opndVal ((s.leaf l).tile t.val) k (stepA w) = some a →
    LeafDoes (.stepCtld l t .ok) s l fun d e =>
      d.StepDone e t.val 1 (fun x => { x with reqs := x.reqs ++ [⟨k, false, pat 32 a, stepMod w % 8, stepDst w % 4⟩] })) ∧
  (∀ (s : State) (l : LeafId) (t : Tile) (k w : Nat) (a b : Int), (s.leaf l).StepAt t.val k w → stepOp w = 0x1D →
    (s.leaf l).opndVal ((s.leaf l).tile t.val) k (stepA w) = some a → (s.leaf l).opndVal ((s.leaf l).tile t.val) k (stepB w) = some b →
    LeafDoes (.stepCtst l t .ok) s l fun d e =>
      d.StepDone e t.val (1 + b2n (twoWords (stepA w) (stepB w))) (fun x => { x with reqs := x.reqs ++ [⟨k, true, pat 32 a, 5, pat 32 b⟩] })) ∧
  (∀ (s : State) (l : LeafId) (t : Tile) (k w : Nat) (a : Int), (s.leaf l).StepAt t.val k w → stepOp w = 0x1B →
    (s.leaf l).opndVal ((s.leaf l).tile t.val) k (stepA w) = some a →
    LeafDoes (.stepOut l t .ok) s l fun d e =>
      d.StepMoves e t.val 1 id ∧ (∀ i ≠ t.val, e.tile i = d.tile i) ∧
      e.fab = { d.fab with out0 := e.fab.out0, out1 := e.fab.out1, outCyc := e.fab.outCyc, lines := e.fab.lines, loads := e.fab.loads } ∧ e.fab.port k (stepDst w % 1024) = pat 32 a ∧
      (∀ p, p ≠ stepDst w % 1024 → e.fab.port k p = d.fab.port k p) ∧ (∀ p, e.fab.port (k + 1) p = d.fab.port (k + 1) p) ∧
      SMap.get 0 e.fab.outCyc (stepDst w % 1024) = k + 1 ∧
      (∀ j < 32, SMap.get 0 e.fab.lines j = if stepDst w % 1024 = 0x080 + j then pat 32 a else SMap.get 0 d.fab.lines j)) ∧
  (∀ (s : State) (l : LeafId) (t : Tile) (k w : Nat) (a : Int), (s.leaf l).StepAt t.val k w → stepOp w = 0x19 →
    (s.leaf l).opndVal ((s.leaf l).tile t.val) k (stepA w) = some a →
    ((s.leaf l).tile (stepDst w / 16 % 256)).chanHeld (stepDst w % 8) < 4 → stepDst w / 16 % 256 ≠ t.val →
    LeafDoes (.stepSend l t .ok) s l fun d e =>
      d.StepMoves e t.val 1 id ∧ e.tile (stepDst w / 16 % 256) =
        { d.tile (stepDst w / 16 % 256) with flight := (d.tile (stepDst w / 16 % 256)).flight ++ [(stepDst w % 8, ⟨k % 4, pat 32 a⟩)] } ∧
      (∀ i, i ≠ t.val → i ≠ stepDst w / 16 % 256 → e.tile i = d.tile i)) ∧
  (∀ (s : State) (l : LeafId) (t : Tile) (k w : Nat) (a : Int), (s.leaf l).StepAt t.val k w → stepOp w = 0x19 →
    (s.leaf l).opndVal ((s.leaf l).tile t.val) k (stepA w) = some a →
    ((s.leaf l).tile t.val).chanHeld (stepDst w % 8) < 4 → stepDst w / 16 % 256 = t.val →
    LeafDoes (.stepSend l t .ok) s l fun d e =>
      d.StepDone e t.val 1 (fun x => { x with flight := x.flight ++ [(stepDst w % 8, ⟨k % 4, pat 32 a⟩)] })) ∧
  (∀ (s : State) (l : LeafId) (t : Tile) (k w v : Nat) (n : Nat) (r : List ChanEnt), (s.leaf l).StepAt t.val k w → stepOp w = 0x1A →
    dropEarlier k (((s.leaf l).tile t.val).chanOf (stepMod w % 8)) = (n, ⟨k % 4, v⟩ :: r) →
    LeafDoes (.stepRecv l t .ok) s l fun d e =>
      d.StepDone e t.val 1 (fun x => { x with chan := (e.tile t.val).chan }.setDst w (sext 32 v)) ∧ (e.tile t.val).chanOf (stepMod w % 8) = r ∧
      (∀ j, j ≠ stepMod w % 8 → (e.tile t.val).chanOf j = (d.tile t.val).chanOf j) ∧
      e.rd TILE_IC_DISCARD t.val = min (d.rd TILE_IC_DISCARD t.val + n) 65535)

/-- Steps that wait or fail, and what runs beside the lists (03_control_cycle.md R98, R109; 05_control_fabric.md R168 to R173, R185, R192 to R207): the start and the abort of
a list, the channels, the cell-table requests, the model watch, the scrubber, the self-test and the host's access to a tile. The definitions behind it follow the model's log entries 15, 51. -/
def Obligations.FabricListsAndServicesTakeEffect : Prop :=
  (∀ (s : State) (l : LeafId) (t : Tile) (chk : StepCheck) (k w op : Nat) (ua ub : Bool) (i : Instr), (s.leaf l).StepAt t.val k w →
    StepRow l t chk w i op ua ub → stepOp w = op →
    ((ua = true ∧ (s.leaf l).opndVal ((s.leaf l).tile t.val) k (stepA w) = none) ∨
      (ub = true ∧ (s.leaf l).opndVal ((s.leaf l).tile t.val) k (stepB w) = none)) →
    LeafDoes i s l fun d e => e = d.setTile t.val { d.tile t.val with spent := (d.tile t.val).spent + 1, spOld := [] }) ∧
  (∀ (s : State) (l : LeafId) (t : Tile) (chk : StepCheck) (w op : Nat) (ua ub : Bool) (i : Instr), StepRow l t chk w i op ua ub →
    (((s.leaf l).tile t.val).run = none ∨ stepOp (SMap.get 0 ((s.leaf l).tile t.val).steps ((s.leaf l).tile t.val).pc) ≠ op) →
    LeafDoes i s l fun d e => e = d) ∧
  (∀ (s : State) (l : LeafId) (t : Tile) (chk : StepCheck) (k w op : Nat) (ua ub : Bool) (i : Instr), (s.leaf l).StepAt t.val k w →
    StepRow l t chk w i op ua ub → stepOp w = op → chk ≠ .ok →
    (ua = true → (s.leaf l).opndVal ((s.leaf l).tile t.val) k (stepA w) ≠ none) →
    (ub = true → (s.leaf l).opndVal ((s.leaf l).tile t.val) k (stepB w) ≠ none) →
    LeafDoes i s l fun d e =>
      Leaf.Keeps (stepKeys t.val ++ tileErrKeys t.val ++ giveUpKeys ++ faultKeys) d e ∧
      (∀ i ≠ t.val, e.tile i = d.tile i) ∧
      e = { d with bank := e.bank, cyc := { d.cyc with tileLate := e.cyc.tileLate }, tiles := e.tiles, fab := e.fab, flt := e.flt,
                   conv := e.conv, hng := e.hng, out := e.out, freeIdx := e.freeIdx } ∧
      k ∈ e.cyc.tileLate ∧ (e.tile t.val).pc = (d.tile t.val).pc + 1 ∧
      (chk = .selfCheck → e.is TILE_STATUS_SELFCHK t.val = true ∧ e.is FAB_STATUS_SELFCHK = true) ∧
      (chk = .uecc → e.is TILE_STATUS_UECC t.val = true ∧ e.is FAB_STATUS_UECC_SEEN = true ∧ e.rd FAB_ECC_TILE = t.val ∧
        e.rd TILE_ECC_UNCORR t.val = min (d.rd TILE_ECC_UNCORR t.val + 1) 65535)) ∧
  (∀ (s : State) (l : LeafId) (t : Tile) (k w : Nat) (a : Int), (s.leaf l).StepAt t.val k w → stepOp w = 0x19 →
    (s.leaf l).opndVal ((s.leaf l).tile t.val) k (stepA w) = some a →
    4 ≤ ((s.leaf l).tile (stepDst w / 16 % 256)).chanHeld (stepDst w % 8) →
    LeafDoes (.stepSend l t .ok) s l fun d e => e = d.setTile t.val { d.tile t.val with spent := (d.tile t.val).spent + 1, spOld := [] }) ∧
  (∀ (s : State) (l : LeafId) (t : Tile) (k w : Nat), (s.leaf l).StepAt t.val k w → stepOp w = 0x1A →
    ((s.leaf l).tile t.val).chanOf (stepMod w % 8) = [] →
    LeafDoes (.stepRecv l t .ok) s l fun d e =>
      Leaf.Keeps [TILE_IC_DISCARD.key t.val] d e ∧
      e = { d with bank := e.bank, tiles := e.tiles } ∧
      (∀ i ≠ t.val, e.tile i = d.tile i) ∧
      (e.tile t.val).pc = (d.tile t.val).pc ∧ (e.tile t.val).spent = (d.tile t.val).spent + 1 ∧
      (e.tile t.val).run = some k ∧ (e.tile t.val).s = (d.tile t.val).s ∧ (e.tile t.val).sp = (d.tile t.val).sp) ∧
  (∀ (s : State) (l : LeafId) (t : Tile) (j : Nat), ((s.leaf l).tile t.val).used = true → ((s.leaf l).tile t.val).run = none →
    (s.leaf l).is FAB_STATUS_RUN = true → (s.leaf l).fab.fdDone = some j → ((s.leaf l).tile t.val).late = false →
    (∀ i, ((s.leaf l).tile t.val).lastDone = some i → i ≤ j) → (s.leaf l).key.runFrom ≤ j + 1 →
    LeafDoes (.tileListStart l t) s l fun d e =>
      e = d.setTile t.val { d.tile t.val with run := some (j + 1), pc := 0, spent := 0, spOld := [] }) ∧
  (∀ (s : State) (l : LeafId) (t : Tile) (i j : Nat), ((s.leaf l).tile t.val).used = true → ((s.leaf l).tile t.val).run = none →
    (s.leaf l).is FAB_STATUS_RUN = true → (s.leaf l).fab.fdDone = some j → ((s.leaf l).tile t.val).late = true →
    ((s.leaf l).tile t.val).lastDone = some i → i ≤ j → (s.leaf l).key.runFrom ≤ i + 1 →
    LeafDoes (.tileListStart l t) s l fun d e =>
      (reached d.fab.delivered (i + 1) = false → e = d.setTile t.val { d.tile t.val with run := some (i + 1), pc := 0, spent := 0, late := false, spOld := [] }) ∧
      (reached d.fab.delivered (i + 1) = true → e.tile t.val = { d.tile t.val with lastDone := some (i + 1) } ∧
        e.rd CYC_OVR_LAST_SKIPS = min (d.rd CYC_OVR_LAST_SKIPS + 1) 255 ∧ Leaf.Keeps [CYC_OVR_LAST_SKIPS.key 0] d e ∧
        (∀ u ≠ t.val, e.tile u = d.tile u) ∧ e = { d with tiles := e.tiles, bank := e.bank })) ∧
  (∀ (s : State) (l : LeafId) (t : Tile) (k : Nat), ((s.leaf l).tile t.val).run = some k → k + 2 ≤ (s.leaf l).tim.cyc →
    LeafDoes (.tileListAbort l t) s l fun d e =>
      e.tile t.val = { d.tile t.val with run := none, lastDone := some k, late := true } ∧ e.rd TILE_STATUS_ABORT t.val = 1 ∧
      e.rd CYC_OVR_LAST_SKIPS = min (d.rd CYC_OVR_LAST_SKIPS + 1) 255 ∧ (∀ u ≠ t.val, e.tile u = d.tile u) ∧
      Leaf.Keeps [TILE_STATUS_ABORT.key t.val, CYC_OVR_LAST_SKIPS.key 0] d e ∧ e = { d with tiles := e.tiles, bank := e.bank }) ∧
  (∀ (s : State) (l : LeafId) (t : Tile) (ch : Fin 8) (p q : List (Nat × ChanEnt)) (v : ChanEnt),
    ((s.leaf l).tile t.val).flight = p ++ (ch.val, v) :: q → (∀ x ∈ p, x.1 ≠ ch.val) →
    LeafDoes (.channelEntryArrival l t ch) s l fun d e =>
      (e.tile t.val).flight = p ++ q ∧ (e.tile t.val).chanOf ch.val = (d.tile t.val).chanOf ch.val ++ [v] ∧
      (∀ j, j ≠ ch.val → (e.tile t.val).chanOf j = (d.tile t.val).chanOf j) ∧
      e = d.setTile t.val { d.tile t.val with flight := p ++ q, chan := (e.tile t.val).chan }) ∧
  (∀ (s : State) (l : LeafId) (a : Arm) (t : Tile) (q : CtReq), (s.leaf l).tiles = [(t.val, (s.leaf l).tile t.val)] →
    ((s.leaf l).tile t.val).reqs = [q] → q.ofArm a.val = true → q.cycle ≤ (s.leaf l).pubCycle → q.store = false →
    LeafDoes (.cellTableRequestService l a) s l fun d e =>
      (e.tile t.val).reqs = [] ∧ SMap.get 0 (e.tile t.val).mb q.arg = (if d.slotMapped q.slot then d.ctWord q.slot q.word else 0) ∧
      e = { d with tiles := e.tiles }) ∧
  (∀ (s : State) (l : LeafId) (a : Arm) (t : Tile) (q : CtReq), (s.leaf l).tiles = [(t.val, (s.leaf l).tile t.val)] →
    ((s.leaf l).tile t.val).reqs = [q] → q.ofArm a.val = true → q.cycle ≤ (s.leaf l).pubCycle → q.store = true →
    LeafDoes (.cellTableRequestService l a) s l fun d e =>
      (e.tile t.val).reqs = [] ∧
      (d.slotMapped q.slot = true → q.slot ∉ d.cyc.hostCt →
        e.rd CT_C_EST q.slot = q.arg / 65536 % 65536 ∧ e.rd CT_LEARN_N q.slot = q.arg % 65536) ∧
      ((d.slotMapped q.slot = false ∨ q.slot ∈ d.cyc.hostCt) → e = { d with tiles := e.tiles }) ∧
      Leaf.Keeps [CT_C_EST.key q.slot, CT_LEARN_N.key q.slot] d e ∧ e = { d with tiles := e.tiles, bank := e.bank, cyc := e.cyc }) ∧
  (∀ (s : State) (l : LeafId) (u : Fin 12), (s.leaf l).rd FAB_MWu_CTL_ALARM_P u.val ≤ ((s.leaf l).mwOf u.val).aRun →
    ((s.leaf l).mwOf u.val).alarmed = false →
    LeafDoes (.modelWatchAlarm l u) s l fun d e =>
      e.rd FAB_MWu_CTL_ALARMED u.val = 1 ∧ (e.mwOf u.val) = { d.mwOf u.val with alarmed := true } ∧ (d.setMw u.val (e.mwOf u.val)).fab = e.fab ∧
      d.Raised e 0x0409 .alarm u.val 0 0 ∧ Leaf.Keeps (FAB_MWu_CTL_ALARMED.key u.val :: faultKeys) d e ∧
      e = { d with bank := e.bank, fab := e.fab, flt := e.flt, out := e.out }) ∧
  (∀ (s : State) (l : LeafId) (u : Fin 12), (s.leaf l).rd FAB_MWu_CTL_TRIP_P u.val ≤ ((s.leaf l).mwOf u.val).tRun →
    ((s.leaf l).mwOf u.val).tripped = false →
    LeafDoes (.modelWatchTrip l u) s l fun d e =>
      e.rd FAB_MWu_CTL_TRIPPED u.val = 1 ∧ (e.mwOf u.val) = { d.mwOf u.val with tripped := true } ∧ (d.setMw u.val (e.mwOf u.val)).fab = e.fab ∧
      d.Raised e 0x040A .trip u.val 0 0 ∧ Leaf.Keeps (FAB_MWu_CTL_TRIPPED.key u.val :: faultKeys) d e ∧
      e = { d with bank := e.bank, fab := e.fab, flt := e.flt, conv := e.conv, out := e.out }) ∧
  (∀ (s : State) (l : LeafId) (t : Tile) (m : FabMem) (a : Nat) (r : EccResult), ((s.leaf l).tile t.val).used = true → a < fabMemWords m →
    LeafDoes (.scrub l t m a r) s l fun d e =>
      Leaf.Keeps (TILE_ECC_CORR.key t.val :: FAB_SCRUB_CORR.key 0 :: FAB_SCRUB_PASSES.key 0 :: tileErrKeys t.val ++ giveUpKeys ++ faultKeys) d e
        ∧
      e = { d with bank := e.bank, fab := { d.fab with scrubbed := e.fab.scrubbed }, flt := e.flt, conv := e.conv, hng := e.hng, out := e.out }
        ∧
      (r = .clean → e.rd TILE_ECC_CORR t.val = d.rd TILE_ECC_CORR t.val ∧ e.rd TILE_ECC_UNCORR t.val = d.rd TILE_ECC_UNCORR t.val ∧ e.flt = d.flt) ∧
      (r = .corrected → e.rd TILE_ECC_CORR t.val = min (d.rd TILE_ECC_CORR t.val + 1) 65535 ∧
        e.rd FAB_SCRUB_CORR = min (d.rd FAB_SCRUB_CORR + 1) 65535 ∧ e.flt = d.flt) ∧
      (r = .uncorrectable → e.is TILE_STATUS_UECC t.val = true ∧ e.is FAB_STATUS_UECC_SEEN = true ∧ e.rd FAB_ECC_TILE = t.val ∧
        e.rd FAB_ECC_MEM = fabMemCode m) ∧
      e.tiles = d.tiles ∧ (e.fab.scrubbed = [] ∨ SMap.get 0 e.fab.scrubbed (scrubKey t.val m a) = 1)) ∧
  (∀ (s : State) (l : LeafId) (t : Nat), (s.leaf l).is FAB_CFG_STEST_EN = true → (s.leaf l).spareFrom ((s.leaf l).rd FAB_STEST_TILE) = some t →
    LeafDoes (.tileSelfTest l true) s l fun d e =>
      Leaf.Keeps (FAB_STEST_RUNS.key 0 :: FAB_STEST_TILE.key 0 :: (List.range 256).map TILE_STATUS_STEST.key) d e ∧
      e.rd FAB_STEST_RUNS = (d.rd FAB_STEST_RUNS + 1) % 65536 ∧ e.is TILE_STATUS_FAILED t = d.is TILE_STATUS_FAILED t ∧ e.flt = d.flt ∧
      e = { d with bank := e.bank }) ∧
  (∀ (s : State) (l : LeafId) (t : Nat), (s.leaf l).is FAB_CFG_STEST_EN = true → (s.leaf l).spareFrom ((s.leaf l).rd FAB_STEST_TILE) = some t →
    (s.leaf l).is TILE_STATUS_FAILED t = false →
    LeafDoes (.tileSelfTest l false) s l fun d e =>
      Leaf.Keeps (FAB_STEST_RUNS.key 0 :: FAB_STEST_TILE.key 0 :: FAB_STEST_FAILED.key 0 :: TILE_STATUS_FAILED.key t :: faultKeys ++ (List.range
        256).map TILE_STATUS_STEST.key) d e ∧
      e.rd FAB_STEST_RUNS = (d.rd FAB_STEST_RUNS + 1) % 65536 ∧ e.is TILE_STATUS_FAILED t = true ∧
      e.rd FAB_STEST_FAILED = min (d.rd FAB_STEST_FAILED + 1) 255 ∧ d.Raised e 0x0408 .alarm t 0 0 ∧
      e = { d with bank := e.bank, flt := e.flt, out := e.out }) ∧
  (∀ (s : State) (l : LeafId) (t : Tile),
    LeafDoes (.tileSpDataAccess l t none) s l fun d e =>
      e = { d with rdata := SMap.get 0 (d.tile t.val).sp (d.rd TILE_SP_ADDR_ADDR t.val) }) ∧
  (∀ (s : State) (l : LeafId) (t : Tile) (v : Word), (s.leaf l).writable = true →
    LeafDoes (.tileSpDataAccess l t (some v)) s l fun d e =>
      (d.moving = false → SMap.get 0 (e.tile t.val).sp (d.rd TILE_SP_ADDR_ADDR t.val) = v.toNat ∧
        e = d.setTile t.val { d.tile t.val with sp := (e.tile t.val).sp }) ∧
      (d.moving = true → e.rd FAB_STATUS_HOST_WR_REFUSED = 1 ∧ Leaf.Keeps [FAB_STATUS_HOST_WR_REFUSED.key 0] d e ∧ e = { d with bank := e.bank })) ∧
  (∀ (s : State) (l : LeafId) (t : Tile) (n : Fin 64) (v : Word), (s.leaf l).writable = true →
    LeafDoes (.tileSnWrite l t n v) s l fun d e =>
      (d.moving = false → (e.tile t.val).reg n.val = sext 32 v.toNat ∧ e = d.setTile t.val { d.tile t.val with s := (e.tile t.val).s }) ∧
      (d.moving = true → e.rd FAB_STATUS_HOST_WR_REFUSED = 1 ∧ Leaf.Keeps [FAB_STATUS_HOST_WR_REFUSED.key 0] d e ∧ e = { d with bank := e.bank }))

/-- The kernel operations and the core-local registers (18_cores_and_scheduler.md R555, R556, R559, R563 to R567, Tables 18.2, 18.6, 18.7): the threads after
each operation, before the decision that follows it; an operation its thread does not allow sets OP_ERR; a pair held in reset writes nothing. The definitions behind it follow the model's log entry 74. -/
def Obligations.CoreCommandsTakeEffect : Prop :=
  (∀ (s : State) (l : LeafId) (p : Fin 4) (v : Word) (t : Nat), (s.leaf l).pairRuns p.val = true → t = bits v.toNat 23 16 →
    LeafDoes (.coreOpReady l p v) s l fun d e =>
      Leaf.Keeps schKeys d e ∧
      e = { d with bank := e.bank, sch := e.sch, out := e.out } ∧
      ((d.thr t).st = .blocked → e = ((((d.setThr t { d.thr t with st := .ready, pair := 0 }).setList (d.thr t).prio
        (d.readyList (d.thr t).prio ++ [t])).traceRec 5 p p t 255 0 (opWord 1 v)).schDecide)) ∧
      ((d.thr t).st = .ready ∨ (d.thr t).st = .running →
        e = ((d.setThr t { d.thr t with pend := true }).traceRec 5 p p t 255 0 (opWord 1 v)).schDecide) ∧
      ((d.thr t).st = .dormant → e.rd SCH_STATUS_OP_ERR = 1 ∧ e = (d.wr SCH_STATUS_OP_ERR 1).traceRec 6 p p t 255 0 (opWord 1 v))) ∧
  (∀ (s : State) (l : LeafId) (p : Fin 4) (v : Word) (t : Nat), (s.leaf l).pairRuns p.val = true → t = bits v.toNat 23 16 →
    LeafDoes (.coreOpBlock l p v) s l fun d e =>
      Leaf.Keeps schKeys d e ∧
      e = { d with bank := e.bank, sch := e.sch, out := e.out } ∧
      (((d.thr t).st = .ready ∨ (d.thr t).st = .running) → (d.thr t).pend = true →
        e = ((d.setThr t { d.thr t with pend := false }).traceRec 5 p p t 255 0 (opWord 2 v)).schDecide) ∧
      ((d.thr t).st = .ready → (d.thr t).pend = false →
        e = (((d.setList (d.thr t).prio ((d.readyList (d.thr t).prio).filter (· ≠ t))).setThr t { d.thr t with st := .blocked, pair := 0 }).traceRec
          5 p p t 255 0 (opWord 2 v)).schDecide) ∧
      ((d.thr t).st = .running → (d.thr t).pend = false →
        e = ((({ d with sch := { d.sch with run := SMap.put none d.sch.run (d.thr t).pair none } }).setThr t
          { d.thr t with st := .blocked, pair := 0 }).traceRec 5 p p t 255 0 (opWord 2 v)).schDecide) ∧
      ((d.thr t).st = .dormant ∨ (d.thr t).st = .blocked → e.rd SCH_STATUS_OP_ERR = 1 ∧ e = (d.wr SCH_STATUS_OP_ERR 1).traceRec 6 p p t 255 0 (opWord 2 v))) ∧
  (∀ (s : State) (l : LeafId) (p : Fin 4) (v : Word) (t : Nat), (s.leaf l).pairRuns p.val = true → t = bits v.toNat 23 16 →
    LeafDoes (.coreOpYield l p v) s l fun d e =>
      Leaf.Keeps schKeys d e ∧
      e = { d with bank := e.bank, sch := e.sch, out := e.out } ∧
      (d.onPair p.val = some t → (d.thr t).st = .running →
        e = (((({ d with sch := { d.sch with run := SMap.put none d.sch.run (d.thr t).pair none } }).setThr t
          { d.thr t with st := .ready, pair := 0 }).setList (d.thr t).prio (d.readyList (d.thr t).prio ++ [t])).traceRec 5 p p t 255 0
            (opWord 3 v)).schDecide) ∧
      (d.onPair p.val ≠ some t → e.rd SCH_STATUS_OP_ERR = 1 ∧ e = (d.wr SCH_STATUS_OP_ERR 1).traceRec 6 p p t 255 0 (opWord 3 v))) ∧
  (∀ (s : State) (l : LeafId) (p : Fin 4) (v : Word) (t : Nat), (s.leaf l).pairRuns p.val = true → t = bits v.toNat 23 16 →
    LeafDoes (.coreOpSetPrio l p v) s l fun d e =>
      Leaf.Keeps schKeys d e ∧
      e = { d with bank := e.bank, sch := e.sch, out := e.out } ∧
      ((d.thr t).st = .running ∨ (d.thr t).st = .blocked →
        e = ((d.setThr t { d.thr t with prio := v.toNat % 32 }).traceRec 5 p p t 255 0 (opWord 4 v)).schDecide) ∧
      ((d.thr t).st = .ready →
        let x := d.setList (d.thr t).prio ((d.readyList (d.thr t).prio).filter (· ≠ t));
        e = (((x.setThr t { d.thr t with prio := v.toNat % 32 }).enqueue t).traceRec 5 p p t 255 0 (opWord 4 v)).schDecide) ∧
      ((d.thr t).st = .dormant → e.rd SCH_STATUS_OP_ERR = 1 ∧ e = (d.wr SCH_STATUS_OP_ERR 1).traceRec 6 p p t 255 0 (opWord 4 v))) ∧
  (∀ (s : State) (l : LeafId) (p : Fin 4) (v : Word) (t : Nat), (s.leaf l).pairRuns p.val = true → t = bits v.toNat 23 16 →
    LeafDoes (.coreOpSetAff l p v) s l fun d e =>
      Leaf.Keeps schKeys d e ∧
      e = { d with bank := e.bank, sch := e.sch, out := e.out } ∧
      ((d.thr t).st ≠ .dormant → v.toNat % 16 ≠ 0 → ¬((d.thr t).st = .running ∧ bitOf (v.toNat % 16) (d.thr t).pair = false) →
        e = ((d.setThr t { d.thr t with aff := v.toNat % 16 }).traceRec 5 p p t 255 0 (opWord 5 v)).schDecide) ∧
      ((d.thr t).st = .running → v.toNat % 16 ≠ 0 → bitOf (v.toNat % 16) (d.thr t).pair = false →
        e = (((d.setThr t { d.thr t with aff := v.toNat % 16 }).preempt (d.thr t).pair).traceRec 5 p p t 255 0 (opWord 5 v)).schDecide) ∧
      ((d.thr t).st = .dormant ∨ v.toNat % 16 = 0 → e.rd SCH_STATUS_OP_ERR = 1 ∧ e = (d.wr SCH_STATUS_OP_ERR 1).traceRec 6 p p t 255 0 (opWord 5 v))) ∧
  (∀ (s : State) (l : LeafId) (p : Fin 4) (v : Word) (t : Nat), (s.leaf l).pairRuns p.val = true → t = bits v.toNat 23 16 →
    LeafDoes (.coreOpStart l p v) s l fun d e =>
      Leaf.Keeps schKeys d e ∧
      e = { d with bank := e.bank, sch := e.sch, out := e.out } ∧
      ((d.thr t).st = .dormant → v.toNat / 256 % 16 ≠ 0 →
        e = (((d.setThr t ⟨.ready, false, 0, v.toNat % 32, v.toNat / 256 % 16⟩).setList (v.toNat % 32) (d.readyList (v.toNat % 32) ++ [t])).traceRec
          5 p p t 255 0 (opWord 6 v)).schDecide) ∧
      ((d.thr t).st ≠ .dormant ∨ v.toNat / 256 % 16 = 0 → e.rd SCH_STATUS_OP_ERR = 1 ∧ e = (d.wr SCH_STATUS_OP_ERR 1).traceRec 6 p p t 255 0 (opWord 6 v))) ∧
  (∀ (s : State) (l : LeafId) (p : Fin 4) (v : Word) (t : Nat), (s.leaf l).pairRuns p.val = true → t = bits v.toNat 23 16 →
    LeafDoes (.coreOpStop l p v) s l fun d e =>
      Leaf.Keeps schKeys d e ∧
      e = { d with bank := e.bank, sch := e.sch, out := e.out } ∧
      e = (((d.unlink t).setThr t { d.thr t with st := .dormant, pair := 0 }).traceRec 5 p p t 255 0 (opWord 7 v)).schDecide) ∧
  (∀ (s : State) (l : LeafId) (p : Fin 4) (v : Word) (t : Nat), (s.leaf l).pairRuns p.val = true → t = bits v.toNat 23 16 →
    LeafDoes (.coreOpSwitched l p v) s l fun d e =>
      Leaf.Keeps (SCH_CNT_STALE.key 0 :: schKeys) d e ∧
      e = { d with bank := e.bank, sch := e.sch, out := e.out } ∧
      ((s.leaf l).onPair p.val = some t → e = (d.traceRec 4 p p t 255 0 0).schDecide) ∧
      ((s.leaf l).onPair p.val ≠ some t → e.rd SCH_CNT_STALE = min (d.rd SCH_CNT_STALE + 1) 65535 ∧ Leaf.Keeps [SCH_CNT_STALE.key 0] d e ∧
        e = { d with bank := e.bank })) ∧
  (∀ (s : State) (l : LeafId) (p : Fin 4) (v : Word) (i : Instr), (s.leaf l).pairRuns p.val = false →
    i ∈ [.coreOpReady l p v, .coreOpBlock l p v, .coreOpYield l p v, .coreOpSetPrio l p v, .coreOpSetAff l p v, .coreOpStart l p v,
      .coreOpStop l p v, .coreOpSwitched l p v, .coreMsix l p v, .coreRelease l p v] →
    LeafDoes i s l fun d e => e = d) ∧
  (∀ (s : State) (l : LeafId) (p : Fin 4),
    LeafDoes (.coreNextRead l p) s l fun d e =>
      e.rdata = (match d.onPair p.val with | some t => 2 ^ 31 + t | none => 0) ∧ bitOf (e.rd SCH_PAIRS_PENDING) p.val = false ∧
      (∀ q < 4, q ≠ p.val → bitOf (e.rd SCH_PAIRS_PENDING) q = bitOf (d.rd SCH_PAIRS_PENDING) q) ∧
      Leaf.Keeps [SCH_PAIRS_PENDING.key 0] d e ∧ e = { d with bank := e.bank, rdata := e.rdata }) ∧
  (∀ (s : State) (l : LeafId) (p : Fin 4),
    LeafDoes (.machineTimer l p) s l fun d e =>
      bitOf e.sch.mtip p.val = decide (d.mtimecmp p.val ≤ d.tim.c) ∧ (∀ q < 4, q ≠ p.val → bitOf e.sch.mtip q = bitOf d.sch.mtip q) ∧
      (d.mtimecmp p.val ≤ d.tim.c → bitOf d.sch.mtip p.val = false → e.out = d.out ++ [.coreIrq p.val 7]) ∧
      e = { d with sch := { d.sch with mtip := e.sch.mtip }, out := e.out }) ∧
  (∀ (s : State) (l : LeafId) (v : Word), (s.leaf l).pairRuns 0 = true →
    LeafDoes (.coreRelease l 0 v) s l fun d e =>
      (∀ q < 4, bitOf e.sch.released q = (bitOf d.sch.released q || (decide (q ≠ 0) && bitOf v.toNat q))) ∧
      e = { d with sch := { d.sch with released := e.sch.released } }) ∧
  (∀ (s : State) (l : LeafId) (p : Fin 4) (v : Word), p.val ≠ 0 → LeafDoes (.coreRelease l p v) s l fun d e => e = d) ∧
  (∀ (s : State) (l : LeafId),
    LeafDoes (.schTraceDataRead l) s l fun d e =>
      e.rdata = SMap.get 0 d.sch.trace (d.rd SCH_TRACE_ADDR_ADDR) ∧ e.rd SCH_TRACE_ADDR_ADDR = (d.rd SCH_TRACE_ADDR_ADDR + 1) % 16384 ∧
      Leaf.Keeps [SCH_TRACE_ADDR_ADDR.key 0] d e ∧ e = { d with bank := e.bank, rdata := e.rdata }) ∧
  (∀ (s : State) (l : LeafId) (p : Fin 4), (s.leaf l).alive p.val = true →
    LeafDoes (.lockstepMismatch l p) s l fun d e =>
      Leaf.Keeps (SCH_STATUS_PAIR_LOST.key 0 :: SCH_PAIRS_ALIVE.key 0 :: schKeys ++ giveUpKeys ++ faultKeys) d e ∧
      e = { d with bank := e.bank, sch := e.sch, flt := e.flt, conv := e.conv, hng := e.hng, out := e.out } ∧
      e.alive p.val = false ∧ e.rd SCH_STATUS_PAIR_LOST = 1 ∧ e.hng.lockstepOk = false ∧
      (∀ q < 4, q ≠ p.val → e.alive q = d.alive q)) ∧
  (∀ (s : State) (l : LeafId) (p : Fin 4), (s.leaf l).alive p.val = false → LeafDoes (.lockstepMismatch l p) s l fun d e => e = d) ∧
  (∀ (s : State) (l : LeafId) (p : Fin 4) (a : Nat), ((s.leaf l).active && (s.leaf l).is HNG_STATUS_PARTNER_STANDING && !(s.leaf l).is FLT_STATUS_DEADBOLT) = false →
    LeafDoes (.coreSramUecc l p a) s l fun d e =>
      Out.coreIrq p.val 5 ∈ e.out ∧ d.Raised e 0x2B02 .trip 0 0 0 ∧ Leaf.Keeps faultKeys d e ∧
      e = { d with bank := e.bank, flt := e.flt, conv := e.conv, out := e.out }) ∧
  (∀ (s : State) (l : LeafId) (p : Fin 4) (a : Nat), (s.leaf l).active = true → (s.leaf l).is HNG_STATUS_PARTNER_STANDING = true →
    (s.leaf l).is FLT_STATUS_DEADBOLT = false →
    LeafDoes (.coreSramUecc l p a) s l fun d e =>
      Leaf.Keeps (giveUpKeys ++ faultKeys) d e ∧
      e = { d with bank := e.bank, flt := e.flt, hng := e.hng, out := e.out } ∧
      Out.coreIrq p.val 5 ∈ e.out ∧ e.hng.role = .released ∧ e.hng.cause = 3 ∧ e.conv = d.conv)

/-- A write of CORE_MSIX (18_cores_and_scheduler.md R567): a value from 16 to 63 fires that vector of the leaf, any other one sets OP_ERR alone. -/
def Obligations.CoreMsixFiresItsVector : Prop :=
  ∀ (s : State) (l : LeafId) (p : Fin 4) (v : Word), (s.leaf l).pairRuns p.val = true →
    LeafDoes (.coreMsix l p v) s l fun d e =>
      (16 ≤ v.toNat ∧ v.toNat ≤ 63 → e = { d with out := d.out ++ [.msix v.toNat] }) ∧
      (¬(16 ≤ v.toNat ∧ v.toNat ≤ 63) → e.rd SCH_STATUS_OP_ERR = 1 ∧ Leaf.Keeps [SCH_STATUS_OP_ERR.key 0] d e ∧ e = { d with bank := e.bank })

/-- What one decision of the scheduler does (18_cores_and_scheduler.md R561, R563): the candidate of a pair is a READY thread of its affinity with the
highest priority, the first of its list; the pair that dispatches is one in service that its candidate beats, and of these the one that runs the
lowest priority, the lowest number first; with none left the decision ends. -/
def Obligations.SchedulerDecisionPicksThePair : Prop :=
  (∀ (d : Leaf) (p t : Nat), d.cand p = some t →
    (∃ n < 32, ∃ a b, d.readyList n = a ++ t :: b ∧ bitOf (d.thr t).aff p = true ∧ (∀ u ∈ a, bitOf (d.thr u).aff p = false) ∧
      ∀ m < 32, n < m → ∀ u ∈ d.readyList m, bitOf (d.thr u).aff p = false)) ∧
  (∀ (d : Leaf) (p : Nat), d.cand p = none → (∀ n < 32, ∀ u ∈ d.readyList n, bitOf (d.thr u).aff p = false)) ∧
  (∀ (d : Leaf) (p t : Nat), d.nextPair = some (p, t) →
    p < 4 ∧ d.alive p = true ∧ d.cand p = some t ∧ d.runLevel p ≤ (d.thr t).prio ∧
      (∀ q < 4, ∀ u, d.alive q = true → d.cand q = some u → d.runLevel q ≤ (d.thr u).prio →
        d.runLevel p < d.runLevel q ∨ (d.runLevel p = d.runLevel q ∧ p ≤ q))) ∧
  (∀ (d : Leaf), d.nextPair = none →
    (∀ q < 4, ∀ u, d.alive q = true → d.cand q = some u → (d.thr u).prio < d.runLevel q)) ∧
  (∀ (d : Leaf) (p t : Nat), p < 4 → d.onPair p ≠ some t →
    (d.dispatch p t).onPair p = some t ∧ ((d.dispatch p t).thr t).st = .running ∧ ((d.dispatch p t).thr t).pair = p ∧
      bitOf ((d.dispatch p t).rd SCH_PAIRS_PENDING) p = true ∧ Out.coreIrq p 16 ∈ (d.dispatch p t).out ∧
      (d.dispatch p t).rd SCH_CNT_DECISIONS = (d.rd SCH_CNT_DECISIONS + 1) % 65536 ∧
      (∀ u, d.onPair p = some u → ((d.dispatch p t).thr u).st = .ready ∧ ∃ r, (d.dispatch p t).readyList (d.thr u).prio = u :: r))

/-- The command at the front of the queue runs on the state with the queue's rest: a step is that command's effect. The definitions behind it follow the model's log entry 1. -/
def Obligations.StepRunsTheFrontCommand : Prop :=
  ∀ (s : State) (c : Instr) (r : List Instr), s.pending = c :: r → step s = exec c { s with pending := r }

/-- On an empty queue one cycle of FCLK passes (the model's choice, log entry 1, DESIGN CHOICE): the 64-bit counter of a leaf that is not held in reset counts, and
nothing else changes. The definitions behind it follow the model's log entry 1. -/
def Obligations.IdleStepCountsTheClock : Prop :=
  ∀ (s : State), s.pending = [] →
    ∃ t, step s = .next t ∧ (∀ l, (s.leaf l).pwr.held = false → (t.leaf l).tim.c = ((s.leaf l).tim.c + 1) % 2 ^ 64) ∧
      (∀ l, (s.leaf l).pwr.held = true → t.leaf l = s.leaf l) ∧
      (∀ l, t.leaf l = { s.leaf l with tim := { (s.leaf l).tim with c := (t.leaf l).tim.c } }) ∧ t.concs = s.concs ∧ t.cells = s.cells ∧ t.pending = []

/-- No command is refused and none ends in a fault: in every state each one answers a next state, which differs from the state before in the one part
that the command acts on and nowhere else (00_scope.md: the parts act on each other through frames, lines and pins alone). -/
def Obligations.EveryCommandActsOnItsPartAlone : Prop := ∀ (i : Instr) (s : State), ∃ t, exec i s = .next t ∧ sameBut i.part s t

/-- The maps of concentrators and of cells keep their canonical form: keys rising and inside the chip set's limits, no entry equal to an absent one
(00_scope.md: at most 48 concentrators and 12,288 cells). The definitions behind it follow the model's log entry 1. -/
def Obligations.EveryStepKeepsTheParts : Prop := ∀ (s t : State), s.partsOk = true → step s = .next t → t.partsOk = true

/-- The machine after reset: no command waits, both leaves start, the converter is UNKEYED, every register field of every part holds the reset value of
its table, and the maps of parts have their canonical form. -/
def Obligations.ResetLeavesTheTablesValues : Prop :=
  State.reset.partsOk = true ∧ State.reset.pending = [] ∧
  (∀ (l : LeafId) (f : Fld) (i : Nat), (State.reset.leaf l).rd f i = f.rst) ∧
  (∀ (n : Conc) (f : Fld) (i : Nat), (State.reset.conc n).rd f i = f.rst) ∧
  (∀ (c : CellId) (f : Fld) (i : Nat), (State.reset.cell c).rd f i = f.rst) ∧
  (∀ (l : LeafId), (State.reset.leaf l).hng.role = .starting ∧ (State.reset.leaf l).conv.st = .unkeyed ∧ (State.reset.leaf l).tim.c = 0 ∧
    (State.reset.leaf l).tim.ofs = 0 ∧ (State.reset.leaf l).out = [])
end

