-- ==== Sys2Proof/Laws/Maps.lean ====
section
/-! SUPPORT. The laws of sparse maps and register banks: a read after a write to the same key gives the value written, a write leaves every
other key alone, and every operation keeps the canonical form. -/

namespace Sys2Proof.Machine

variable {α : Type}

@[simp] theorem SMap.get_nil (d : α) (k : Nat) : SMap.get d ([] : SMap α) k = d := rfl

theorem SMap.get_cons (d : α) (a : Nat) (v : α) (r : SMap α) (k : Nat) :
    SMap.get d ((a, v) :: r) k = if a = k then v else SMap.get d r k := rfl

theorem SMap.get_erase (d : α) (m : SMap α) (k j : Nat) : SMap.get d (SMap.erase m k) j = if j = k then d else SMap.get d m j := by
  induction m with
  | nil => simp [SMap.erase]
  | cons p r ih =>
    obtain ⟨a, v⟩ := p
    by_cases h : a = k
    · simp only [SMap.erase, h, if_true, ih, SMap.get_cons]
      by_cases hj : j = k
      · simp [hj]
      · simp [hj, Ne.symm hj]
    · simp only [SMap.erase, h, if_false, SMap.get_cons, ih]
      by_cases hj : j = k
      · subst hj; simp [h]
      · simp [hj]

theorem SMap.get_ins (d : α) (m : SMap α) (k j : Nat) (v : α) : SMap.get d (SMap.ins m k v) j = if j = k then v else SMap.get d m j := by
  induction m with
  | nil =>
    by_cases hj : j = k
    · simp [SMap.ins, SMap.get_cons, hj]
    · simp [SMap.ins, SMap.get_cons, hj, Ne.symm hj]
  | cons p r ih =>
    obtain ⟨a, w⟩ := p
    by_cases h : k < a
    · simp only [SMap.ins, h, if_true, SMap.get_cons]
      by_cases hj : j = k
      · simp [hj]
      · simp [hj, Ne.symm hj]
    · by_cases e : k = a
      · subst e
        simp only [SMap.ins, Nat.lt_irrefl, if_true, if_false]
        by_cases hj : j = k
        · simp [SMap.get_cons, hj]
        · simp [SMap.get_cons, hj, Ne.symm hj]
      · simp only [SMap.ins, h, e, if_false, SMap.get_cons, ih]
        by_cases hj : j = k
        · subst hj; simp [Ne.symm e]
        · simp [hj]

/-! ## The canonical form -/

/-- A bound that the keys of a map stay above. -/
def above (lo : Option Nat) (k : Nat) : Prop := ∀ b, lo = some b → b < k

theorem SMap.sorted_cons (lo : Option Nat) (a : Nat) (v : α) (r : SMap α) :
    SMap.sorted lo ((a, v) :: r) = true ↔ above lo a ∧ SMap.sorted (some a) r = true := by
  cases lo <;> simp [SMap.sorted, above]

theorem SMap.sorted_weaken {lo lo' : Option Nat} {m : SMap α} (h : SMap.sorted lo m = true) (hl : ∀ k, above lo k → above lo' k) :
    SMap.sorted lo' m = true := by
  cases m with
  | nil => rfl
  | cons p r =>
    obtain ⟨a, v⟩ := p
    rw [SMap.sorted_cons] at h ⊢
    exact ⟨hl a h.1, h.2⟩

theorem SMap.sorted_erase {lo : Option Nat} {m : SMap α} (k : Nat) (h : SMap.sorted lo m = true) :
    SMap.sorted lo (SMap.erase m k) = true := by
  induction m generalizing lo with
  | nil => rfl
  | cons p r ih =>
    obtain ⟨a, v⟩ := p
    rw [SMap.sorted_cons] at h
    unfold SMap.erase
    by_cases e : a = k
    · rw [if_pos e]
      refine SMap.sorted_weaken (ih h.2) fun j hj b hb => ?_
      exact Nat.lt_trans (h.1 b hb) (hj a rfl)
    · rw [if_neg e, SMap.sorted_cons]
      exact ⟨h.1, ih h.2⟩

theorem SMap.sorted_ins {lo : Option Nat} {m : SMap α} (k : Nat) (v : α) (h : SMap.sorted lo m = true) (hk : above lo k) :
    SMap.sorted lo (SMap.ins m k v) = true := by
  induction m generalizing lo with
  | nil => simp only [SMap.ins]; rw [SMap.sorted_cons]; exact ⟨hk, rfl⟩
  | cons p r ih =>
    obtain ⟨a, w⟩ := p
    rw [SMap.sorted_cons] at h
    unfold SMap.ins
    by_cases e : k < a
    · rw [if_pos e, SMap.sorted_cons, SMap.sorted_cons]
      refine ⟨hk, fun b hb => ?_, h.2⟩
      cases hb; exact e
    · rw [if_neg e]
      by_cases e' : k = a
      · subst e'; rw [if_pos rfl, SMap.sorted_cons]; exact ⟨hk, h.2⟩
      · rw [if_neg e', SMap.sorted_cons]
        refine ⟨h.1, ih h.2 fun b hb => ?_⟩
        cases hb; omega

theorem SMap.mem_erase {m : SMap α} {k : Nat} {p : Nat × α} (h : p ∈ SMap.erase m k) : p ∈ m := by
  induction m with
  | nil => exact h
  | cons q r ih =>
    obtain ⟨a, v⟩ := q
    unfold SMap.erase at h
    by_cases e : a = k
    · rw [if_pos e] at h; exact List.mem_cons_of_mem _ (ih h)
    · rw [if_neg e] at h
      rcases List.mem_cons.mp h with rfl | h
      · exact List.mem_cons_self
      · exact List.mem_cons_of_mem _ (ih h)

theorem SMap.mem_ins {m : SMap α} {k : Nat} {v : α} {p : Nat × α} (h : p ∈ SMap.ins m k v) : p = (k, v) ∨ p ∈ m := by
  induction m with
  | nil => simpa [SMap.ins] using h
  | cons q r ih =>
    obtain ⟨a, w⟩ := q
    unfold SMap.ins at h
    by_cases e : k < a
    · rw [if_pos e] at h; simpa using h
    · rw [if_neg e] at h
      by_cases e' : k = a
      · rw [if_pos e'] at h
        rcases List.mem_cons.mp h with rfl | h
        · exact .inl rfl
        · exact .inr (List.mem_cons_of_mem _ h)
      · rw [if_neg e'] at h
        rcases List.mem_cons.mp h with rfl | h
        · exact .inr List.mem_cons_self
        · rcases ih h with h | h
          · exact .inl h
          · exact .inr (List.mem_cons_of_mem _ h)

variable [DecidableEq α]

theorem SMap.get_put (d : α) (m : SMap α) (k j : Nat) (v : α) : SMap.get d (SMap.put d m k v) j = if j = k then v else SMap.get d m j := by
  unfold SMap.put
  by_cases h : v = d
  · rw [if_pos h, SMap.get_erase, h]
  · rw [if_neg h, SMap.get_ins]

@[simp] theorem SMap.get_put_same (d : α) (m : SMap α) (k : Nat) (v : α) : SMap.get d (SMap.put d m k v) k = v := by
  simp [SMap.get_put]

theorem SMap.get_put_ne (d : α) (m : SMap α) (k j : Nat) (v : α) (h : j ≠ k) :
    SMap.get d (SMap.put d m k v) j = SMap.get d m j := by simp [SMap.get_put, h]

theorem SMap.mem_put {d : α} {m : SMap α} {k : Nat} {v : α} {p : Nat × α} (h : p ∈ SMap.put d m k v) : p = (k, v) ∨ p ∈ m := by
  unfold SMap.put at h
  by_cases e : v = d
  · rw [if_pos e] at h; exact .inr (SMap.mem_erase h)
  · rw [if_neg e] at h; exact SMap.mem_ins h

theorem SMap.wf_iff (d : α) (m : SMap α) : SMap.wf d m = true ↔ SMap.sorted none m = true ∧ ∀ p ∈ m, p.2 ≠ d := by
  simp [SMap.wf]

@[simp] theorem SMap.wf_nil (d : α) : SMap.wf d ([] : SMap α) = true := rfl

theorem SMap.wf_put {d : α} {m : SMap α} (k : Nat) (v : α) (h : SMap.wf d m = true) : SMap.wf d (SMap.put d m k v) = true := by
  rw [SMap.wf_iff] at h ⊢
  unfold SMap.put
  by_cases e : v = d
  · rw [if_pos e]; exact ⟨SMap.sorted_erase k h.1, fun p hp => h.2 p (SMap.mem_erase hp)⟩
  · rw [if_neg e]
    refine ⟨SMap.sorted_ins k v h.1 (fun b hb => by cases hb), fun p hp => ?_⟩
    rcases SMap.mem_ins hp with rfl | hp
    · exact e
    · exact h.2 p hp

/-! ## Register banks -/

@[simp] theorem bankRd_wr_same (b : SMap Nat) (f : Fld) (v i : Nat) : bankRd (bankWr b f v i) f i = v % 2 ^ f.w := by
  simp [bankRd, bankWr]

theorem bankRd_wr_ne (b : SMap Nat) (f g : Fld) (v i j : Nat) (h : g.key j ≠ f.key i) : bankRd (bankWr b f v i) g j = bankRd b g j := by
  unfold bankRd bankWr SMap.put
  by_cases e : v % 2 ^ f.w = f.rst
  · rw [if_pos e, SMap.get_erase, if_neg h]
  · rw [if_neg e, SMap.get_ins, if_neg h]

theorem bankWr_wf {b : SMap Nat} (f : Fld) (v i : Nat) (h : SMap.sorted none b = true) : SMap.sorted none (bankWr b f v i) = true := by
  unfold bankWr SMap.put
  by_cases e : v % 2 ^ f.w = f.rst
  · rw [if_pos e]; exact SMap.sorted_erase _ h
  · rw [if_neg e]; exact SMap.sorted_ins _ _ h (fun b hb => by cases hb)

end Sys2Proof.Machine
end

