-- ==== Sys2Proof/Laws/State.lean ====
section
/-! SUPPORT. What each update of a part leaves as it was, field by field, and what it gives the field it writes. -/

namespace Sys2Proof.Machine

/-! ## Leaf -/

@[simp] theorem Leaf.wr_ident (d : Leaf) (f : Fld) (v i : Nat) : (d.wr f v i).ident = d.ident := rfl
@[simp] theorem Leaf.wr_shadow (d : Leaf) (f : Fld) (v i : Nat) : (d.wr f v i).shadow = d.shadow := rfl
@[simp] theorem Leaf.wr_hold (d : Leaf) (f : Fld) (v i : Nat) : (d.wr f v i).hold = d.hold := rfl
@[simp] theorem Leaf.wr_rdata (d : Leaf) (f : Fld) (v i : Nat) : (d.wr f v i).rdata = d.rdata := rfl
@[simp] theorem Leaf.wr_out (d : Leaf) (f : Fld) (v i : Nat) : (d.wr f v i).out = d.out := rfl
@[simp] theorem Leaf.wr_freeIdx (d : Leaf) (f : Fld) (v i : Nat) : (d.wr f v i).freeIdx = d.freeIdx := rfl
@[simp] theorem Leaf.wr_lanes (d : Leaf) (f : Fld) (v i : Nat) : (d.wr f v i).lanes = d.lanes := rfl
@[simp] theorem Leaf.wr_conv (d : Leaf) (f : Fld) (v i : Nat) : (d.wr f v i).conv = d.conv := rfl
@[simp] theorem Leaf.wr_tim (d : Leaf) (f : Fld) (v i : Nat) : (d.wr f v i).tim = d.tim := rfl
@[simp] theorem Leaf.wr_hnd (d : Leaf) (f : Fld) (v i : Nat) : (d.wr f v i).hnd = d.hnd := rfl
@[simp] theorem Leaf.wr_hng (d : Leaf) (f : Fld) (v i : Nat) : (d.wr f v i).hng = d.hng := rfl
@[simp] theorem Leaf.wr_flt (d : Leaf) (f : Fld) (v i : Nat) : (d.wr f v i).flt = d.flt := rfl
@[simp] theorem Leaf.wr_key (d : Leaf) (f : Fld) (v i : Nat) : (d.wr f v i).key = d.key := rfl
@[simp] theorem Leaf.wr_cyc (d : Leaf) (f : Fld) (v i : Nat) : (d.wr f v i).cyc = d.cyc := rfl
@[simp] theorem Leaf.wr_tiles (d : Leaf) (f : Fld) (v i : Nat) : (d.wr f v i).tiles = d.tiles := rfl
@[simp] theorem Leaf.wr_tum (d : Leaf) (f : Fld) (v i : Nat) : (d.wr f v i).tum = d.tum := rfl
@[simp] theorem Leaf.wr_fab (d : Leaf) (f : Fld) (v i : Nat) : (d.wr f v i).fab = d.fab := rfl
@[simp] theorem Leaf.wr_prof (d : Leaf) (f : Fld) (v i : Nat) : (d.wr f v i).prof = d.prof := rfl
@[simp] theorem Leaf.wr_pwr (d : Leaf) (f : Fld) (v i : Nat) : (d.wr f v i).pwr = d.pwr := rfl
@[simp] theorem Leaf.wr_upd (d : Leaf) (f : Fld) (v i : Nat) : (d.wr f v i).upd = d.upd := rfl
@[simp] theorem Leaf.wr_sch (d : Leaf) (f : Fld) (v i : Nat) : (d.wr f v i).sch = d.sch := rfl
@[simp] theorem Leaf.wr_rcd (d : Leaf) (f : Fld) (v i : Nat) : (d.wr f v i).rcd = d.rcd := rfl
@[simp] theorem Leaf.wr_disc (d : Leaf) (f : Fld) (v i : Nat) : (d.wr f v i).disc = d.disc := rfl
@[simp] theorem Leaf.wr_saf (d : Leaf) (f : Fld) (v i : Nat) : (d.wr f v i).saf = d.saf := rfl

@[simp] theorem Leaf.sat_ident (d : Leaf) (f : Fld) (i : Nat) : (d.sat f i).ident = d.ident := rfl
@[simp] theorem Leaf.sat_shadow (d : Leaf) (f : Fld) (i : Nat) : (d.sat f i).shadow = d.shadow := rfl
@[simp] theorem Leaf.sat_hold (d : Leaf) (f : Fld) (i : Nat) : (d.sat f i).hold = d.hold := rfl
@[simp] theorem Leaf.sat_rdata (d : Leaf) (f : Fld) (i : Nat) : (d.sat f i).rdata = d.rdata := rfl
@[simp] theorem Leaf.sat_out (d : Leaf) (f : Fld) (i : Nat) : (d.sat f i).out = d.out := rfl
@[simp] theorem Leaf.sat_freeIdx (d : Leaf) (f : Fld) (i : Nat) : (d.sat f i).freeIdx = d.freeIdx := rfl
@[simp] theorem Leaf.sat_lanes (d : Leaf) (f : Fld) (i : Nat) : (d.sat f i).lanes = d.lanes := rfl
@[simp] theorem Leaf.sat_conv (d : Leaf) (f : Fld) (i : Nat) : (d.sat f i).conv = d.conv := rfl
@[simp] theorem Leaf.sat_tim (d : Leaf) (f : Fld) (i : Nat) : (d.sat f i).tim = d.tim := rfl
@[simp] theorem Leaf.sat_hnd (d : Leaf) (f : Fld) (i : Nat) : (d.sat f i).hnd = d.hnd := rfl
@[simp] theorem Leaf.sat_hng (d : Leaf) (f : Fld) (i : Nat) : (d.sat f i).hng = d.hng := rfl
@[simp] theorem Leaf.sat_flt (d : Leaf) (f : Fld) (i : Nat) : (d.sat f i).flt = d.flt := rfl
@[simp] theorem Leaf.sat_key (d : Leaf) (f : Fld) (i : Nat) : (d.sat f i).key = d.key := rfl
@[simp] theorem Leaf.sat_cyc (d : Leaf) (f : Fld) (i : Nat) : (d.sat f i).cyc = d.cyc := rfl
@[simp] theorem Leaf.sat_tiles (d : Leaf) (f : Fld) (i : Nat) : (d.sat f i).tiles = d.tiles := rfl
@[simp] theorem Leaf.sat_tum (d : Leaf) (f : Fld) (i : Nat) : (d.sat f i).tum = d.tum := rfl
@[simp] theorem Leaf.sat_fab (d : Leaf) (f : Fld) (i : Nat) : (d.sat f i).fab = d.fab := rfl
@[simp] theorem Leaf.sat_prof (d : Leaf) (f : Fld) (i : Nat) : (d.sat f i).prof = d.prof := rfl
@[simp] theorem Leaf.sat_pwr (d : Leaf) (f : Fld) (i : Nat) : (d.sat f i).pwr = d.pwr := rfl
@[simp] theorem Leaf.sat_upd (d : Leaf) (f : Fld) (i : Nat) : (d.sat f i).upd = d.upd := rfl
@[simp] theorem Leaf.sat_sch (d : Leaf) (f : Fld) (i : Nat) : (d.sat f i).sch = d.sch := rfl
@[simp] theorem Leaf.sat_rcd (d : Leaf) (f : Fld) (i : Nat) : (d.sat f i).rcd = d.rcd := rfl
@[simp] theorem Leaf.sat_disc (d : Leaf) (f : Fld) (i : Nat) : (d.sat f i).disc = d.disc := rfl
@[simp] theorem Leaf.sat_saf (d : Leaf) (f : Fld) (i : Nat) : (d.sat f i).saf = d.saf := rfl

@[simp] theorem Leaf.inc_ident (d : Leaf) (f : Fld) (i : Nat) : (d.inc f i).ident = d.ident := rfl
@[simp] theorem Leaf.inc_shadow (d : Leaf) (f : Fld) (i : Nat) : (d.inc f i).shadow = d.shadow := rfl
@[simp] theorem Leaf.inc_hold (d : Leaf) (f : Fld) (i : Nat) : (d.inc f i).hold = d.hold := rfl
@[simp] theorem Leaf.inc_rdata (d : Leaf) (f : Fld) (i : Nat) : (d.inc f i).rdata = d.rdata := rfl
@[simp] theorem Leaf.inc_out (d : Leaf) (f : Fld) (i : Nat) : (d.inc f i).out = d.out := rfl
@[simp] theorem Leaf.inc_freeIdx (d : Leaf) (f : Fld) (i : Nat) : (d.inc f i).freeIdx = d.freeIdx := rfl
@[simp] theorem Leaf.inc_lanes (d : Leaf) (f : Fld) (i : Nat) : (d.inc f i).lanes = d.lanes := rfl
@[simp] theorem Leaf.inc_conv (d : Leaf) (f : Fld) (i : Nat) : (d.inc f i).conv = d.conv := rfl
@[simp] theorem Leaf.inc_tim (d : Leaf) (f : Fld) (i : Nat) : (d.inc f i).tim = d.tim := rfl
@[simp] theorem Leaf.inc_hnd (d : Leaf) (f : Fld) (i : Nat) : (d.inc f i).hnd = d.hnd := rfl
@[simp] theorem Leaf.inc_hng (d : Leaf) (f : Fld) (i : Nat) : (d.inc f i).hng = d.hng := rfl
@[simp] theorem Leaf.inc_flt (d : Leaf) (f : Fld) (i : Nat) : (d.inc f i).flt = d.flt := rfl
@[simp] theorem Leaf.inc_key (d : Leaf) (f : Fld) (i : Nat) : (d.inc f i).key = d.key := rfl
@[simp] theorem Leaf.inc_cyc (d : Leaf) (f : Fld) (i : Nat) : (d.inc f i).cyc = d.cyc := rfl
@[simp] theorem Leaf.inc_tiles (d : Leaf) (f : Fld) (i : Nat) : (d.inc f i).tiles = d.tiles := rfl
@[simp] theorem Leaf.inc_tum (d : Leaf) (f : Fld) (i : Nat) : (d.inc f i).tum = d.tum := rfl
@[simp] theorem Leaf.inc_fab (d : Leaf) (f : Fld) (i : Nat) : (d.inc f i).fab = d.fab := rfl
@[simp] theorem Leaf.inc_prof (d : Leaf) (f : Fld) (i : Nat) : (d.inc f i).prof = d.prof := rfl
@[simp] theorem Leaf.inc_pwr (d : Leaf) (f : Fld) (i : Nat) : (d.inc f i).pwr = d.pwr := rfl
@[simp] theorem Leaf.inc_upd (d : Leaf) (f : Fld) (i : Nat) : (d.inc f i).upd = d.upd := rfl
@[simp] theorem Leaf.inc_sch (d : Leaf) (f : Fld) (i : Nat) : (d.inc f i).sch = d.sch := rfl
@[simp] theorem Leaf.inc_rcd (d : Leaf) (f : Fld) (i : Nat) : (d.inc f i).rcd = d.rcd := rfl
@[simp] theorem Leaf.inc_disc (d : Leaf) (f : Fld) (i : Nat) : (d.inc f i).disc = d.disc := rfl
@[simp] theorem Leaf.inc_saf (d : Leaf) (f : Fld) (i : Nat) : (d.inc f i).saf = d.saf := rfl

@[simp] theorem Leaf.wr64_ident (d : Leaf) (lo hi : Fld) (v i : Nat) : (d.wr64 lo hi v i).ident = d.ident := rfl
@[simp] theorem Leaf.wr64_shadow (d : Leaf) (lo hi : Fld) (v i : Nat) : (d.wr64 lo hi v i).shadow = d.shadow := rfl
@[simp] theorem Leaf.wr64_hold (d : Leaf) (lo hi : Fld) (v i : Nat) : (d.wr64 lo hi v i).hold = d.hold := rfl
@[simp] theorem Leaf.wr64_rdata (d : Leaf) (lo hi : Fld) (v i : Nat) : (d.wr64 lo hi v i).rdata = d.rdata := rfl
@[simp] theorem Leaf.wr64_out (d : Leaf) (lo hi : Fld) (v i : Nat) : (d.wr64 lo hi v i).out = d.out := rfl
@[simp] theorem Leaf.wr64_freeIdx (d : Leaf) (lo hi : Fld) (v i : Nat) : (d.wr64 lo hi v i).freeIdx = d.freeIdx := rfl
@[simp] theorem Leaf.wr64_lanes (d : Leaf) (lo hi : Fld) (v i : Nat) : (d.wr64 lo hi v i).lanes = d.lanes := rfl
@[simp] theorem Leaf.wr64_conv (d : Leaf) (lo hi : Fld) (v i : Nat) : (d.wr64 lo hi v i).conv = d.conv := rfl
@[simp] theorem Leaf.wr64_tim (d : Leaf) (lo hi : Fld) (v i : Nat) : (d.wr64 lo hi v i).tim = d.tim := rfl
@[simp] theorem Leaf.wr64_hnd (d : Leaf) (lo hi : Fld) (v i : Nat) : (d.wr64 lo hi v i).hnd = d.hnd := rfl
@[simp] theorem Leaf.wr64_hng (d : Leaf) (lo hi : Fld) (v i : Nat) : (d.wr64 lo hi v i).hng = d.hng := rfl
@[simp] theorem Leaf.wr64_flt (d : Leaf) (lo hi : Fld) (v i : Nat) : (d.wr64 lo hi v i).flt = d.flt := rfl
@[simp] theorem Leaf.wr64_key (d : Leaf) (lo hi : Fld) (v i : Nat) : (d.wr64 lo hi v i).key = d.key := rfl
@[simp] theorem Leaf.wr64_cyc (d : Leaf) (lo hi : Fld) (v i : Nat) : (d.wr64 lo hi v i).cyc = d.cyc := rfl
@[simp] theorem Leaf.wr64_tiles (d : Leaf) (lo hi : Fld) (v i : Nat) : (d.wr64 lo hi v i).tiles = d.tiles := rfl
@[simp] theorem Leaf.wr64_tum (d : Leaf) (lo hi : Fld) (v i : Nat) : (d.wr64 lo hi v i).tum = d.tum := rfl
@[simp] theorem Leaf.wr64_fab (d : Leaf) (lo hi : Fld) (v i : Nat) : (d.wr64 lo hi v i).fab = d.fab := rfl
@[simp] theorem Leaf.wr64_prof (d : Leaf) (lo hi : Fld) (v i : Nat) : (d.wr64 lo hi v i).prof = d.prof := rfl
@[simp] theorem Leaf.wr64_pwr (d : Leaf) (lo hi : Fld) (v i : Nat) : (d.wr64 lo hi v i).pwr = d.pwr := rfl
@[simp] theorem Leaf.wr64_upd (d : Leaf) (lo hi : Fld) (v i : Nat) : (d.wr64 lo hi v i).upd = d.upd := rfl
@[simp] theorem Leaf.wr64_sch (d : Leaf) (lo hi : Fld) (v i : Nat) : (d.wr64 lo hi v i).sch = d.sch := rfl
@[simp] theorem Leaf.wr64_rcd (d : Leaf) (lo hi : Fld) (v i : Nat) : (d.wr64 lo hi v i).rcd = d.rcd := rfl
@[simp] theorem Leaf.wr64_disc (d : Leaf) (lo hi : Fld) (v i : Nat) : (d.wr64 lo hi v i).disc = d.disc := rfl
@[simp] theorem Leaf.wr64_saf (d : Leaf) (lo hi : Fld) (v i : Nat) : (d.wr64 lo hi v i).saf = d.saf := rfl

@[simp] theorem Leaf.wrShadow_ident (d : Leaf) (f : Fld) (v i : Nat) : (d.wrShadow f v i).ident = d.ident := rfl
@[simp] theorem Leaf.wrShadow_bank (d : Leaf) (f : Fld) (v i : Nat) : (d.wrShadow f v i).bank = d.bank := rfl
@[simp] theorem Leaf.wrShadow_hold (d : Leaf) (f : Fld) (v i : Nat) : (d.wrShadow f v i).hold = d.hold := rfl
@[simp] theorem Leaf.wrShadow_rdata (d : Leaf) (f : Fld) (v i : Nat) : (d.wrShadow f v i).rdata = d.rdata := rfl
@[simp] theorem Leaf.wrShadow_out (d : Leaf) (f : Fld) (v i : Nat) : (d.wrShadow f v i).out = d.out := rfl
@[simp] theorem Leaf.wrShadow_freeIdx (d : Leaf) (f : Fld) (v i : Nat) : (d.wrShadow f v i).freeIdx = d.freeIdx := rfl
@[simp] theorem Leaf.wrShadow_lanes (d : Leaf) (f : Fld) (v i : Nat) : (d.wrShadow f v i).lanes = d.lanes := rfl
@[simp] theorem Leaf.wrShadow_conv (d : Leaf) (f : Fld) (v i : Nat) : (d.wrShadow f v i).conv = d.conv := rfl
@[simp] theorem Leaf.wrShadow_tim (d : Leaf) (f : Fld) (v i : Nat) : (d.wrShadow f v i).tim = d.tim := rfl
@[simp] theorem Leaf.wrShadow_hnd (d : Leaf) (f : Fld) (v i : Nat) : (d.wrShadow f v i).hnd = d.hnd := rfl
@[simp] theorem Leaf.wrShadow_hng (d : Leaf) (f : Fld) (v i : Nat) : (d.wrShadow f v i).hng = d.hng := rfl
@[simp] theorem Leaf.wrShadow_flt (d : Leaf) (f : Fld) (v i : Nat) : (d.wrShadow f v i).flt = d.flt := rfl
@[simp] theorem Leaf.wrShadow_key (d : Leaf) (f : Fld) (v i : Nat) : (d.wrShadow f v i).key = d.key := rfl
@[simp] theorem Leaf.wrShadow_cyc (d : Leaf) (f : Fld) (v i : Nat) : (d.wrShadow f v i).cyc = d.cyc := rfl
@[simp] theorem Leaf.wrShadow_tiles (d : Leaf) (f : Fld) (v i : Nat) : (d.wrShadow f v i).tiles = d.tiles := rfl
@[simp] theorem Leaf.wrShadow_tum (d : Leaf) (f : Fld) (v i : Nat) : (d.wrShadow f v i).tum = d.tum := rfl
@[simp] theorem Leaf.wrShadow_fab (d : Leaf) (f : Fld) (v i : Nat) : (d.wrShadow f v i).fab = d.fab := rfl
@[simp] theorem Leaf.wrShadow_prof (d : Leaf) (f : Fld) (v i : Nat) : (d.wrShadow f v i).prof = d.prof := rfl
@[simp] theorem Leaf.wrShadow_pwr (d : Leaf) (f : Fld) (v i : Nat) : (d.wrShadow f v i).pwr = d.pwr := rfl
@[simp] theorem Leaf.wrShadow_upd (d : Leaf) (f : Fld) (v i : Nat) : (d.wrShadow f v i).upd = d.upd := rfl
@[simp] theorem Leaf.wrShadow_sch (d : Leaf) (f : Fld) (v i : Nat) : (d.wrShadow f v i).sch = d.sch := rfl
@[simp] theorem Leaf.wrShadow_rcd (d : Leaf) (f : Fld) (v i : Nat) : (d.wrShadow f v i).rcd = d.rcd := rfl
@[simp] theorem Leaf.wrShadow_disc (d : Leaf) (f : Fld) (v i : Nat) : (d.wrShadow f v i).disc = d.disc := rfl
@[simp] theorem Leaf.wrShadow_saf (d : Leaf) (f : Fld) (v i : Nat) : (d.wrShadow f v i).saf = d.saf := rfl

@[simp] theorem Leaf.log_ident (d : Leaf) (o : Out) : (d.log o).ident = d.ident := rfl
@[simp] theorem Leaf.log_bank (d : Leaf) (o : Out) : (d.log o).bank = d.bank := rfl
@[simp] theorem Leaf.log_shadow (d : Leaf) (o : Out) : (d.log o).shadow = d.shadow := rfl
@[simp] theorem Leaf.log_hold (d : Leaf) (o : Out) : (d.log o).hold = d.hold := rfl
@[simp] theorem Leaf.log_rdata (d : Leaf) (o : Out) : (d.log o).rdata = d.rdata := rfl
@[simp] theorem Leaf.log_freeIdx (d : Leaf) (o : Out) : (d.log o).freeIdx = d.freeIdx := rfl
@[simp] theorem Leaf.log_lanes (d : Leaf) (o : Out) : (d.log o).lanes = d.lanes := rfl
@[simp] theorem Leaf.log_conv (d : Leaf) (o : Out) : (d.log o).conv = d.conv := rfl
@[simp] theorem Leaf.log_tim (d : Leaf) (o : Out) : (d.log o).tim = d.tim := rfl
@[simp] theorem Leaf.log_hnd (d : Leaf) (o : Out) : (d.log o).hnd = d.hnd := rfl
@[simp] theorem Leaf.log_hng (d : Leaf) (o : Out) : (d.log o).hng = d.hng := rfl
@[simp] theorem Leaf.log_flt (d : Leaf) (o : Out) : (d.log o).flt = d.flt := rfl
@[simp] theorem Leaf.log_key (d : Leaf) (o : Out) : (d.log o).key = d.key := rfl
@[simp] theorem Leaf.log_cyc (d : Leaf) (o : Out) : (d.log o).cyc = d.cyc := rfl
@[simp] theorem Leaf.log_tiles (d : Leaf) (o : Out) : (d.log o).tiles = d.tiles := rfl
@[simp] theorem Leaf.log_tum (d : Leaf) (o : Out) : (d.log o).tum = d.tum := rfl
@[simp] theorem Leaf.log_fab (d : Leaf) (o : Out) : (d.log o).fab = d.fab := rfl
@[simp] theorem Leaf.log_prof (d : Leaf) (o : Out) : (d.log o).prof = d.prof := rfl
@[simp] theorem Leaf.log_pwr (d : Leaf) (o : Out) : (d.log o).pwr = d.pwr := rfl
@[simp] theorem Leaf.log_upd (d : Leaf) (o : Out) : (d.log o).upd = d.upd := rfl
@[simp] theorem Leaf.log_sch (d : Leaf) (o : Out) : (d.log o).sch = d.sch := rfl
@[simp] theorem Leaf.log_rcd (d : Leaf) (o : Out) : (d.log o).rcd = d.rcd := rfl
@[simp] theorem Leaf.log_disc (d : Leaf) (o : Out) : (d.log o).disc = d.disc := rfl
@[simp] theorem Leaf.log_saf (d : Leaf) (o : Out) : (d.log o).saf = d.saf := rfl

@[simp] theorem Leaf.useFree_ident (d : Leaf) : (d.useFree).ident = d.ident := rfl
@[simp] theorem Leaf.useFree_bank (d : Leaf) : (d.useFree).bank = d.bank := rfl
@[simp] theorem Leaf.useFree_shadow (d : Leaf) : (d.useFree).shadow = d.shadow := rfl
@[simp] theorem Leaf.useFree_hold (d : Leaf) : (d.useFree).hold = d.hold := rfl
@[simp] theorem Leaf.useFree_rdata (d : Leaf) : (d.useFree).rdata = d.rdata := rfl
@[simp] theorem Leaf.useFree_out (d : Leaf) : (d.useFree).out = d.out := rfl
@[simp] theorem Leaf.useFree_lanes (d : Leaf) : (d.useFree).lanes = d.lanes := rfl
@[simp] theorem Leaf.useFree_conv (d : Leaf) : (d.useFree).conv = d.conv := rfl
@[simp] theorem Leaf.useFree_tim (d : Leaf) : (d.useFree).tim = d.tim := rfl
@[simp] theorem Leaf.useFree_hnd (d : Leaf) : (d.useFree).hnd = d.hnd := rfl
@[simp] theorem Leaf.useFree_hng (d : Leaf) : (d.useFree).hng = d.hng := rfl
@[simp] theorem Leaf.useFree_flt (d : Leaf) : (d.useFree).flt = d.flt := rfl
@[simp] theorem Leaf.useFree_key (d : Leaf) : (d.useFree).key = d.key := rfl
@[simp] theorem Leaf.useFree_cyc (d : Leaf) : (d.useFree).cyc = d.cyc := rfl
@[simp] theorem Leaf.useFree_tiles (d : Leaf) : (d.useFree).tiles = d.tiles := rfl
@[simp] theorem Leaf.useFree_tum (d : Leaf) : (d.useFree).tum = d.tum := rfl
@[simp] theorem Leaf.useFree_fab (d : Leaf) : (d.useFree).fab = d.fab := rfl
@[simp] theorem Leaf.useFree_prof (d : Leaf) : (d.useFree).prof = d.prof := rfl
@[simp] theorem Leaf.useFree_pwr (d : Leaf) : (d.useFree).pwr = d.pwr := rfl
@[simp] theorem Leaf.useFree_upd (d : Leaf) : (d.useFree).upd = d.upd := rfl
@[simp] theorem Leaf.useFree_sch (d : Leaf) : (d.useFree).sch = d.sch := rfl
@[simp] theorem Leaf.useFree_rcd (d : Leaf) : (d.useFree).rcd = d.rcd := rfl
@[simp] theorem Leaf.useFree_disc (d : Leaf) : (d.useFree).disc = d.disc := rfl
@[simp] theorem Leaf.useFree_saf (d : Leaf) : (d.useFree).saf = d.saf := rfl

/-! ## Concentrator -/

@[simp] theorem Concentrator.wr_ident (d : Concentrator) (f : Fld) (v i : Nat) : (d.wr f v i).ident = d.ident := rfl
@[simp] theorem Concentrator.wr_meas (d : Concentrator) (f : Fld) (v i : Nat) : (d.wr f v i).meas = d.meas := rfl
@[simp] theorem Concentrator.wr_rdata (d : Concentrator) (f : Fld) (v i : Nat) : (d.wr f v i).rdata = d.rdata := rfl
@[simp] theorem Concentrator.wr_out (d : Concentrator) (f : Fld) (v i : Nat) : (d.wr f v i).out = d.out := rfl
@[simp] theorem Concentrator.wr_freeIdx (d : Concentrator) (f : Fld) (v i : Nat) : (d.wr f v i).freeIdx = d.freeIdx := rfl
@[simp] theorem Concentrator.wr_lanes (d : Concentrator) (f : Fld) (v i : Nat) : (d.wr f v i).lanes = d.lanes := rfl
@[simp] theorem Concentrator.wr_flt (d : Concentrator) (f : Fld) (v i : Nat) : (d.wr f v i).flt = d.flt := rfl
@[simp] theorem Concentrator.wr_remote (d : Concentrator) (f : Fld) (v i : Nat) : (d.wr f v i).remote = d.remote := rfl
@[simp] theorem Concentrator.wr_fw (d : Concentrator) (f : Fld) (v i : Nat) : (d.wr f v i).fw = d.fw := rfl
@[simp] theorem Concentrator.wr_time (d : Concentrator) (f : Fld) (v i : Nat) : (d.wr f v i).time = d.time := rfl
@[simp] theorem Concentrator.wr_timeUnset (d : Concentrator) (f : Fld) (v i : Nat) : (d.wr f v i).timeUnset = d.timeUnset := rfl
@[simp] theorem Concentrator.wr_cyc (d : Concentrator) (f : Fld) (v i : Nat) : (d.wr f v i).cyc = d.cyc := rfl
@[simp] theorem Concentrator.wr_dec (d : Concentrator) (f : Fld) (v i : Nat) : (d.wr f v i).dec = d.dec := rfl
@[simp] theorem Concentrator.wr_sw (d : Concentrator) (f : Fld) (v i : Nat) : (d.wr f v i).sw = d.sw := rfl
@[simp] theorem Concentrator.wr_knocks (d : Concentrator) (f : Fld) (v i : Nat) : (d.wr f v i).knocks = d.knocks := rfl
@[simp] theorem Concentrator.wr_relayMask (d : Concentrator) (f : Fld) (v i : Nat) : (d.wr f v i).relayMask = d.relayMask := rfl
@[simp] theorem Concentrator.wr_relay (d : Concentrator) (f : Fld) (v i : Nat) : (d.wr f v i).relay = d.relay := rfl

@[simp] theorem Concentrator.sat_ident (d : Concentrator) (f : Fld) (i : Nat) : (d.sat f i).ident = d.ident := rfl
@[simp] theorem Concentrator.sat_meas (d : Concentrator) (f : Fld) (i : Nat) : (d.sat f i).meas = d.meas := rfl
@[simp] theorem Concentrator.sat_rdata (d : Concentrator) (f : Fld) (i : Nat) : (d.sat f i).rdata = d.rdata := rfl
@[simp] theorem Concentrator.sat_out (d : Concentrator) (f : Fld) (i : Nat) : (d.sat f i).out = d.out := rfl
@[simp] theorem Concentrator.sat_freeIdx (d : Concentrator) (f : Fld) (i : Nat) : (d.sat f i).freeIdx = d.freeIdx := rfl
@[simp] theorem Concentrator.sat_lanes (d : Concentrator) (f : Fld) (i : Nat) : (d.sat f i).lanes = d.lanes := rfl
@[simp] theorem Concentrator.sat_flt (d : Concentrator) (f : Fld) (i : Nat) : (d.sat f i).flt = d.flt := rfl
@[simp] theorem Concentrator.sat_remote (d : Concentrator) (f : Fld) (i : Nat) : (d.sat f i).remote = d.remote := rfl
@[simp] theorem Concentrator.sat_fw (d : Concentrator) (f : Fld) (i : Nat) : (d.sat f i).fw = d.fw := rfl
@[simp] theorem Concentrator.sat_time (d : Concentrator) (f : Fld) (i : Nat) : (d.sat f i).time = d.time := rfl
@[simp] theorem Concentrator.sat_timeUnset (d : Concentrator) (f : Fld) (i : Nat) : (d.sat f i).timeUnset = d.timeUnset := rfl
@[simp] theorem Concentrator.sat_cyc (d : Concentrator) (f : Fld) (i : Nat) : (d.sat f i).cyc = d.cyc := rfl
@[simp] theorem Concentrator.sat_dec (d : Concentrator) (f : Fld) (i : Nat) : (d.sat f i).dec = d.dec := rfl
@[simp] theorem Concentrator.sat_sw (d : Concentrator) (f : Fld) (i : Nat) : (d.sat f i).sw = d.sw := rfl
@[simp] theorem Concentrator.sat_knocks (d : Concentrator) (f : Fld) (i : Nat) : (d.sat f i).knocks = d.knocks := rfl
@[simp] theorem Concentrator.sat_relayMask (d : Concentrator) (f : Fld) (i : Nat) : (d.sat f i).relayMask = d.relayMask := rfl
@[simp] theorem Concentrator.sat_relay (d : Concentrator) (f : Fld) (i : Nat) : (d.sat f i).relay = d.relay := rfl

@[simp] theorem Concentrator.inc_ident (d : Concentrator) (f : Fld) (i : Nat) : (d.inc f i).ident = d.ident := rfl
@[simp] theorem Concentrator.inc_meas (d : Concentrator) (f : Fld) (i : Nat) : (d.inc f i).meas = d.meas := rfl
@[simp] theorem Concentrator.inc_rdata (d : Concentrator) (f : Fld) (i : Nat) : (d.inc f i).rdata = d.rdata := rfl
@[simp] theorem Concentrator.inc_out (d : Concentrator) (f : Fld) (i : Nat) : (d.inc f i).out = d.out := rfl
@[simp] theorem Concentrator.inc_freeIdx (d : Concentrator) (f : Fld) (i : Nat) : (d.inc f i).freeIdx = d.freeIdx := rfl
@[simp] theorem Concentrator.inc_lanes (d : Concentrator) (f : Fld) (i : Nat) : (d.inc f i).lanes = d.lanes := rfl
@[simp] theorem Concentrator.inc_flt (d : Concentrator) (f : Fld) (i : Nat) : (d.inc f i).flt = d.flt := rfl
@[simp] theorem Concentrator.inc_remote (d : Concentrator) (f : Fld) (i : Nat) : (d.inc f i).remote = d.remote := rfl
@[simp] theorem Concentrator.inc_fw (d : Concentrator) (f : Fld) (i : Nat) : (d.inc f i).fw = d.fw := rfl
@[simp] theorem Concentrator.inc_time (d : Concentrator) (f : Fld) (i : Nat) : (d.inc f i).time = d.time := rfl
@[simp] theorem Concentrator.inc_timeUnset (d : Concentrator) (f : Fld) (i : Nat) : (d.inc f i).timeUnset = d.timeUnset := rfl
@[simp] theorem Concentrator.inc_cyc (d : Concentrator) (f : Fld) (i : Nat) : (d.inc f i).cyc = d.cyc := rfl
@[simp] theorem Concentrator.inc_dec (d : Concentrator) (f : Fld) (i : Nat) : (d.inc f i).dec = d.dec := rfl
@[simp] theorem Concentrator.inc_sw (d : Concentrator) (f : Fld) (i : Nat) : (d.inc f i).sw = d.sw := rfl
@[simp] theorem Concentrator.inc_knocks (d : Concentrator) (f : Fld) (i : Nat) : (d.inc f i).knocks = d.knocks := rfl
@[simp] theorem Concentrator.inc_relayMask (d : Concentrator) (f : Fld) (i : Nat) : (d.inc f i).relayMask = d.relayMask := rfl
@[simp] theorem Concentrator.inc_relay (d : Concentrator) (f : Fld) (i : Nat) : (d.inc f i).relay = d.relay := rfl

@[simp] theorem Concentrator.log_ident (d : Concentrator) (o : Out) : (d.log o).ident = d.ident := rfl
@[simp] theorem Concentrator.log_meas (d : Concentrator) (o : Out) : (d.log o).meas = d.meas := rfl
@[simp] theorem Concentrator.log_bank (d : Concentrator) (o : Out) : (d.log o).bank = d.bank := rfl
@[simp] theorem Concentrator.log_rdata (d : Concentrator) (o : Out) : (d.log o).rdata = d.rdata := rfl
@[simp] theorem Concentrator.log_freeIdx (d : Concentrator) (o : Out) : (d.log o).freeIdx = d.freeIdx := rfl
@[simp] theorem Concentrator.log_lanes (d : Concentrator) (o : Out) : (d.log o).lanes = d.lanes := rfl
@[simp] theorem Concentrator.log_flt (d : Concentrator) (o : Out) : (d.log o).flt = d.flt := rfl
@[simp] theorem Concentrator.log_remote (d : Concentrator) (o : Out) : (d.log o).remote = d.remote := rfl
@[simp] theorem Concentrator.log_fw (d : Concentrator) (o : Out) : (d.log o).fw = d.fw := rfl
@[simp] theorem Concentrator.log_time (d : Concentrator) (o : Out) : (d.log o).time = d.time := rfl
@[simp] theorem Concentrator.log_timeUnset (d : Concentrator) (o : Out) : (d.log o).timeUnset = d.timeUnset := rfl
@[simp] theorem Concentrator.log_cyc (d : Concentrator) (o : Out) : (d.log o).cyc = d.cyc := rfl
@[simp] theorem Concentrator.log_dec (d : Concentrator) (o : Out) : (d.log o).dec = d.dec := rfl
@[simp] theorem Concentrator.log_sw (d : Concentrator) (o : Out) : (d.log o).sw = d.sw := rfl
@[simp] theorem Concentrator.log_knocks (d : Concentrator) (o : Out) : (d.log o).knocks = d.knocks := rfl
@[simp] theorem Concentrator.log_relayMask (d : Concentrator) (o : Out) : (d.log o).relayMask = d.relayMask := rfl
@[simp] theorem Concentrator.log_relay (d : Concentrator) (o : Out) : (d.log o).relay = d.relay := rfl

/-! ## Cell -/

@[simp] theorem Cell.wr_ident (d : Cell) (f : Fld) (v i : Nat) : (d.wr f v i).ident = d.ident := rfl
@[simp] theorem Cell.wr_rdata (d : Cell) (f : Fld) (v i : Nat) : (d.wr f v i).rdata = d.rdata := rfl
@[simp] theorem Cell.wr_out (d : Cell) (f : Fld) (v i : Nat) : (d.wr f v i).out = d.out := rfl
@[simp] theorem Cell.wr_freeIdx (d : Cell) (f : Fld) (v i : Nat) : (d.wr f v i).freeIdx = d.freeIdx := rfl
@[simp] theorem Cell.wr_lanes (d : Cell) (f : Fld) (v i : Nat) : (d.wr f v i).lanes = d.lanes := rfl
@[simp] theorem Cell.wr_remote (d : Cell) (f : Fld) (v i : Nat) : (d.wr f v i).remote = d.remote := rfl
@[simp] theorem Cell.wr_fw (d : Cell) (f : Fld) (v i : Nat) : (d.wr f v i).fw = d.fw := rfl
@[simp] theorem Cell.wr_time (d : Cell) (f : Fld) (v i : Nat) : (d.wr f v i).time = d.time := rfl
@[simp] theorem Cell.wr_timeUnset (d : Cell) (f : Fld) (v i : Nat) : (d.wr f v i).timeUnset = d.timeUnset := rfl
@[simp] theorem Cell.wr_cyc (d : Cell) (f : Fld) (v i : Nat) : (d.wr f v i).cyc = d.cyc := rfl
@[simp] theorem Cell.wr_conv (d : Cell) (f : Fld) (v i : Nat) : (d.wr f v i).conv = d.conv := rfl
@[simp] theorem Cell.wr_pow (d : Cell) (f : Fld) (v i : Nat) : (d.wr f v i).pow = d.pow := rfl
@[simp] theorem Cell.wr_held (d : Cell) (f : Fld) (v i : Nat) : (d.wr f v i).held = d.held := rfl
@[simp] theorem Cell.wr_sw (d : Cell) (f : Fld) (v i : Nat) : (d.wr f v i).sw = d.sw := rfl
@[simp] theorem Cell.wr_trip (d : Cell) (f : Fld) (v i : Nat) : (d.wr f v i).trip = d.trip := rfl
@[simp] theorem Cell.wr_adc (d : Cell) (f : Fld) (v i : Nat) : (d.wr f v i).adc = d.adc := rfl
@[simp] theorem Cell.wr_ret (d : Cell) (f : Fld) (v i : Nat) : (d.wr f v i).ret = d.ret := rfl

@[simp] theorem Cell.sat_ident (d : Cell) (f : Fld) (i : Nat) : (d.sat f i).ident = d.ident := rfl
@[simp] theorem Cell.sat_rdata (d : Cell) (f : Fld) (i : Nat) : (d.sat f i).rdata = d.rdata := rfl
@[simp] theorem Cell.sat_out (d : Cell) (f : Fld) (i : Nat) : (d.sat f i).out = d.out := rfl
@[simp] theorem Cell.sat_freeIdx (d : Cell) (f : Fld) (i : Nat) : (d.sat f i).freeIdx = d.freeIdx := rfl
@[simp] theorem Cell.sat_lanes (d : Cell) (f : Fld) (i : Nat) : (d.sat f i).lanes = d.lanes := rfl
@[simp] theorem Cell.sat_remote (d : Cell) (f : Fld) (i : Nat) : (d.sat f i).remote = d.remote := rfl
@[simp] theorem Cell.sat_fw (d : Cell) (f : Fld) (i : Nat) : (d.sat f i).fw = d.fw := rfl
@[simp] theorem Cell.sat_time (d : Cell) (f : Fld) (i : Nat) : (d.sat f i).time = d.time := rfl
@[simp] theorem Cell.sat_timeUnset (d : Cell) (f : Fld) (i : Nat) : (d.sat f i).timeUnset = d.timeUnset := rfl
@[simp] theorem Cell.sat_cyc (d : Cell) (f : Fld) (i : Nat) : (d.sat f i).cyc = d.cyc := rfl
@[simp] theorem Cell.sat_conv (d : Cell) (f : Fld) (i : Nat) : (d.sat f i).conv = d.conv := rfl
@[simp] theorem Cell.sat_pow (d : Cell) (f : Fld) (i : Nat) : (d.sat f i).pow = d.pow := rfl
@[simp] theorem Cell.sat_held (d : Cell) (f : Fld) (i : Nat) : (d.sat f i).held = d.held := rfl
@[simp] theorem Cell.sat_sw (d : Cell) (f : Fld) (i : Nat) : (d.sat f i).sw = d.sw := rfl
@[simp] theorem Cell.sat_trip (d : Cell) (f : Fld) (i : Nat) : (d.sat f i).trip = d.trip := rfl
@[simp] theorem Cell.sat_adc (d : Cell) (f : Fld) (i : Nat) : (d.sat f i).adc = d.adc := rfl
@[simp] theorem Cell.sat_ret (d : Cell) (f : Fld) (i : Nat) : (d.sat f i).ret = d.ret := rfl

@[simp] theorem Cell.inc_ident (d : Cell) (f : Fld) (i : Nat) : (d.inc f i).ident = d.ident := rfl
@[simp] theorem Cell.inc_rdata (d : Cell) (f : Fld) (i : Nat) : (d.inc f i).rdata = d.rdata := rfl
@[simp] theorem Cell.inc_out (d : Cell) (f : Fld) (i : Nat) : (d.inc f i).out = d.out := rfl
@[simp] theorem Cell.inc_freeIdx (d : Cell) (f : Fld) (i : Nat) : (d.inc f i).freeIdx = d.freeIdx := rfl
@[simp] theorem Cell.inc_lanes (d : Cell) (f : Fld) (i : Nat) : (d.inc f i).lanes = d.lanes := rfl
@[simp] theorem Cell.inc_remote (d : Cell) (f : Fld) (i : Nat) : (d.inc f i).remote = d.remote := rfl
@[simp] theorem Cell.inc_fw (d : Cell) (f : Fld) (i : Nat) : (d.inc f i).fw = d.fw := rfl
@[simp] theorem Cell.inc_time (d : Cell) (f : Fld) (i : Nat) : (d.inc f i).time = d.time := rfl
@[simp] theorem Cell.inc_timeUnset (d : Cell) (f : Fld) (i : Nat) : (d.inc f i).timeUnset = d.timeUnset := rfl
@[simp] theorem Cell.inc_cyc (d : Cell) (f : Fld) (i : Nat) : (d.inc f i).cyc = d.cyc := rfl
@[simp] theorem Cell.inc_conv (d : Cell) (f : Fld) (i : Nat) : (d.inc f i).conv = d.conv := rfl
@[simp] theorem Cell.inc_pow (d : Cell) (f : Fld) (i : Nat) : (d.inc f i).pow = d.pow := rfl
@[simp] theorem Cell.inc_held (d : Cell) (f : Fld) (i : Nat) : (d.inc f i).held = d.held := rfl
@[simp] theorem Cell.inc_sw (d : Cell) (f : Fld) (i : Nat) : (d.inc f i).sw = d.sw := rfl
@[simp] theorem Cell.inc_trip (d : Cell) (f : Fld) (i : Nat) : (d.inc f i).trip = d.trip := rfl
@[simp] theorem Cell.inc_adc (d : Cell) (f : Fld) (i : Nat) : (d.inc f i).adc = d.adc := rfl
@[simp] theorem Cell.inc_ret (d : Cell) (f : Fld) (i : Nat) : (d.inc f i).ret = d.ret := rfl

@[simp] theorem Cell.log_ident (d : Cell) (o : Out) : (d.log o).ident = d.ident := rfl
@[simp] theorem Cell.log_bank (d : Cell) (o : Out) : (d.log o).bank = d.bank := rfl
@[simp] theorem Cell.log_rdata (d : Cell) (o : Out) : (d.log o).rdata = d.rdata := rfl
@[simp] theorem Cell.log_freeIdx (d : Cell) (o : Out) : (d.log o).freeIdx = d.freeIdx := rfl
@[simp] theorem Cell.log_lanes (d : Cell) (o : Out) : (d.log o).lanes = d.lanes := rfl
@[simp] theorem Cell.log_remote (d : Cell) (o : Out) : (d.log o).remote = d.remote := rfl
@[simp] theorem Cell.log_fw (d : Cell) (o : Out) : (d.log o).fw = d.fw := rfl
@[simp] theorem Cell.log_time (d : Cell) (o : Out) : (d.log o).time = d.time := rfl
@[simp] theorem Cell.log_timeUnset (d : Cell) (o : Out) : (d.log o).timeUnset = d.timeUnset := rfl
@[simp] theorem Cell.log_cyc (d : Cell) (o : Out) : (d.log o).cyc = d.cyc := rfl
@[simp] theorem Cell.log_conv (d : Cell) (o : Out) : (d.log o).conv = d.conv := rfl
@[simp] theorem Cell.log_pow (d : Cell) (o : Out) : (d.log o).pow = d.pow := rfl
@[simp] theorem Cell.log_held (d : Cell) (o : Out) : (d.log o).held = d.held := rfl
@[simp] theorem Cell.log_sw (d : Cell) (o : Out) : (d.log o).sw = d.sw := rfl
@[simp] theorem Cell.log_trip (d : Cell) (o : Out) : (d.log o).trip = d.trip := rfl
@[simp] theorem Cell.log_adc (d : Cell) (o : Out) : (d.log o).adc = d.adc := rfl
@[simp] theorem Cell.log_ret (d : Cell) (o : Out) : (d.log o).ret = d.ret := rfl

@[simp] theorem Leaf.rd_wr_same (d : Leaf) (f : Fld) (v i : Nat) : (d.wr f v i).rd f i = v % 2 ^ f.w := bankRd_wr_same _ _ _ _

theorem Leaf.rd_wr_ne (d : Leaf) (f g : Fld) (v i j : Nat) (h : g.key j ≠ f.key i) : (d.wr f v i).rd g j = d.rd g j :=
  bankRd_wr_ne _ _ _ _ _ _ h

@[simp] theorem Leaf.rd_log (d : Leaf) (o : Out) (f : Fld) (i : Nat) : (d.log o).rd f i = d.rd f i := rfl

@[simp] theorem Leaf.out_log (d : Leaf) (o : Out) : (d.log o).out = d.out ++ [o] := rfl

@[simp] theorem Concentrator.rd_wr_same (d : Concentrator) (f : Fld) (v i : Nat) : (d.wr f v i).rd f i = v % 2 ^ f.w := bankRd_wr_same _ _ _ _

theorem Concentrator.rd_wr_ne (d : Concentrator) (f g : Fld) (v i j : Nat) (h : g.key j ≠ f.key i) : (d.wr f v i).rd g j = d.rd g j :=
  bankRd_wr_ne _ _ _ _ _ _ h

@[simp] theorem Concentrator.rd_log (d : Concentrator) (o : Out) (f : Fld) (i : Nat) : (d.log o).rd f i = d.rd f i := rfl

@[simp] theorem Concentrator.out_log (d : Concentrator) (o : Out) : (d.log o).out = d.out ++ [o] := rfl

@[simp] theorem Cell.rd_wr_same (d : Cell) (f : Fld) (v i : Nat) : (d.wr f v i).rd f i = v % 2 ^ f.w := bankRd_wr_same _ _ _ _

theorem Cell.rd_wr_ne (d : Cell) (f g : Fld) (v i j : Nat) (h : g.key j ≠ f.key i) : (d.wr f v i).rd g j = d.rd g j :=
  bankRd_wr_ne _ _ _ _ _ _ h

@[simp] theorem Cell.rd_log (d : Cell) (o : Out) (f : Fld) (i : Nat) : (d.log o).rd f i = d.rd f i := rfl

@[simp] theorem Cell.out_log (d : Cell) (o : Out) : (d.log o).out = d.out ++ [o] := rfl

@[simp] theorem Leaf.rd_useFree (d : Leaf) (f : Fld) (i : Nat) : d.useFree.rd f i = d.rd f i := rfl
@[simp] theorem Leaf.freeIdx_useFree (d : Leaf) : d.useFree.freeIdx = d.freeIdx + 1 := rfl
@[simp] theorem Leaf.rd_wrShadow (d : Leaf) (f g : Fld) (v i j : Nat) : (d.wrShadow f v i).rd g j = d.rd g j := rfl
@[simp] theorem Leaf.rdShadow_wr (d : Leaf) (f g : Fld) (v i j : Nat) : (d.wr f v i).rdShadow g j = d.rdShadow g j := rfl
@[simp] theorem Leaf.rdShadow_wrShadow_same (d : Leaf) (f : Fld) (v i : Nat) : (d.wrShadow f v i).rdShadow f i = v % 2 ^ f.w :=
  bankRd_wr_same _ _ _ _

/-! ## The parts of the state -/

@[simp] theorem State.leaf_setLeaf_same (s : State) (l : LeafId) (d : Leaf) : (s.setLeaf l d).leaf l = d := by cases l <;> rfl

theorem State.leaf_setLeaf_ne (s : State) (l m : LeafId) (d : Leaf) (h : m ≠ l) : (s.setLeaf l d).leaf m = s.leaf m := by
  cases l <;> cases m <;> first | rfl | exact absurd rfl h

@[simp] theorem State.conc_setConc_same (s : State) (n : Conc) (d : Concentrator) : (s.setConc n d).conc n = d := SMap.get_put_same _ _ _ _

theorem State.conc_setConc_ne (s : State) (n m : Conc) (d : Concentrator) (h : m ≠ n) : (s.setConc n d).conc m = s.conc m :=
  SMap.get_put_ne _ _ _ _ _ fun e => h (Fin.ext e)

/-- Two cells with the same key are the same cell. -/
theorem CellId.key_inj {c e : CellId} (h : c.key = e.key) : c = e := by
  obtain ⟨⟨n, hn⟩, ⟨p, hp⟩⟩ := c
  obtain ⟨⟨m, hm⟩, ⟨q, hq⟩⟩ := e
  simp only [CellId.key] at h
  have h1 : n = m := by omega
  have h2 : p = q := by omega
  subst h1; subst h2; rfl

@[simp] theorem State.cell_setCell_same (s : State) (c : CellId) (d : Cell) : (s.setCell c d).cell c = d := SMap.get_put_same _ _ _ _

theorem State.cell_setCell_ne (s : State) (c e : CellId) (d : Cell) (h : e ≠ c) : (s.setCell c d).cell e = s.cell e :=
  SMap.get_put_ne _ _ _ _ _ fun k => h (CellId.key_inj k)

@[simp] theorem State.setLeaf_concs (s : State) (l : LeafId) (d : Leaf) : (s.setLeaf l d).concs = s.concs := by cases l <;> rfl
@[simp] theorem State.setLeaf_cells (s : State) (l : LeafId) (d : Leaf) : (s.setLeaf l d).cells = s.cells := by cases l <;> rfl
@[simp] theorem State.setLeaf_pending (s : State) (l : LeafId) (d : Leaf) : (s.setLeaf l d).pending = s.pending := by cases l <;> rfl
@[simp] theorem State.setLeaf_conc (s : State) (l : LeafId) (d : Leaf) (n : Conc) : (s.setLeaf l d).conc n = s.conc n := by cases l <;> rfl
@[simp] theorem State.setLeaf_cell (s : State) (l : LeafId) (d : Leaf) (c : CellId) : (s.setLeaf l d).cell c = s.cell c := by
  cases l <;> rfl
@[simp] theorem State.setConc_leaf (s : State) (n : Conc) (d : Concentrator) (l : LeafId) : (s.setConc n d).leaf l = s.leaf l := by
  cases l <;> rfl
@[simp] theorem State.setConc_cell (s : State) (n : Conc) (d : Concentrator) (c : CellId) : (s.setConc n d).cell c = s.cell c := rfl
@[simp] theorem State.setConc_cells (s : State) (n : Conc) (d : Concentrator) : (s.setConc n d).cells = s.cells := rfl
@[simp] theorem State.setConc_pending (s : State) (n : Conc) (d : Concentrator) : (s.setConc n d).pending = s.pending := rfl
@[simp] theorem State.setCell_leaf (s : State) (c : CellId) (d : Cell) (l : LeafId) : (s.setCell c d).leaf l = s.leaf l := by
  cases l <;> rfl
@[simp] theorem State.setCell_conc (s : State) (c : CellId) (d : Cell) (n : Conc) : (s.setCell c d).conc n = s.conc n := rfl
@[simp] theorem State.setCell_concs (s : State) (c : CellId) (d : Cell) : (s.setCell c d).concs = s.concs := rfl
@[simp] theorem State.setCell_pending (s : State) (c : CellId) (d : Cell) : (s.setCell c d).pending = s.pending := rfl

end Sys2Proof.Machine
end

