-- ==== Sys2Proof/Laws/Ops.lean ====
section
/-! SUPPORT. What each shared operation can change: a frame for the operation, and from it one lemma per field that it leaves as it was. -/

namespace Sys2Proof.Machine
open Reg

/-! ## Lanes and the output log -/

theorem Leaf.pushLane_frame (d : Leaf) (k : Nat) (up : Bool) (o : Out) :
    d.pushLane k up o = { d with lanes := (d.pushLane k up o).lanes, out := (d.pushLane k up o).out } := by
  unfold Leaf.pushLane
  simp only []
  split <;> rfl

@[simp] theorem Leaf.pushLane_ident (d : Leaf) (k : Nat) (up : Bool) (o : Out) : (d.pushLane k up o).ident = d.ident := by rw [Leaf.pushLane_frame]
@[simp] theorem Leaf.pushLane_bank (d : Leaf) (k : Nat) (up : Bool) (o : Out) : (d.pushLane k up o).bank = d.bank := by rw [Leaf.pushLane_frame]
@[simp] theorem Leaf.pushLane_shadow (d : Leaf) (k : Nat) (up : Bool) (o : Out) : (d.pushLane k up o).shadow = d.shadow := by rw [Leaf.pushLane_frame]
@[simp] theorem Leaf.pushLane_hold (d : Leaf) (k : Nat) (up : Bool) (o : Out) : (d.pushLane k up o).hold = d.hold := by rw [Leaf.pushLane_frame]
@[simp] theorem Leaf.pushLane_rdata (d : Leaf) (k : Nat) (up : Bool) (o : Out) : (d.pushLane k up o).rdata = d.rdata := by rw [Leaf.pushLane_frame]
@[simp] theorem Leaf.pushLane_freeIdx (d : Leaf) (k : Nat) (up : Bool) (o : Out) : (d.pushLane k up o).freeIdx = d.freeIdx := by rw [Leaf.pushLane_frame]
@[simp] theorem Leaf.pushLane_conv (d : Leaf) (k : Nat) (up : Bool) (o : Out) : (d.pushLane k up o).conv = d.conv := by rw [Leaf.pushLane_frame]
@[simp] theorem Leaf.pushLane_tim (d : Leaf) (k : Nat) (up : Bool) (o : Out) : (d.pushLane k up o).tim = d.tim := by rw [Leaf.pushLane_frame]
@[simp] theorem Leaf.pushLane_hnd (d : Leaf) (k : Nat) (up : Bool) (o : Out) : (d.pushLane k up o).hnd = d.hnd := by rw [Leaf.pushLane_frame]
@[simp] theorem Leaf.pushLane_hng (d : Leaf) (k : Nat) (up : Bool) (o : Out) : (d.pushLane k up o).hng = d.hng := by rw [Leaf.pushLane_frame]
@[simp] theorem Leaf.pushLane_flt (d : Leaf) (k : Nat) (up : Bool) (o : Out) : (d.pushLane k up o).flt = d.flt := by rw [Leaf.pushLane_frame]
@[simp] theorem Leaf.pushLane_key (d : Leaf) (k : Nat) (up : Bool) (o : Out) : (d.pushLane k up o).key = d.key := by rw [Leaf.pushLane_frame]
@[simp] theorem Leaf.pushLane_cyc (d : Leaf) (k : Nat) (up : Bool) (o : Out) : (d.pushLane k up o).cyc = d.cyc := by rw [Leaf.pushLane_frame]
@[simp] theorem Leaf.pushLane_tiles (d : Leaf) (k : Nat) (up : Bool) (o : Out) : (d.pushLane k up o).tiles = d.tiles := by rw [Leaf.pushLane_frame]
@[simp] theorem Leaf.pushLane_tum (d : Leaf) (k : Nat) (up : Bool) (o : Out) : (d.pushLane k up o).tum = d.tum := by rw [Leaf.pushLane_frame]
@[simp] theorem Leaf.pushLane_fab (d : Leaf) (k : Nat) (up : Bool) (o : Out) : (d.pushLane k up o).fab = d.fab := by rw [Leaf.pushLane_frame]
@[simp] theorem Leaf.pushLane_prof (d : Leaf) (k : Nat) (up : Bool) (o : Out) : (d.pushLane k up o).prof = d.prof := by rw [Leaf.pushLane_frame]
@[simp] theorem Leaf.pushLane_pwr (d : Leaf) (k : Nat) (up : Bool) (o : Out) : (d.pushLane k up o).pwr = d.pwr := by rw [Leaf.pushLane_frame]
@[simp] theorem Leaf.pushLane_upd (d : Leaf) (k : Nat) (up : Bool) (o : Out) : (d.pushLane k up o).upd = d.upd := by rw [Leaf.pushLane_frame]
@[simp] theorem Leaf.pushLane_sch (d : Leaf) (k : Nat) (up : Bool) (o : Out) : (d.pushLane k up o).sch = d.sch := by rw [Leaf.pushLane_frame]
@[simp] theorem Leaf.pushLane_rcd (d : Leaf) (k : Nat) (up : Bool) (o : Out) : (d.pushLane k up o).rcd = d.rcd := by rw [Leaf.pushLane_frame]
@[simp] theorem Leaf.pushLane_disc (d : Leaf) (k : Nat) (up : Bool) (o : Out) : (d.pushLane k up o).disc = d.disc := by rw [Leaf.pushLane_frame]
@[simp] theorem Leaf.pushLane_saf (d : Leaf) (k : Nat) (up : Bool) (o : Out) : (d.pushLane k up o).saf = d.saf := by rw [Leaf.pushLane_frame]
@[simp] theorem Leaf.rd_pushLane (d : Leaf) (k : Nat) (up : Bool) (o : Out) (g : Fld) (j : Nat) : (d.pushLane k up o).rd g j = d.rd g j := by
  simp only [Leaf.rd, Leaf.pushLane_bank]
@[simp] theorem Leaf.is_pushLane (d : Leaf) (k : Nat) (up : Bool) (o : Out) (g : Fld) (j : Nat) : (d.pushLane k up o).is g j = d.is g j := by
  simp only [Leaf.is, Leaf.rd_pushLane]

theorem Leaf.emit_frame (d : Leaf) (o : Out) :
    d.emit o = { d with lanes := (d.emit o).lanes, out := (d.emit o).out } := by
  unfold Leaf.emit
  split
  · split
    · exact d.pushLane_frame _ _ _
    · split <;> rfl
  · split
    · exact d.pushLane_frame _ _ _
    · rfl
  · rfl

@[simp] theorem Leaf.emit_ident (d : Leaf) (o : Out) : (d.emit o).ident = d.ident := by rw [Leaf.emit_frame]
@[simp] theorem Leaf.emit_bank (d : Leaf) (o : Out) : (d.emit o).bank = d.bank := by rw [Leaf.emit_frame]
@[simp] theorem Leaf.emit_shadow (d : Leaf) (o : Out) : (d.emit o).shadow = d.shadow := by rw [Leaf.emit_frame]
@[simp] theorem Leaf.emit_hold (d : Leaf) (o : Out) : (d.emit o).hold = d.hold := by rw [Leaf.emit_frame]
@[simp] theorem Leaf.emit_rdata (d : Leaf) (o : Out) : (d.emit o).rdata = d.rdata := by rw [Leaf.emit_frame]
@[simp] theorem Leaf.emit_freeIdx (d : Leaf) (o : Out) : (d.emit o).freeIdx = d.freeIdx := by rw [Leaf.emit_frame]
@[simp] theorem Leaf.emit_conv (d : Leaf) (o : Out) : (d.emit o).conv = d.conv := by rw [Leaf.emit_frame]
@[simp] theorem Leaf.emit_tim (d : Leaf) (o : Out) : (d.emit o).tim = d.tim := by rw [Leaf.emit_frame]
@[simp] theorem Leaf.emit_hnd (d : Leaf) (o : Out) : (d.emit o).hnd = d.hnd := by rw [Leaf.emit_frame]
@[simp] theorem Leaf.emit_hng (d : Leaf) (o : Out) : (d.emit o).hng = d.hng := by rw [Leaf.emit_frame]
@[simp] theorem Leaf.emit_flt (d : Leaf) (o : Out) : (d.emit o).flt = d.flt := by rw [Leaf.emit_frame]
@[simp] theorem Leaf.emit_key (d : Leaf) (o : Out) : (d.emit o).key = d.key := by rw [Leaf.emit_frame]
@[simp] theorem Leaf.emit_cyc (d : Leaf) (o : Out) : (d.emit o).cyc = d.cyc := by rw [Leaf.emit_frame]
@[simp] theorem Leaf.emit_tiles (d : Leaf) (o : Out) : (d.emit o).tiles = d.tiles := by rw [Leaf.emit_frame]
@[simp] theorem Leaf.emit_tum (d : Leaf) (o : Out) : (d.emit o).tum = d.tum := by rw [Leaf.emit_frame]
@[simp] theorem Leaf.emit_fab (d : Leaf) (o : Out) : (d.emit o).fab = d.fab := by rw [Leaf.emit_frame]
@[simp] theorem Leaf.emit_prof (d : Leaf) (o : Out) : (d.emit o).prof = d.prof := by rw [Leaf.emit_frame]
@[simp] theorem Leaf.emit_pwr (d : Leaf) (o : Out) : (d.emit o).pwr = d.pwr := by rw [Leaf.emit_frame]
@[simp] theorem Leaf.emit_upd (d : Leaf) (o : Out) : (d.emit o).upd = d.upd := by rw [Leaf.emit_frame]
@[simp] theorem Leaf.emit_sch (d : Leaf) (o : Out) : (d.emit o).sch = d.sch := by rw [Leaf.emit_frame]
@[simp] theorem Leaf.emit_rcd (d : Leaf) (o : Out) : (d.emit o).rcd = d.rcd := by rw [Leaf.emit_frame]
@[simp] theorem Leaf.emit_disc (d : Leaf) (o : Out) : (d.emit o).disc = d.disc := by rw [Leaf.emit_frame]
@[simp] theorem Leaf.emit_saf (d : Leaf) (o : Out) : (d.emit o).saf = d.saf := by rw [Leaf.emit_frame]
@[simp] theorem Leaf.rd_emit (d : Leaf) (o : Out) (g : Fld) (j : Nat) : (d.emit o).rd g j = d.rd g j := by
  simp only [Leaf.rd, Leaf.emit_bank]
@[simp] theorem Leaf.is_emit (d : Leaf) (o : Out) (g : Fld) (j : Nat) : (d.emit o).is g j = d.is g j := by
  simp only [Leaf.is, Leaf.rd_emit]

theorem Concentrator.pushLane_frame (d : Concentrator) (k : Nat) (up : Bool) (o : Out) :
    d.pushLane k up o = { d with lanes := (d.pushLane k up o).lanes, out := (d.pushLane k up o).out } := by
  unfold Concentrator.pushLane
  simp only []
  split <;> rfl

@[simp] theorem Concentrator.pushLane_ident (d : Concentrator) (k : Nat) (up : Bool) (o : Out) : (d.pushLane k up o).ident = d.ident := by rw [Concentrator.pushLane_frame]
@[simp] theorem Concentrator.pushLane_meas (d : Concentrator) (k : Nat) (up : Bool) (o : Out) : (d.pushLane k up o).meas = d.meas := by rw [Concentrator.pushLane_frame]
@[simp] theorem Concentrator.pushLane_bank (d : Concentrator) (k : Nat) (up : Bool) (o : Out) : (d.pushLane k up o).bank = d.bank := by rw [Concentrator.pushLane_frame]
@[simp] theorem Concentrator.pushLane_rdata (d : Concentrator) (k : Nat) (up : Bool) (o : Out) : (d.pushLane k up o).rdata = d.rdata := by rw [Concentrator.pushLane_frame]
@[simp] theorem Concentrator.pushLane_freeIdx (d : Concentrator) (k : Nat) (up : Bool) (o : Out) : (d.pushLane k up o).freeIdx = d.freeIdx := by rw [Concentrator.pushLane_frame]
@[simp] theorem Concentrator.pushLane_flt (d : Concentrator) (k : Nat) (up : Bool) (o : Out) : (d.pushLane k up o).flt = d.flt := by rw [Concentrator.pushLane_frame]
@[simp] theorem Concentrator.pushLane_remote (d : Concentrator) (k : Nat) (up : Bool) (o : Out) : (d.pushLane k up o).remote = d.remote := by rw [Concentrator.pushLane_frame]
@[simp] theorem Concentrator.pushLane_fw (d : Concentrator) (k : Nat) (up : Bool) (o : Out) : (d.pushLane k up o).fw = d.fw := by rw [Concentrator.pushLane_frame]
@[simp] theorem Concentrator.pushLane_time (d : Concentrator) (k : Nat) (up : Bool) (o : Out) : (d.pushLane k up o).time = d.time := by rw [Concentrator.pushLane_frame]
@[simp] theorem Concentrator.pushLane_timeUnset (d : Concentrator) (k : Nat) (up : Bool) (o : Out) : (d.pushLane k up o).timeUnset = d.timeUnset := by rw [Concentrator.pushLane_frame]
@[simp] theorem Concentrator.pushLane_cyc (d : Concentrator) (k : Nat) (up : Bool) (o : Out) : (d.pushLane k up o).cyc = d.cyc := by rw [Concentrator.pushLane_frame]
@[simp] theorem Concentrator.pushLane_dec (d : Concentrator) (k : Nat) (up : Bool) (o : Out) : (d.pushLane k up o).dec = d.dec := by rw [Concentrator.pushLane_frame]
@[simp] theorem Concentrator.pushLane_sw (d : Concentrator) (k : Nat) (up : Bool) (o : Out) : (d.pushLane k up o).sw = d.sw := by rw [Concentrator.pushLane_frame]
@[simp] theorem Concentrator.pushLane_knocks (d : Concentrator) (k : Nat) (up : Bool) (o : Out) : (d.pushLane k up o).knocks = d.knocks := by rw [Concentrator.pushLane_frame]
@[simp] theorem Concentrator.pushLane_relayMask (d : Concentrator) (k : Nat) (up : Bool) (o : Out) : (d.pushLane k up o).relayMask = d.relayMask := by rw [Concentrator.pushLane_frame]
@[simp] theorem Concentrator.pushLane_relay (d : Concentrator) (k : Nat) (up : Bool) (o : Out) : (d.pushLane k up o).relay = d.relay := by rw [Concentrator.pushLane_frame]
@[simp] theorem Concentrator.rd_pushLane (d : Concentrator) (k : Nat) (up : Bool) (o : Out) (g : Fld) (j : Nat) : (d.pushLane k up o).rd g j = d.rd g j := by
  simp only [Concentrator.rd, Concentrator.pushLane_bank]
@[simp] theorem Concentrator.is_pushLane (d : Concentrator) (k : Nat) (up : Bool) (o : Out) (g : Fld) (j : Nat) : (d.pushLane k up o).is g j = d.is g j := by
  simp only [Concentrator.is, Concentrator.rd_pushLane]

theorem Concentrator.emit_frame (d : Concentrator) (o : Out) :
    d.emit o = { d with lanes := (d.emit o).lanes, out := (d.emit o).out } := by
  unfold Concentrator.emit
  split
  · split
    · exact d.pushLane_frame _ _ _
    · split <;> rfl
  · rfl

@[simp] theorem Concentrator.emit_ident (d : Concentrator) (o : Out) : (d.emit o).ident = d.ident := by rw [Concentrator.emit_frame]
@[simp] theorem Concentrator.emit_meas (d : Concentrator) (o : Out) : (d.emit o).meas = d.meas := by rw [Concentrator.emit_frame]
@[simp] theorem Concentrator.emit_bank (d : Concentrator) (o : Out) : (d.emit o).bank = d.bank := by rw [Concentrator.emit_frame]
@[simp] theorem Concentrator.emit_rdata (d : Concentrator) (o : Out) : (d.emit o).rdata = d.rdata := by rw [Concentrator.emit_frame]
@[simp] theorem Concentrator.emit_freeIdx (d : Concentrator) (o : Out) : (d.emit o).freeIdx = d.freeIdx := by rw [Concentrator.emit_frame]
@[simp] theorem Concentrator.emit_flt (d : Concentrator) (o : Out) : (d.emit o).flt = d.flt := by rw [Concentrator.emit_frame]
@[simp] theorem Concentrator.emit_remote (d : Concentrator) (o : Out) : (d.emit o).remote = d.remote := by rw [Concentrator.emit_frame]
@[simp] theorem Concentrator.emit_fw (d : Concentrator) (o : Out) : (d.emit o).fw = d.fw := by rw [Concentrator.emit_frame]
@[simp] theorem Concentrator.emit_time (d : Concentrator) (o : Out) : (d.emit o).time = d.time := by rw [Concentrator.emit_frame]
@[simp] theorem Concentrator.emit_timeUnset (d : Concentrator) (o : Out) : (d.emit o).timeUnset = d.timeUnset := by rw [Concentrator.emit_frame]
@[simp] theorem Concentrator.emit_cyc (d : Concentrator) (o : Out) : (d.emit o).cyc = d.cyc := by rw [Concentrator.emit_frame]
@[simp] theorem Concentrator.emit_dec (d : Concentrator) (o : Out) : (d.emit o).dec = d.dec := by rw [Concentrator.emit_frame]
@[simp] theorem Concentrator.emit_sw (d : Concentrator) (o : Out) : (d.emit o).sw = d.sw := by rw [Concentrator.emit_frame]
@[simp] theorem Concentrator.emit_knocks (d : Concentrator) (o : Out) : (d.emit o).knocks = d.knocks := by rw [Concentrator.emit_frame]
@[simp] theorem Concentrator.emit_relayMask (d : Concentrator) (o : Out) : (d.emit o).relayMask = d.relayMask := by rw [Concentrator.emit_frame]
@[simp] theorem Concentrator.emit_relay (d : Concentrator) (o : Out) : (d.emit o).relay = d.relay := by rw [Concentrator.emit_frame]
@[simp] theorem Concentrator.rd_emit (d : Concentrator) (o : Out) (g : Fld) (j : Nat) : (d.emit o).rd g j = d.rd g j := by
  simp only [Concentrator.rd, Concentrator.emit_bank]
@[simp] theorem Concentrator.is_emit (d : Concentrator) (o : Out) (g : Fld) (j : Nat) : (d.emit o).is g j = d.is g j := by
  simp only [Concentrator.is, Concentrator.rd_emit]

theorem Cell.pushLane_frame (d : Cell) (k : Nat) (up : Bool) (o : Out) :
    d.pushLane k up o = { d with lanes := (d.pushLane k up o).lanes, out := (d.pushLane k up o).out } := by
  unfold Cell.pushLane
  simp only []
  split <;> rfl

@[simp] theorem Cell.pushLane_ident (d : Cell) (k : Nat) (up : Bool) (o : Out) : (d.pushLane k up o).ident = d.ident := by rw [Cell.pushLane_frame]
@[simp] theorem Cell.pushLane_bank (d : Cell) (k : Nat) (up : Bool) (o : Out) : (d.pushLane k up o).bank = d.bank := by rw [Cell.pushLane_frame]
@[simp] theorem Cell.pushLane_rdata (d : Cell) (k : Nat) (up : Bool) (o : Out) : (d.pushLane k up o).rdata = d.rdata := by rw [Cell.pushLane_frame]
@[simp] theorem Cell.pushLane_freeIdx (d : Cell) (k : Nat) (up : Bool) (o : Out) : (d.pushLane k up o).freeIdx = d.freeIdx := by rw [Cell.pushLane_frame]
@[simp] theorem Cell.pushLane_remote (d : Cell) (k : Nat) (up : Bool) (o : Out) : (d.pushLane k up o).remote = d.remote := by rw [Cell.pushLane_frame]
@[simp] theorem Cell.pushLane_fw (d : Cell) (k : Nat) (up : Bool) (o : Out) : (d.pushLane k up o).fw = d.fw := by rw [Cell.pushLane_frame]
@[simp] theorem Cell.pushLane_time (d : Cell) (k : Nat) (up : Bool) (o : Out) : (d.pushLane k up o).time = d.time := by rw [Cell.pushLane_frame]
@[simp] theorem Cell.pushLane_timeUnset (d : Cell) (k : Nat) (up : Bool) (o : Out) : (d.pushLane k up o).timeUnset = d.timeUnset := by rw [Cell.pushLane_frame]
@[simp] theorem Cell.pushLane_cyc (d : Cell) (k : Nat) (up : Bool) (o : Out) : (d.pushLane k up o).cyc = d.cyc := by rw [Cell.pushLane_frame]
@[simp] theorem Cell.pushLane_conv (d : Cell) (k : Nat) (up : Bool) (o : Out) : (d.pushLane k up o).conv = d.conv := by rw [Cell.pushLane_frame]
@[simp] theorem Cell.pushLane_pow (d : Cell) (k : Nat) (up : Bool) (o : Out) : (d.pushLane k up o).pow = d.pow := by rw [Cell.pushLane_frame]
@[simp] theorem Cell.pushLane_held (d : Cell) (k : Nat) (up : Bool) (o : Out) : (d.pushLane k up o).held = d.held := by rw [Cell.pushLane_frame]
@[simp] theorem Cell.pushLane_sw (d : Cell) (k : Nat) (up : Bool) (o : Out) : (d.pushLane k up o).sw = d.sw := by rw [Cell.pushLane_frame]
@[simp] theorem Cell.pushLane_trip (d : Cell) (k : Nat) (up : Bool) (o : Out) : (d.pushLane k up o).trip = d.trip := by rw [Cell.pushLane_frame]
@[simp] theorem Cell.pushLane_adc (d : Cell) (k : Nat) (up : Bool) (o : Out) : (d.pushLane k up o).adc = d.adc := by rw [Cell.pushLane_frame]
@[simp] theorem Cell.pushLane_ret (d : Cell) (k : Nat) (up : Bool) (o : Out) : (d.pushLane k up o).ret = d.ret := by rw [Cell.pushLane_frame]
@[simp] theorem Cell.rd_pushLane (d : Cell) (k : Nat) (up : Bool) (o : Out) (g : Fld) (j : Nat) : (d.pushLane k up o).rd g j = d.rd g j := by
  simp only [Cell.rd, Cell.pushLane_bank]
@[simp] theorem Cell.is_pushLane (d : Cell) (k : Nat) (up : Bool) (o : Out) (g : Fld) (j : Nat) : (d.pushLane k up o).is g j = d.is g j := by
  simp only [Cell.is, Cell.rd_pushLane]

theorem Cell.emit_frame (d : Cell) (o : Out) :
    d.emit o = { d with lanes := (d.emit o).lanes, out := (d.emit o).out } := by
  unfold Cell.emit
  split
  · split
    · exact d.pushLane_frame _ _ _
    · split <;> rfl
  · rfl

@[simp] theorem Cell.emit_ident (d : Cell) (o : Out) : (d.emit o).ident = d.ident := by rw [Cell.emit_frame]
@[simp] theorem Cell.emit_bank (d : Cell) (o : Out) : (d.emit o).bank = d.bank := by rw [Cell.emit_frame]
@[simp] theorem Cell.emit_rdata (d : Cell) (o : Out) : (d.emit o).rdata = d.rdata := by rw [Cell.emit_frame]
@[simp] theorem Cell.emit_freeIdx (d : Cell) (o : Out) : (d.emit o).freeIdx = d.freeIdx := by rw [Cell.emit_frame]
@[simp] theorem Cell.emit_remote (d : Cell) (o : Out) : (d.emit o).remote = d.remote := by rw [Cell.emit_frame]
@[simp] theorem Cell.emit_fw (d : Cell) (o : Out) : (d.emit o).fw = d.fw := by rw [Cell.emit_frame]
@[simp] theorem Cell.emit_time (d : Cell) (o : Out) : (d.emit o).time = d.time := by rw [Cell.emit_frame]
@[simp] theorem Cell.emit_timeUnset (d : Cell) (o : Out) : (d.emit o).timeUnset = d.timeUnset := by rw [Cell.emit_frame]
@[simp] theorem Cell.emit_cyc (d : Cell) (o : Out) : (d.emit o).cyc = d.cyc := by rw [Cell.emit_frame]
@[simp] theorem Cell.emit_conv (d : Cell) (o : Out) : (d.emit o).conv = d.conv := by rw [Cell.emit_frame]
@[simp] theorem Cell.emit_pow (d : Cell) (o : Out) : (d.emit o).pow = d.pow := by rw [Cell.emit_frame]
@[simp] theorem Cell.emit_held (d : Cell) (o : Out) : (d.emit o).held = d.held := by rw [Cell.emit_frame]
@[simp] theorem Cell.emit_sw (d : Cell) (o : Out) : (d.emit o).sw = d.sw := by rw [Cell.emit_frame]
@[simp] theorem Cell.emit_trip (d : Cell) (o : Out) : (d.emit o).trip = d.trip := by rw [Cell.emit_frame]
@[simp] theorem Cell.emit_adc (d : Cell) (o : Out) : (d.emit o).adc = d.adc := by rw [Cell.emit_frame]
@[simp] theorem Cell.emit_ret (d : Cell) (o : Out) : (d.emit o).ret = d.ret := by rw [Cell.emit_frame]
@[simp] theorem Cell.rd_emit (d : Cell) (o : Out) (g : Fld) (j : Nat) : (d.emit o).rd g j = d.rd g j := by
  simp only [Cell.rd, Cell.emit_bank]
@[simp] theorem Cell.is_emit (d : Cell) (o : Out) (g : Fld) (j : Nat) : (d.emit o).is g j = d.is g j := by
  simp only [Cell.is, Cell.rd_emit]

theorem Leaf.msix_frame (d : Leaf) (v : Nat) :
    d.msix v = { d with out := (d.msix v).out } := rfl

@[simp] theorem Leaf.msix_ident (d : Leaf) (v : Nat) : (d.msix v).ident = d.ident := by rw [Leaf.msix_frame]
@[simp] theorem Leaf.msix_bank (d : Leaf) (v : Nat) : (d.msix v).bank = d.bank := by rw [Leaf.msix_frame]
@[simp] theorem Leaf.msix_shadow (d : Leaf) (v : Nat) : (d.msix v).shadow = d.shadow := by rw [Leaf.msix_frame]
@[simp] theorem Leaf.msix_hold (d : Leaf) (v : Nat) : (d.msix v).hold = d.hold := by rw [Leaf.msix_frame]
@[simp] theorem Leaf.msix_rdata (d : Leaf) (v : Nat) : (d.msix v).rdata = d.rdata := by rw [Leaf.msix_frame]
@[simp] theorem Leaf.msix_freeIdx (d : Leaf) (v : Nat) : (d.msix v).freeIdx = d.freeIdx := by rw [Leaf.msix_frame]
@[simp] theorem Leaf.msix_lanes (d : Leaf) (v : Nat) : (d.msix v).lanes = d.lanes := by rw [Leaf.msix_frame]
@[simp] theorem Leaf.msix_conv (d : Leaf) (v : Nat) : (d.msix v).conv = d.conv := by rw [Leaf.msix_frame]
@[simp] theorem Leaf.msix_tim (d : Leaf) (v : Nat) : (d.msix v).tim = d.tim := by rw [Leaf.msix_frame]
@[simp] theorem Leaf.msix_hnd (d : Leaf) (v : Nat) : (d.msix v).hnd = d.hnd := by rw [Leaf.msix_frame]
@[simp] theorem Leaf.msix_hng (d : Leaf) (v : Nat) : (d.msix v).hng = d.hng := by rw [Leaf.msix_frame]
@[simp] theorem Leaf.msix_flt (d : Leaf) (v : Nat) : (d.msix v).flt = d.flt := by rw [Leaf.msix_frame]
@[simp] theorem Leaf.msix_key (d : Leaf) (v : Nat) : (d.msix v).key = d.key := by rw [Leaf.msix_frame]
@[simp] theorem Leaf.msix_cyc (d : Leaf) (v : Nat) : (d.msix v).cyc = d.cyc := by rw [Leaf.msix_frame]
@[simp] theorem Leaf.msix_tiles (d : Leaf) (v : Nat) : (d.msix v).tiles = d.tiles := by rw [Leaf.msix_frame]
@[simp] theorem Leaf.msix_tum (d : Leaf) (v : Nat) : (d.msix v).tum = d.tum := by rw [Leaf.msix_frame]
@[simp] theorem Leaf.msix_fab (d : Leaf) (v : Nat) : (d.msix v).fab = d.fab := by rw [Leaf.msix_frame]
@[simp] theorem Leaf.msix_prof (d : Leaf) (v : Nat) : (d.msix v).prof = d.prof := by rw [Leaf.msix_frame]
@[simp] theorem Leaf.msix_pwr (d : Leaf) (v : Nat) : (d.msix v).pwr = d.pwr := by rw [Leaf.msix_frame]
@[simp] theorem Leaf.msix_upd (d : Leaf) (v : Nat) : (d.msix v).upd = d.upd := by rw [Leaf.msix_frame]
@[simp] theorem Leaf.msix_sch (d : Leaf) (v : Nat) : (d.msix v).sch = d.sch := by rw [Leaf.msix_frame]
@[simp] theorem Leaf.msix_rcd (d : Leaf) (v : Nat) : (d.msix v).rcd = d.rcd := by rw [Leaf.msix_frame]
@[simp] theorem Leaf.msix_disc (d : Leaf) (v : Nat) : (d.msix v).disc = d.disc := by rw [Leaf.msix_frame]
@[simp] theorem Leaf.msix_saf (d : Leaf) (v : Nat) : (d.msix v).saf = d.saf := by rw [Leaf.msix_frame]
@[simp] theorem Leaf.rd_msix (d : Leaf) (v : Nat) (g : Fld) (j : Nat) : (d.msix v).rd g j = d.rd g j := by
  simp only [Leaf.rd, Leaf.msix_bank]
@[simp] theorem Leaf.is_msix (d : Leaf) (v : Nat) (g : Fld) (j : Nat) : (d.msix v).is g j = d.is g j := by
  simp only [Leaf.is, Leaf.rd_msix]

theorem Leaf.mirror_frame (d : Leaf) (m : MirrorMsg) :
    d.mirror m = { d with lanes := (d.mirror m).lanes, out := (d.mirror m).out } := by
  unfold Leaf.mirror
  split
  · exact d.emit_frame _
  · rfl

@[simp] theorem Leaf.mirror_ident (d : Leaf) (m : MirrorMsg) : (d.mirror m).ident = d.ident := by rw [Leaf.mirror_frame]
@[simp] theorem Leaf.mirror_bank (d : Leaf) (m : MirrorMsg) : (d.mirror m).bank = d.bank := by rw [Leaf.mirror_frame]
@[simp] theorem Leaf.mirror_shadow (d : Leaf) (m : MirrorMsg) : (d.mirror m).shadow = d.shadow := by rw [Leaf.mirror_frame]
@[simp] theorem Leaf.mirror_hold (d : Leaf) (m : MirrorMsg) : (d.mirror m).hold = d.hold := by rw [Leaf.mirror_frame]
@[simp] theorem Leaf.mirror_rdata (d : Leaf) (m : MirrorMsg) : (d.mirror m).rdata = d.rdata := by rw [Leaf.mirror_frame]
@[simp] theorem Leaf.mirror_freeIdx (d : Leaf) (m : MirrorMsg) : (d.mirror m).freeIdx = d.freeIdx := by rw [Leaf.mirror_frame]
@[simp] theorem Leaf.mirror_conv (d : Leaf) (m : MirrorMsg) : (d.mirror m).conv = d.conv := by rw [Leaf.mirror_frame]
@[simp] theorem Leaf.mirror_tim (d : Leaf) (m : MirrorMsg) : (d.mirror m).tim = d.tim := by rw [Leaf.mirror_frame]
@[simp] theorem Leaf.mirror_hnd (d : Leaf) (m : MirrorMsg) : (d.mirror m).hnd = d.hnd := by rw [Leaf.mirror_frame]
@[simp] theorem Leaf.mirror_hng (d : Leaf) (m : MirrorMsg) : (d.mirror m).hng = d.hng := by rw [Leaf.mirror_frame]
@[simp] theorem Leaf.mirror_flt (d : Leaf) (m : MirrorMsg) : (d.mirror m).flt = d.flt := by rw [Leaf.mirror_frame]
@[simp] theorem Leaf.mirror_key (d : Leaf) (m : MirrorMsg) : (d.mirror m).key = d.key := by rw [Leaf.mirror_frame]
@[simp] theorem Leaf.mirror_cyc (d : Leaf) (m : MirrorMsg) : (d.mirror m).cyc = d.cyc := by rw [Leaf.mirror_frame]
@[simp] theorem Leaf.mirror_tiles (d : Leaf) (m : MirrorMsg) : (d.mirror m).tiles = d.tiles := by rw [Leaf.mirror_frame]
@[simp] theorem Leaf.mirror_tum (d : Leaf) (m : MirrorMsg) : (d.mirror m).tum = d.tum := by rw [Leaf.mirror_frame]
@[simp] theorem Leaf.mirror_fab (d : Leaf) (m : MirrorMsg) : (d.mirror m).fab = d.fab := by rw [Leaf.mirror_frame]
@[simp] theorem Leaf.mirror_prof (d : Leaf) (m : MirrorMsg) : (d.mirror m).prof = d.prof := by rw [Leaf.mirror_frame]
@[simp] theorem Leaf.mirror_pwr (d : Leaf) (m : MirrorMsg) : (d.mirror m).pwr = d.pwr := by rw [Leaf.mirror_frame]
@[simp] theorem Leaf.mirror_upd (d : Leaf) (m : MirrorMsg) : (d.mirror m).upd = d.upd := by rw [Leaf.mirror_frame]
@[simp] theorem Leaf.mirror_sch (d : Leaf) (m : MirrorMsg) : (d.mirror m).sch = d.sch := by rw [Leaf.mirror_frame]
@[simp] theorem Leaf.mirror_rcd (d : Leaf) (m : MirrorMsg) : (d.mirror m).rcd = d.rcd := by rw [Leaf.mirror_frame]
@[simp] theorem Leaf.mirror_disc (d : Leaf) (m : MirrorMsg) : (d.mirror m).disc = d.disc := by rw [Leaf.mirror_frame]
@[simp] theorem Leaf.mirror_saf (d : Leaf) (m : MirrorMsg) : (d.mirror m).saf = d.saf := by rw [Leaf.mirror_frame]
@[simp] theorem Leaf.rd_mirror (d : Leaf) (m : MirrorMsg) (g : Fld) (j : Nat) : (d.mirror m).rd g j = d.rd g j := by
  simp only [Leaf.rd, Leaf.mirror_bank]
@[simp] theorem Leaf.is_mirror (d : Leaf) (m : MirrorMsg) (g : Fld) (j : Nat) : (d.mirror m).is g j = d.is g j := by
  simp only [Leaf.is, Leaf.rd_mirror]

theorem Leaf.remoteFrame_frame (d : Leaf) (n : Conc) (h : Nat) (write : Bool) (off val mask cell : Nat) :
    d.remoteFrame n h write off val mask cell = { d with lanes := (d.remoteFrame n h write off val mask cell).lanes, out := (d.remoteFrame n h write off val mask cell).out } := d.emit_frame _

@[simp] theorem Leaf.remoteFrame_ident (d : Leaf) (n : Conc) (h : Nat) (write : Bool) (off val mask cell : Nat) : (d.remoteFrame n h write off val mask cell).ident = d.ident := by rw [Leaf.remoteFrame_frame]
@[simp] theorem Leaf.remoteFrame_bank (d : Leaf) (n : Conc) (h : Nat) (write : Bool) (off val mask cell : Nat) : (d.remoteFrame n h write off val mask cell).bank = d.bank := by rw [Leaf.remoteFrame_frame]
@[simp] theorem Leaf.remoteFrame_shadow (d : Leaf) (n : Conc) (h : Nat) (write : Bool) (off val mask cell : Nat) : (d.remoteFrame n h write off val mask cell).shadow = d.shadow := by rw [Leaf.remoteFrame_frame]
@[simp] theorem Leaf.remoteFrame_hold (d : Leaf) (n : Conc) (h : Nat) (write : Bool) (off val mask cell : Nat) : (d.remoteFrame n h write off val mask cell).hold = d.hold := by rw [Leaf.remoteFrame_frame]
@[simp] theorem Leaf.remoteFrame_rdata (d : Leaf) (n : Conc) (h : Nat) (write : Bool) (off val mask cell : Nat) : (d.remoteFrame n h write off val mask cell).rdata = d.rdata := by rw [Leaf.remoteFrame_frame]
@[simp] theorem Leaf.remoteFrame_freeIdx (d : Leaf) (n : Conc) (h : Nat) (write : Bool) (off val mask cell : Nat) : (d.remoteFrame n h write off val mask cell).freeIdx = d.freeIdx := by rw [Leaf.remoteFrame_frame]
@[simp] theorem Leaf.remoteFrame_conv (d : Leaf) (n : Conc) (h : Nat) (write : Bool) (off val mask cell : Nat) : (d.remoteFrame n h write off val mask cell).conv = d.conv := by rw [Leaf.remoteFrame_frame]
@[simp] theorem Leaf.remoteFrame_tim (d : Leaf) (n : Conc) (h : Nat) (write : Bool) (off val mask cell : Nat) : (d.remoteFrame n h write off val mask cell).tim = d.tim := by rw [Leaf.remoteFrame_frame]
@[simp] theorem Leaf.remoteFrame_hnd (d : Leaf) (n : Conc) (h : Nat) (write : Bool) (off val mask cell : Nat) : (d.remoteFrame n h write off val mask cell).hnd = d.hnd := by rw [Leaf.remoteFrame_frame]
@[simp] theorem Leaf.remoteFrame_hng (d : Leaf) (n : Conc) (h : Nat) (write : Bool) (off val mask cell : Nat) : (d.remoteFrame n h write off val mask cell).hng = d.hng := by rw [Leaf.remoteFrame_frame]
@[simp] theorem Leaf.remoteFrame_flt (d : Leaf) (n : Conc) (h : Nat) (write : Bool) (off val mask cell : Nat) : (d.remoteFrame n h write off val mask cell).flt = d.flt := by rw [Leaf.remoteFrame_frame]
@[simp] theorem Leaf.remoteFrame_key (d : Leaf) (n : Conc) (h : Nat) (write : Bool) (off val mask cell : Nat) : (d.remoteFrame n h write off val mask cell).key = d.key := by rw [Leaf.remoteFrame_frame]
@[simp] theorem Leaf.remoteFrame_cyc (d : Leaf) (n : Conc) (h : Nat) (write : Bool) (off val mask cell : Nat) : (d.remoteFrame n h write off val mask cell).cyc = d.cyc := by rw [Leaf.remoteFrame_frame]
@[simp] theorem Leaf.remoteFrame_tiles (d : Leaf) (n : Conc) (h : Nat) (write : Bool) (off val mask cell : Nat) : (d.remoteFrame n h write off val mask cell).tiles = d.tiles := by rw [Leaf.remoteFrame_frame]
@[simp] theorem Leaf.remoteFrame_tum (d : Leaf) (n : Conc) (h : Nat) (write : Bool) (off val mask cell : Nat) : (d.remoteFrame n h write off val mask cell).tum = d.tum := by rw [Leaf.remoteFrame_frame]
@[simp] theorem Leaf.remoteFrame_fab (d : Leaf) (n : Conc) (h : Nat) (write : Bool) (off val mask cell : Nat) : (d.remoteFrame n h write off val mask cell).fab = d.fab := by rw [Leaf.remoteFrame_frame]
@[simp] theorem Leaf.remoteFrame_prof (d : Leaf) (n : Conc) (h : Nat) (write : Bool) (off val mask cell : Nat) : (d.remoteFrame n h write off val mask cell).prof = d.prof := by rw [Leaf.remoteFrame_frame]
@[simp] theorem Leaf.remoteFrame_pwr (d : Leaf) (n : Conc) (h : Nat) (write : Bool) (off val mask cell : Nat) : (d.remoteFrame n h write off val mask cell).pwr = d.pwr := by rw [Leaf.remoteFrame_frame]
@[simp] theorem Leaf.remoteFrame_upd (d : Leaf) (n : Conc) (h : Nat) (write : Bool) (off val mask cell : Nat) : (d.remoteFrame n h write off val mask cell).upd = d.upd := by rw [Leaf.remoteFrame_frame]
@[simp] theorem Leaf.remoteFrame_sch (d : Leaf) (n : Conc) (h : Nat) (write : Bool) (off val mask cell : Nat) : (d.remoteFrame n h write off val mask cell).sch = d.sch := by rw [Leaf.remoteFrame_frame]
@[simp] theorem Leaf.remoteFrame_rcd (d : Leaf) (n : Conc) (h : Nat) (write : Bool) (off val mask cell : Nat) : (d.remoteFrame n h write off val mask cell).rcd = d.rcd := by rw [Leaf.remoteFrame_frame]
@[simp] theorem Leaf.remoteFrame_disc (d : Leaf) (n : Conc) (h : Nat) (write : Bool) (off val mask cell : Nat) : (d.remoteFrame n h write off val mask cell).disc = d.disc := by rw [Leaf.remoteFrame_frame]
@[simp] theorem Leaf.remoteFrame_saf (d : Leaf) (n : Conc) (h : Nat) (write : Bool) (off val mask cell : Nat) : (d.remoteFrame n h write off val mask cell).saf = d.saf := by rw [Leaf.remoteFrame_frame]
@[simp] theorem Leaf.rd_remoteFrame (d : Leaf) (n : Conc) (h : Nat) (write : Bool) (off val mask cell : Nat) (g : Fld) (j : Nat) : (d.remoteFrame n h write off val mask cell).rd g j = d.rd g j := by
  simp only [Leaf.rd, Leaf.remoteFrame_bank]
@[simp] theorem Leaf.is_remoteFrame (d : Leaf) (n : Conc) (h : Nat) (write : Bool) (off val mask cell : Nat) (g : Fld) (j : Nat) : (d.remoteFrame n h write off val mask cell).is g j = d.is g j := by
  simp only [Leaf.is, Leaf.rd_remoteFrame]

theorem Leaf.concWrite_frame (d : Leaf) (n off val mask : Nat) :
    d.concWrite n off val mask = { d with lanes := (d.concWrite n off val mask).lanes, out := (d.concWrite n off val mask).out } := by
  unfold Leaf.concWrite
  split
  · exact d.remoteFrame_frame _ _ _ _ _ _ _
  · rfl

@[simp] theorem Leaf.concWrite_ident (d : Leaf) (n off val mask : Nat) : (d.concWrite n off val mask).ident = d.ident := by rw [Leaf.concWrite_frame]
@[simp] theorem Leaf.concWrite_bank (d : Leaf) (n off val mask : Nat) : (d.concWrite n off val mask).bank = d.bank := by rw [Leaf.concWrite_frame]
@[simp] theorem Leaf.concWrite_shadow (d : Leaf) (n off val mask : Nat) : (d.concWrite n off val mask).shadow = d.shadow := by rw [Leaf.concWrite_frame]
@[simp] theorem Leaf.concWrite_hold (d : Leaf) (n off val mask : Nat) : (d.concWrite n off val mask).hold = d.hold := by rw [Leaf.concWrite_frame]
@[simp] theorem Leaf.concWrite_rdata (d : Leaf) (n off val mask : Nat) : (d.concWrite n off val mask).rdata = d.rdata := by rw [Leaf.concWrite_frame]
@[simp] theorem Leaf.concWrite_freeIdx (d : Leaf) (n off val mask : Nat) : (d.concWrite n off val mask).freeIdx = d.freeIdx := by rw [Leaf.concWrite_frame]
@[simp] theorem Leaf.concWrite_conv (d : Leaf) (n off val mask : Nat) : (d.concWrite n off val mask).conv = d.conv := by rw [Leaf.concWrite_frame]
@[simp] theorem Leaf.concWrite_tim (d : Leaf) (n off val mask : Nat) : (d.concWrite n off val mask).tim = d.tim := by rw [Leaf.concWrite_frame]
@[simp] theorem Leaf.concWrite_hnd (d : Leaf) (n off val mask : Nat) : (d.concWrite n off val mask).hnd = d.hnd := by rw [Leaf.concWrite_frame]
@[simp] theorem Leaf.concWrite_hng (d : Leaf) (n off val mask : Nat) : (d.concWrite n off val mask).hng = d.hng := by rw [Leaf.concWrite_frame]
@[simp] theorem Leaf.concWrite_flt (d : Leaf) (n off val mask : Nat) : (d.concWrite n off val mask).flt = d.flt := by rw [Leaf.concWrite_frame]
@[simp] theorem Leaf.concWrite_key (d : Leaf) (n off val mask : Nat) : (d.concWrite n off val mask).key = d.key := by rw [Leaf.concWrite_frame]
@[simp] theorem Leaf.concWrite_cyc (d : Leaf) (n off val mask : Nat) : (d.concWrite n off val mask).cyc = d.cyc := by rw [Leaf.concWrite_frame]
@[simp] theorem Leaf.concWrite_tiles (d : Leaf) (n off val mask : Nat) : (d.concWrite n off val mask).tiles = d.tiles := by rw [Leaf.concWrite_frame]
@[simp] theorem Leaf.concWrite_tum (d : Leaf) (n off val mask : Nat) : (d.concWrite n off val mask).tum = d.tum := by rw [Leaf.concWrite_frame]
@[simp] theorem Leaf.concWrite_fab (d : Leaf) (n off val mask : Nat) : (d.concWrite n off val mask).fab = d.fab := by rw [Leaf.concWrite_frame]
@[simp] theorem Leaf.concWrite_prof (d : Leaf) (n off val mask : Nat) : (d.concWrite n off val mask).prof = d.prof := by rw [Leaf.concWrite_frame]
@[simp] theorem Leaf.concWrite_pwr (d : Leaf) (n off val mask : Nat) : (d.concWrite n off val mask).pwr = d.pwr := by rw [Leaf.concWrite_frame]
@[simp] theorem Leaf.concWrite_upd (d : Leaf) (n off val mask : Nat) : (d.concWrite n off val mask).upd = d.upd := by rw [Leaf.concWrite_frame]
@[simp] theorem Leaf.concWrite_sch (d : Leaf) (n off val mask : Nat) : (d.concWrite n off val mask).sch = d.sch := by rw [Leaf.concWrite_frame]
@[simp] theorem Leaf.concWrite_rcd (d : Leaf) (n off val mask : Nat) : (d.concWrite n off val mask).rcd = d.rcd := by rw [Leaf.concWrite_frame]
@[simp] theorem Leaf.concWrite_disc (d : Leaf) (n off val mask : Nat) : (d.concWrite n off val mask).disc = d.disc := by rw [Leaf.concWrite_frame]
@[simp] theorem Leaf.concWrite_saf (d : Leaf) (n off val mask : Nat) : (d.concWrite n off val mask).saf = d.saf := by rw [Leaf.concWrite_frame]
@[simp] theorem Leaf.rd_concWrite (d : Leaf) (n off val mask : Nat) (g : Fld) (j : Nat) : (d.concWrite n off val mask).rd g j = d.rd g j := by
  simp only [Leaf.rd, Leaf.concWrite_bank]
@[simp] theorem Leaf.is_concWrite (d : Leaf) (n off val mask : Nat) (g : Fld) (j : Nat) : (d.concWrite n off val mask).is g j = d.is g j := by
  simp only [Leaf.is, Leaf.rd_concWrite]

/-! ## Faults (14_faults.md) -/

theorem Leaf.fltRefresh_frame (d : Leaf) :
    d.fltRefresh = { d with bank := (d.fltRefresh).bank } := rfl

@[simp] theorem Leaf.fltRefresh_ident (d : Leaf) : (d.fltRefresh).ident = d.ident := by rw [Leaf.fltRefresh_frame]
@[simp] theorem Leaf.fltRefresh_shadow (d : Leaf) : (d.fltRefresh).shadow = d.shadow := by rw [Leaf.fltRefresh_frame]
@[simp] theorem Leaf.fltRefresh_hold (d : Leaf) : (d.fltRefresh).hold = d.hold := by rw [Leaf.fltRefresh_frame]
@[simp] theorem Leaf.fltRefresh_rdata (d : Leaf) : (d.fltRefresh).rdata = d.rdata := by rw [Leaf.fltRefresh_frame]
@[simp] theorem Leaf.fltRefresh_out (d : Leaf) : (d.fltRefresh).out = d.out := by rw [Leaf.fltRefresh_frame]
@[simp] theorem Leaf.fltRefresh_freeIdx (d : Leaf) : (d.fltRefresh).freeIdx = d.freeIdx := by rw [Leaf.fltRefresh_frame]
@[simp] theorem Leaf.fltRefresh_lanes (d : Leaf) : (d.fltRefresh).lanes = d.lanes := by rw [Leaf.fltRefresh_frame]
@[simp] theorem Leaf.fltRefresh_conv (d : Leaf) : (d.fltRefresh).conv = d.conv := by rw [Leaf.fltRefresh_frame]
@[simp] theorem Leaf.fltRefresh_tim (d : Leaf) : (d.fltRefresh).tim = d.tim := by rw [Leaf.fltRefresh_frame]
@[simp] theorem Leaf.fltRefresh_hnd (d : Leaf) : (d.fltRefresh).hnd = d.hnd := by rw [Leaf.fltRefresh_frame]
@[simp] theorem Leaf.fltRefresh_hng (d : Leaf) : (d.fltRefresh).hng = d.hng := by rw [Leaf.fltRefresh_frame]
@[simp] theorem Leaf.fltRefresh_flt (d : Leaf) : (d.fltRefresh).flt = d.flt := by rw [Leaf.fltRefresh_frame]
@[simp] theorem Leaf.fltRefresh_key (d : Leaf) : (d.fltRefresh).key = d.key := by rw [Leaf.fltRefresh_frame]
@[simp] theorem Leaf.fltRefresh_cyc (d : Leaf) : (d.fltRefresh).cyc = d.cyc := by rw [Leaf.fltRefresh_frame]
@[simp] theorem Leaf.fltRefresh_tiles (d : Leaf) : (d.fltRefresh).tiles = d.tiles := by rw [Leaf.fltRefresh_frame]
@[simp] theorem Leaf.fltRefresh_tum (d : Leaf) : (d.fltRefresh).tum = d.tum := by rw [Leaf.fltRefresh_frame]
@[simp] theorem Leaf.fltRefresh_fab (d : Leaf) : (d.fltRefresh).fab = d.fab := by rw [Leaf.fltRefresh_frame]
@[simp] theorem Leaf.fltRefresh_prof (d : Leaf) : (d.fltRefresh).prof = d.prof := by rw [Leaf.fltRefresh_frame]
@[simp] theorem Leaf.fltRefresh_pwr (d : Leaf) : (d.fltRefresh).pwr = d.pwr := by rw [Leaf.fltRefresh_frame]
@[simp] theorem Leaf.fltRefresh_upd (d : Leaf) : (d.fltRefresh).upd = d.upd := by rw [Leaf.fltRefresh_frame]
@[simp] theorem Leaf.fltRefresh_sch (d : Leaf) : (d.fltRefresh).sch = d.sch := by rw [Leaf.fltRefresh_frame]
@[simp] theorem Leaf.fltRefresh_rcd (d : Leaf) : (d.fltRefresh).rcd = d.rcd := by rw [Leaf.fltRefresh_frame]
@[simp] theorem Leaf.fltRefresh_disc (d : Leaf) : (d.fltRefresh).disc = d.disc := by rw [Leaf.fltRefresh_frame]
@[simp] theorem Leaf.fltRefresh_saf (d : Leaf) : (d.fltRefresh).saf = d.saf := by rw [Leaf.fltRefresh_frame]

theorem Leaf.latchDeadbolt_frame (d : Leaf) (code : Nat) :
    d.latchDeadbolt code = { d with bank := (d.latchDeadbolt code).bank, conv := (d.latchDeadbolt code).conv, out := (d.latchDeadbolt code).out } := by
  unfold Leaf.latchDeadbolt
  simp only []
  split <;> rfl

@[simp] theorem Leaf.latchDeadbolt_ident (d : Leaf) (code : Nat) : (d.latchDeadbolt code).ident = d.ident := by rw [Leaf.latchDeadbolt_frame]
@[simp] theorem Leaf.latchDeadbolt_shadow (d : Leaf) (code : Nat) : (d.latchDeadbolt code).shadow = d.shadow := by rw [Leaf.latchDeadbolt_frame]
@[simp] theorem Leaf.latchDeadbolt_hold (d : Leaf) (code : Nat) : (d.latchDeadbolt code).hold = d.hold := by rw [Leaf.latchDeadbolt_frame]
@[simp] theorem Leaf.latchDeadbolt_rdata (d : Leaf) (code : Nat) : (d.latchDeadbolt code).rdata = d.rdata := by rw [Leaf.latchDeadbolt_frame]
@[simp] theorem Leaf.latchDeadbolt_freeIdx (d : Leaf) (code : Nat) : (d.latchDeadbolt code).freeIdx = d.freeIdx := by rw [Leaf.latchDeadbolt_frame]
@[simp] theorem Leaf.latchDeadbolt_lanes (d : Leaf) (code : Nat) : (d.latchDeadbolt code).lanes = d.lanes := by rw [Leaf.latchDeadbolt_frame]
@[simp] theorem Leaf.latchDeadbolt_tim (d : Leaf) (code : Nat) : (d.latchDeadbolt code).tim = d.tim := by rw [Leaf.latchDeadbolt_frame]
@[simp] theorem Leaf.latchDeadbolt_hnd (d : Leaf) (code : Nat) : (d.latchDeadbolt code).hnd = d.hnd := by rw [Leaf.latchDeadbolt_frame]
@[simp] theorem Leaf.latchDeadbolt_hng (d : Leaf) (code : Nat) : (d.latchDeadbolt code).hng = d.hng := by rw [Leaf.latchDeadbolt_frame]
@[simp] theorem Leaf.latchDeadbolt_flt (d : Leaf) (code : Nat) : (d.latchDeadbolt code).flt = d.flt := by rw [Leaf.latchDeadbolt_frame]
@[simp] theorem Leaf.latchDeadbolt_key (d : Leaf) (code : Nat) : (d.latchDeadbolt code).key = d.key := by rw [Leaf.latchDeadbolt_frame]
@[simp] theorem Leaf.latchDeadbolt_cyc (d : Leaf) (code : Nat) : (d.latchDeadbolt code).cyc = d.cyc := by rw [Leaf.latchDeadbolt_frame]
@[simp] theorem Leaf.latchDeadbolt_tiles (d : Leaf) (code : Nat) : (d.latchDeadbolt code).tiles = d.tiles := by rw [Leaf.latchDeadbolt_frame]
@[simp] theorem Leaf.latchDeadbolt_tum (d : Leaf) (code : Nat) : (d.latchDeadbolt code).tum = d.tum := by rw [Leaf.latchDeadbolt_frame]
@[simp] theorem Leaf.latchDeadbolt_fab (d : Leaf) (code : Nat) : (d.latchDeadbolt code).fab = d.fab := by rw [Leaf.latchDeadbolt_frame]
@[simp] theorem Leaf.latchDeadbolt_prof (d : Leaf) (code : Nat) : (d.latchDeadbolt code).prof = d.prof := by rw [Leaf.latchDeadbolt_frame]
@[simp] theorem Leaf.latchDeadbolt_pwr (d : Leaf) (code : Nat) : (d.latchDeadbolt code).pwr = d.pwr := by rw [Leaf.latchDeadbolt_frame]
@[simp] theorem Leaf.latchDeadbolt_upd (d : Leaf) (code : Nat) : (d.latchDeadbolt code).upd = d.upd := by rw [Leaf.latchDeadbolt_frame]
@[simp] theorem Leaf.latchDeadbolt_sch (d : Leaf) (code : Nat) : (d.latchDeadbolt code).sch = d.sch := by rw [Leaf.latchDeadbolt_frame]
@[simp] theorem Leaf.latchDeadbolt_rcd (d : Leaf) (code : Nat) : (d.latchDeadbolt code).rcd = d.rcd := by rw [Leaf.latchDeadbolt_frame]
@[simp] theorem Leaf.latchDeadbolt_disc (d : Leaf) (code : Nat) : (d.latchDeadbolt code).disc = d.disc := by rw [Leaf.latchDeadbolt_frame]
@[simp] theorem Leaf.latchDeadbolt_saf (d : Leaf) (code : Nat) : (d.latchDeadbolt code).saf = d.saf := by rw [Leaf.latchDeadbolt_frame]

theorem Leaf.fltCount_frame (d : Leaf) (cls : FaultClass) (p : Placed) :
    d.fltCount cls p = { d with bank := (d.fltCount cls p).bank, out := (d.fltCount cls p).out } := by
  unfold Leaf.fltCount
  split
  · rfl
  · split <;> rfl
  · split <;> rfl
  · split <;> rfl

@[simp] theorem Leaf.fltCount_ident (d : Leaf) (cls : FaultClass) (p : Placed) : (d.fltCount cls p).ident = d.ident := by rw [Leaf.fltCount_frame]
@[simp] theorem Leaf.fltCount_shadow (d : Leaf) (cls : FaultClass) (p : Placed) : (d.fltCount cls p).shadow = d.shadow := by rw [Leaf.fltCount_frame]
@[simp] theorem Leaf.fltCount_hold (d : Leaf) (cls : FaultClass) (p : Placed) : (d.fltCount cls p).hold = d.hold := by rw [Leaf.fltCount_frame]
@[simp] theorem Leaf.fltCount_rdata (d : Leaf) (cls : FaultClass) (p : Placed) : (d.fltCount cls p).rdata = d.rdata := by rw [Leaf.fltCount_frame]
@[simp] theorem Leaf.fltCount_freeIdx (d : Leaf) (cls : FaultClass) (p : Placed) : (d.fltCount cls p).freeIdx = d.freeIdx := by rw [Leaf.fltCount_frame]
@[simp] theorem Leaf.fltCount_lanes (d : Leaf) (cls : FaultClass) (p : Placed) : (d.fltCount cls p).lanes = d.lanes := by rw [Leaf.fltCount_frame]
@[simp] theorem Leaf.fltCount_conv (d : Leaf) (cls : FaultClass) (p : Placed) : (d.fltCount cls p).conv = d.conv := by rw [Leaf.fltCount_frame]
@[simp] theorem Leaf.fltCount_tim (d : Leaf) (cls : FaultClass) (p : Placed) : (d.fltCount cls p).tim = d.tim := by rw [Leaf.fltCount_frame]
@[simp] theorem Leaf.fltCount_hnd (d : Leaf) (cls : FaultClass) (p : Placed) : (d.fltCount cls p).hnd = d.hnd := by rw [Leaf.fltCount_frame]
@[simp] theorem Leaf.fltCount_hng (d : Leaf) (cls : FaultClass) (p : Placed) : (d.fltCount cls p).hng = d.hng := by rw [Leaf.fltCount_frame]
@[simp] theorem Leaf.fltCount_flt (d : Leaf) (cls : FaultClass) (p : Placed) : (d.fltCount cls p).flt = d.flt := by rw [Leaf.fltCount_frame]
@[simp] theorem Leaf.fltCount_key (d : Leaf) (cls : FaultClass) (p : Placed) : (d.fltCount cls p).key = d.key := by rw [Leaf.fltCount_frame]
@[simp] theorem Leaf.fltCount_cyc (d : Leaf) (cls : FaultClass) (p : Placed) : (d.fltCount cls p).cyc = d.cyc := by rw [Leaf.fltCount_frame]
@[simp] theorem Leaf.fltCount_tiles (d : Leaf) (cls : FaultClass) (p : Placed) : (d.fltCount cls p).tiles = d.tiles := by rw [Leaf.fltCount_frame]
@[simp] theorem Leaf.fltCount_tum (d : Leaf) (cls : FaultClass) (p : Placed) : (d.fltCount cls p).tum = d.tum := by rw [Leaf.fltCount_frame]
@[simp] theorem Leaf.fltCount_fab (d : Leaf) (cls : FaultClass) (p : Placed) : (d.fltCount cls p).fab = d.fab := by rw [Leaf.fltCount_frame]
@[simp] theorem Leaf.fltCount_prof (d : Leaf) (cls : FaultClass) (p : Placed) : (d.fltCount cls p).prof = d.prof := by rw [Leaf.fltCount_frame]
@[simp] theorem Leaf.fltCount_pwr (d : Leaf) (cls : FaultClass) (p : Placed) : (d.fltCount cls p).pwr = d.pwr := by rw [Leaf.fltCount_frame]
@[simp] theorem Leaf.fltCount_upd (d : Leaf) (cls : FaultClass) (p : Placed) : (d.fltCount cls p).upd = d.upd := by rw [Leaf.fltCount_frame]
@[simp] theorem Leaf.fltCount_sch (d : Leaf) (cls : FaultClass) (p : Placed) : (d.fltCount cls p).sch = d.sch := by rw [Leaf.fltCount_frame]
@[simp] theorem Leaf.fltCount_rcd (d : Leaf) (cls : FaultClass) (p : Placed) : (d.fltCount cls p).rcd = d.rcd := by rw [Leaf.fltCount_frame]
@[simp] theorem Leaf.fltCount_disc (d : Leaf) (cls : FaultClass) (p : Placed) : (d.fltCount cls p).disc = d.disc := by rw [Leaf.fltCount_frame]
@[simp] theorem Leaf.fltCount_saf (d : Leaf) (cls : FaultClass) (p : Placed) : (d.fltCount cls p).saf = d.saf := by rw [Leaf.fltCount_frame]

theorem Leaf.fltReact_frame (d : Leaf) (e : FaultRec) :
    d.fltReact e = { d with bank := (d.fltReact e).bank, out := (d.fltReact e).out, conv := (d.fltReact e).conv } := by
  unfold Leaf.fltReact
  split
  · split <;> rfl
  · exact d.latchDeadbolt_frame _
  · rfl

@[simp] theorem Leaf.fltReact_ident (d : Leaf) (e : FaultRec) : (d.fltReact e).ident = d.ident := by rw [Leaf.fltReact_frame]
@[simp] theorem Leaf.fltReact_shadow (d : Leaf) (e : FaultRec) : (d.fltReact e).shadow = d.shadow := by rw [Leaf.fltReact_frame]
@[simp] theorem Leaf.fltReact_hold (d : Leaf) (e : FaultRec) : (d.fltReact e).hold = d.hold := by rw [Leaf.fltReact_frame]
@[simp] theorem Leaf.fltReact_rdata (d : Leaf) (e : FaultRec) : (d.fltReact e).rdata = d.rdata := by rw [Leaf.fltReact_frame]
@[simp] theorem Leaf.fltReact_freeIdx (d : Leaf) (e : FaultRec) : (d.fltReact e).freeIdx = d.freeIdx := by rw [Leaf.fltReact_frame]
@[simp] theorem Leaf.fltReact_lanes (d : Leaf) (e : FaultRec) : (d.fltReact e).lanes = d.lanes := by rw [Leaf.fltReact_frame]
@[simp] theorem Leaf.fltReact_tim (d : Leaf) (e : FaultRec) : (d.fltReact e).tim = d.tim := by rw [Leaf.fltReact_frame]
@[simp] theorem Leaf.fltReact_hnd (d : Leaf) (e : FaultRec) : (d.fltReact e).hnd = d.hnd := by rw [Leaf.fltReact_frame]
@[simp] theorem Leaf.fltReact_hng (d : Leaf) (e : FaultRec) : (d.fltReact e).hng = d.hng := by rw [Leaf.fltReact_frame]
@[simp] theorem Leaf.fltReact_flt (d : Leaf) (e : FaultRec) : (d.fltReact e).flt = d.flt := by rw [Leaf.fltReact_frame]
@[simp] theorem Leaf.fltReact_key (d : Leaf) (e : FaultRec) : (d.fltReact e).key = d.key := by rw [Leaf.fltReact_frame]
@[simp] theorem Leaf.fltReact_cyc (d : Leaf) (e : FaultRec) : (d.fltReact e).cyc = d.cyc := by rw [Leaf.fltReact_frame]
@[simp] theorem Leaf.fltReact_tiles (d : Leaf) (e : FaultRec) : (d.fltReact e).tiles = d.tiles := by rw [Leaf.fltReact_frame]
@[simp] theorem Leaf.fltReact_tum (d : Leaf) (e : FaultRec) : (d.fltReact e).tum = d.tum := by rw [Leaf.fltReact_frame]
@[simp] theorem Leaf.fltReact_fab (d : Leaf) (e : FaultRec) : (d.fltReact e).fab = d.fab := by rw [Leaf.fltReact_frame]
@[simp] theorem Leaf.fltReact_prof (d : Leaf) (e : FaultRec) : (d.fltReact e).prof = d.prof := by rw [Leaf.fltReact_frame]
@[simp] theorem Leaf.fltReact_pwr (d : Leaf) (e : FaultRec) : (d.fltReact e).pwr = d.pwr := by rw [Leaf.fltReact_frame]
@[simp] theorem Leaf.fltReact_upd (d : Leaf) (e : FaultRec) : (d.fltReact e).upd = d.upd := by rw [Leaf.fltReact_frame]
@[simp] theorem Leaf.fltReact_sch (d : Leaf) (e : FaultRec) : (d.fltReact e).sch = d.sch := by rw [Leaf.fltReact_frame]
@[simp] theorem Leaf.fltReact_rcd (d : Leaf) (e : FaultRec) : (d.fltReact e).rcd = d.rcd := by rw [Leaf.fltReact_frame]
@[simp] theorem Leaf.fltReact_disc (d : Leaf) (e : FaultRec) : (d.fltReact e).disc = d.disc := by rw [Leaf.fltReact_frame]
@[simp] theorem Leaf.fltReact_saf (d : Leaf) (e : FaultRec) : (d.fltReact e).saf = d.saf := by rw [Leaf.fltReact_frame]

theorem Leaf.raiseRec_frame (d : Leaf) (e : FaultRec) :
    d.raiseRec e = { d with bank := (d.raiseRec e).bank, flt := (d.raiseRec e).flt, out := (d.raiseRec e).out, conv := (d.raiseRec e).conv } := by
  apply Leaf.ext <;> first | rfl | (unfold Leaf.raiseRec; simp only []; (repeat' split) <;> simp)

@[simp] theorem Leaf.raiseRec_ident (d : Leaf) (e : FaultRec) : (d.raiseRec e).ident = d.ident := by rw [Leaf.raiseRec_frame]
@[simp] theorem Leaf.raiseRec_shadow (d : Leaf) (e : FaultRec) : (d.raiseRec e).shadow = d.shadow := by rw [Leaf.raiseRec_frame]
@[simp] theorem Leaf.raiseRec_hold (d : Leaf) (e : FaultRec) : (d.raiseRec e).hold = d.hold := by rw [Leaf.raiseRec_frame]
@[simp] theorem Leaf.raiseRec_rdata (d : Leaf) (e : FaultRec) : (d.raiseRec e).rdata = d.rdata := by rw [Leaf.raiseRec_frame]
@[simp] theorem Leaf.raiseRec_freeIdx (d : Leaf) (e : FaultRec) : (d.raiseRec e).freeIdx = d.freeIdx := by rw [Leaf.raiseRec_frame]
@[simp] theorem Leaf.raiseRec_lanes (d : Leaf) (e : FaultRec) : (d.raiseRec e).lanes = d.lanes := by rw [Leaf.raiseRec_frame]
@[simp] theorem Leaf.raiseRec_tim (d : Leaf) (e : FaultRec) : (d.raiseRec e).tim = d.tim := by rw [Leaf.raiseRec_frame]
@[simp] theorem Leaf.raiseRec_hnd (d : Leaf) (e : FaultRec) : (d.raiseRec e).hnd = d.hnd := by rw [Leaf.raiseRec_frame]
@[simp] theorem Leaf.raiseRec_hng (d : Leaf) (e : FaultRec) : (d.raiseRec e).hng = d.hng := by rw [Leaf.raiseRec_frame]
@[simp] theorem Leaf.raiseRec_key (d : Leaf) (e : FaultRec) : (d.raiseRec e).key = d.key := by rw [Leaf.raiseRec_frame]
@[simp] theorem Leaf.raiseRec_cyc (d : Leaf) (e : FaultRec) : (d.raiseRec e).cyc = d.cyc := by rw [Leaf.raiseRec_frame]
@[simp] theorem Leaf.raiseRec_tiles (d : Leaf) (e : FaultRec) : (d.raiseRec e).tiles = d.tiles := by rw [Leaf.raiseRec_frame]
@[simp] theorem Leaf.raiseRec_tum (d : Leaf) (e : FaultRec) : (d.raiseRec e).tum = d.tum := by rw [Leaf.raiseRec_frame]
@[simp] theorem Leaf.raiseRec_fab (d : Leaf) (e : FaultRec) : (d.raiseRec e).fab = d.fab := by rw [Leaf.raiseRec_frame]
@[simp] theorem Leaf.raiseRec_prof (d : Leaf) (e : FaultRec) : (d.raiseRec e).prof = d.prof := by rw [Leaf.raiseRec_frame]
@[simp] theorem Leaf.raiseRec_pwr (d : Leaf) (e : FaultRec) : (d.raiseRec e).pwr = d.pwr := by rw [Leaf.raiseRec_frame]
@[simp] theorem Leaf.raiseRec_upd (d : Leaf) (e : FaultRec) : (d.raiseRec e).upd = d.upd := by rw [Leaf.raiseRec_frame]
@[simp] theorem Leaf.raiseRec_sch (d : Leaf) (e : FaultRec) : (d.raiseRec e).sch = d.sch := by rw [Leaf.raiseRec_frame]
@[simp] theorem Leaf.raiseRec_rcd (d : Leaf) (e : FaultRec) : (d.raiseRec e).rcd = d.rcd := by rw [Leaf.raiseRec_frame]
@[simp] theorem Leaf.raiseRec_disc (d : Leaf) (e : FaultRec) : (d.raiseRec e).disc = d.disc := by rw [Leaf.raiseRec_frame]
@[simp] theorem Leaf.raiseRec_saf (d : Leaf) (e : FaultRec) : (d.raiseRec e).saf = d.saf := by rw [Leaf.raiseRec_frame]

theorem Leaf.raise_frame (d : Leaf) (code : Nat) (cls : FaultClass) (inst cause detail : Nat) :
    d.raise code cls inst cause detail = { d with bank := (d.raise code cls inst cause detail).bank, flt := (d.raise code cls inst cause detail).flt, out := (d.raise code cls inst cause detail).out, conv := (d.raise code cls inst cause detail).conv } := d.raiseRec_frame _

@[simp] theorem Leaf.raise_ident (d : Leaf) (code : Nat) (cls : FaultClass) (inst cause detail : Nat) : (d.raise code cls inst cause detail).ident = d.ident := by rw [Leaf.raise_frame]
@[simp] theorem Leaf.raise_shadow (d : Leaf) (code : Nat) (cls : FaultClass) (inst cause detail : Nat) : (d.raise code cls inst cause detail).shadow = d.shadow := by rw [Leaf.raise_frame]
@[simp] theorem Leaf.raise_hold (d : Leaf) (code : Nat) (cls : FaultClass) (inst cause detail : Nat) : (d.raise code cls inst cause detail).hold = d.hold := by rw [Leaf.raise_frame]
@[simp] theorem Leaf.raise_rdata (d : Leaf) (code : Nat) (cls : FaultClass) (inst cause detail : Nat) : (d.raise code cls inst cause detail).rdata = d.rdata := by rw [Leaf.raise_frame]
@[simp] theorem Leaf.raise_freeIdx (d : Leaf) (code : Nat) (cls : FaultClass) (inst cause detail : Nat) : (d.raise code cls inst cause detail).freeIdx = d.freeIdx := by rw [Leaf.raise_frame]
@[simp] theorem Leaf.raise_lanes (d : Leaf) (code : Nat) (cls : FaultClass) (inst cause detail : Nat) : (d.raise code cls inst cause detail).lanes = d.lanes := by rw [Leaf.raise_frame]
@[simp] theorem Leaf.raise_tim (d : Leaf) (code : Nat) (cls : FaultClass) (inst cause detail : Nat) : (d.raise code cls inst cause detail).tim = d.tim := by rw [Leaf.raise_frame]
@[simp] theorem Leaf.raise_hnd (d : Leaf) (code : Nat) (cls : FaultClass) (inst cause detail : Nat) : (d.raise code cls inst cause detail).hnd = d.hnd := by rw [Leaf.raise_frame]
@[simp] theorem Leaf.raise_hng (d : Leaf) (code : Nat) (cls : FaultClass) (inst cause detail : Nat) : (d.raise code cls inst cause detail).hng = d.hng := by rw [Leaf.raise_frame]
@[simp] theorem Leaf.raise_key (d : Leaf) (code : Nat) (cls : FaultClass) (inst cause detail : Nat) : (d.raise code cls inst cause detail).key = d.key := by rw [Leaf.raise_frame]
@[simp] theorem Leaf.raise_cyc (d : Leaf) (code : Nat) (cls : FaultClass) (inst cause detail : Nat) : (d.raise code cls inst cause detail).cyc = d.cyc := by rw [Leaf.raise_frame]
@[simp] theorem Leaf.raise_tiles (d : Leaf) (code : Nat) (cls : FaultClass) (inst cause detail : Nat) : (d.raise code cls inst cause detail).tiles = d.tiles := by rw [Leaf.raise_frame]
@[simp] theorem Leaf.raise_tum (d : Leaf) (code : Nat) (cls : FaultClass) (inst cause detail : Nat) : (d.raise code cls inst cause detail).tum = d.tum := by rw [Leaf.raise_frame]
@[simp] theorem Leaf.raise_fab (d : Leaf) (code : Nat) (cls : FaultClass) (inst cause detail : Nat) : (d.raise code cls inst cause detail).fab = d.fab := by rw [Leaf.raise_frame]
@[simp] theorem Leaf.raise_prof (d : Leaf) (code : Nat) (cls : FaultClass) (inst cause detail : Nat) : (d.raise code cls inst cause detail).prof = d.prof := by rw [Leaf.raise_frame]
@[simp] theorem Leaf.raise_pwr (d : Leaf) (code : Nat) (cls : FaultClass) (inst cause detail : Nat) : (d.raise code cls inst cause detail).pwr = d.pwr := by rw [Leaf.raise_frame]
@[simp] theorem Leaf.raise_upd (d : Leaf) (code : Nat) (cls : FaultClass) (inst cause detail : Nat) : (d.raise code cls inst cause detail).upd = d.upd := by rw [Leaf.raise_frame]
@[simp] theorem Leaf.raise_sch (d : Leaf) (code : Nat) (cls : FaultClass) (inst cause detail : Nat) : (d.raise code cls inst cause detail).sch = d.sch := by rw [Leaf.raise_frame]
@[simp] theorem Leaf.raise_rcd (d : Leaf) (code : Nat) (cls : FaultClass) (inst cause detail : Nat) : (d.raise code cls inst cause detail).rcd = d.rcd := by rw [Leaf.raise_frame]
@[simp] theorem Leaf.raise_disc (d : Leaf) (code : Nat) (cls : FaultClass) (inst cause detail : Nat) : (d.raise code cls inst cause detail).disc = d.disc := by rw [Leaf.raise_frame]
@[simp] theorem Leaf.raise_saf (d : Leaf) (code : Nat) (cls : FaultClass) (inst cause detail : Nat) : (d.raise code cls inst cause detail).saf = d.saf := by rw [Leaf.raise_frame]

theorem Leaf.foldl_frame {α : Type} (f : Leaf → α → Leaf) (h : ∀ d a, f d a = { d with lanes := (f d a).lanes, out := (f d a).out })
    (l : List α) (d : Leaf) : l.foldl f d = { d with lanes := (l.foldl f d).lanes, out := (l.foldl f d).out } := by
  induction l generalizing d with
  | nil => rfl
  | cons a r ih => rw [List.foldl_cons, ih (f d a), h d a]

theorem Leaf.sendUplinks_frame (d : Leaf) (p : Nat → Bool) (type : Nat) (payload : Conc → List Nat) :
    d.sendUplinks p type payload = { d with lanes := (d.sendUplinks p type payload).lanes, out := (d.sendUplinks p type payload).out } := by
  apply Leaf.foldl_frame
  intro d n
  split
  · exact d.emit_frame _
  · rfl

@[simp] theorem Leaf.sendUplinks_ident (d : Leaf) (p : Nat → Bool) (type : Nat) (payload : Conc → List Nat) : (d.sendUplinks p type payload).ident = d.ident := by rw [Leaf.sendUplinks_frame]
@[simp] theorem Leaf.sendUplinks_bank (d : Leaf) (p : Nat → Bool) (type : Nat) (payload : Conc → List Nat) : (d.sendUplinks p type payload).bank = d.bank := by rw [Leaf.sendUplinks_frame]
@[simp] theorem Leaf.sendUplinks_shadow (d : Leaf) (p : Nat → Bool) (type : Nat) (payload : Conc → List Nat) : (d.sendUplinks p type payload).shadow = d.shadow := by rw [Leaf.sendUplinks_frame]
@[simp] theorem Leaf.sendUplinks_hold (d : Leaf) (p : Nat → Bool) (type : Nat) (payload : Conc → List Nat) : (d.sendUplinks p type payload).hold = d.hold := by rw [Leaf.sendUplinks_frame]
@[simp] theorem Leaf.sendUplinks_rdata (d : Leaf) (p : Nat → Bool) (type : Nat) (payload : Conc → List Nat) : (d.sendUplinks p type payload).rdata = d.rdata := by rw [Leaf.sendUplinks_frame]
@[simp] theorem Leaf.sendUplinks_freeIdx (d : Leaf) (p : Nat → Bool) (type : Nat) (payload : Conc → List Nat) : (d.sendUplinks p type payload).freeIdx = d.freeIdx := by rw [Leaf.sendUplinks_frame]
@[simp] theorem Leaf.sendUplinks_conv (d : Leaf) (p : Nat → Bool) (type : Nat) (payload : Conc → List Nat) : (d.sendUplinks p type payload).conv = d.conv := by rw [Leaf.sendUplinks_frame]
@[simp] theorem Leaf.sendUplinks_tim (d : Leaf) (p : Nat → Bool) (type : Nat) (payload : Conc → List Nat) : (d.sendUplinks p type payload).tim = d.tim := by rw [Leaf.sendUplinks_frame]
@[simp] theorem Leaf.sendUplinks_hnd (d : Leaf) (p : Nat → Bool) (type : Nat) (payload : Conc → List Nat) : (d.sendUplinks p type payload).hnd = d.hnd := by rw [Leaf.sendUplinks_frame]
@[simp] theorem Leaf.sendUplinks_hng (d : Leaf) (p : Nat → Bool) (type : Nat) (payload : Conc → List Nat) : (d.sendUplinks p type payload).hng = d.hng := by rw [Leaf.sendUplinks_frame]
@[simp] theorem Leaf.sendUplinks_flt (d : Leaf) (p : Nat → Bool) (type : Nat) (payload : Conc → List Nat) : (d.sendUplinks p type payload).flt = d.flt := by rw [Leaf.sendUplinks_frame]
@[simp] theorem Leaf.sendUplinks_key (d : Leaf) (p : Nat → Bool) (type : Nat) (payload : Conc → List Nat) : (d.sendUplinks p type payload).key = d.key := by rw [Leaf.sendUplinks_frame]
@[simp] theorem Leaf.sendUplinks_cyc (d : Leaf) (p : Nat → Bool) (type : Nat) (payload : Conc → List Nat) : (d.sendUplinks p type payload).cyc = d.cyc := by rw [Leaf.sendUplinks_frame]
@[simp] theorem Leaf.sendUplinks_tiles (d : Leaf) (p : Nat → Bool) (type : Nat) (payload : Conc → List Nat) : (d.sendUplinks p type payload).tiles = d.tiles := by rw [Leaf.sendUplinks_frame]
@[simp] theorem Leaf.sendUplinks_tum (d : Leaf) (p : Nat → Bool) (type : Nat) (payload : Conc → List Nat) : (d.sendUplinks p type payload).tum = d.tum := by rw [Leaf.sendUplinks_frame]
@[simp] theorem Leaf.sendUplinks_fab (d : Leaf) (p : Nat → Bool) (type : Nat) (payload : Conc → List Nat) : (d.sendUplinks p type payload).fab = d.fab := by rw [Leaf.sendUplinks_frame]
@[simp] theorem Leaf.sendUplinks_prof (d : Leaf) (p : Nat → Bool) (type : Nat) (payload : Conc → List Nat) : (d.sendUplinks p type payload).prof = d.prof := by rw [Leaf.sendUplinks_frame]
@[simp] theorem Leaf.sendUplinks_pwr (d : Leaf) (p : Nat → Bool) (type : Nat) (payload : Conc → List Nat) : (d.sendUplinks p type payload).pwr = d.pwr := by rw [Leaf.sendUplinks_frame]
@[simp] theorem Leaf.sendUplinks_upd (d : Leaf) (p : Nat → Bool) (type : Nat) (payload : Conc → List Nat) : (d.sendUplinks p type payload).upd = d.upd := by rw [Leaf.sendUplinks_frame]
@[simp] theorem Leaf.sendUplinks_sch (d : Leaf) (p : Nat → Bool) (type : Nat) (payload : Conc → List Nat) : (d.sendUplinks p type payload).sch = d.sch := by rw [Leaf.sendUplinks_frame]
@[simp] theorem Leaf.sendUplinks_rcd (d : Leaf) (p : Nat → Bool) (type : Nat) (payload : Conc → List Nat) : (d.sendUplinks p type payload).rcd = d.rcd := by rw [Leaf.sendUplinks_frame]
@[simp] theorem Leaf.sendUplinks_disc (d : Leaf) (p : Nat → Bool) (type : Nat) (payload : Conc → List Nat) : (d.sendUplinks p type payload).disc = d.disc := by rw [Leaf.sendUplinks_frame]
@[simp] theorem Leaf.sendUplinks_saf (d : Leaf) (p : Nat → Bool) (type : Nat) (payload : Conc → List Nat) : (d.sendUplinks p type payload).saf = d.saf := by rw [Leaf.sendUplinks_frame]
@[simp] theorem Leaf.rd_sendUplinks (d : Leaf) (p : Nat → Bool) (type : Nat) (payload : Conc → List Nat) (g : Fld) (j : Nat) : (d.sendUplinks p type payload).rd g j = d.rd g j := by
  simp only [Leaf.rd, Leaf.sendUplinks_bank]
@[simp] theorem Leaf.is_sendUplinks (d : Leaf) (p : Nat → Bool) (type : Nat) (payload : Conc → List Nat) (g : Fld) (j : Nat) : (d.sendUplinks p type payload).is g j = d.is g j := by
  simp only [Leaf.is, Leaf.rd_sendUplinks]

theorem Leaf.giveUp_frame (d : Leaf) (cause : Nat) :
    d.giveUp cause = { d with hng := (d.giveUp cause).hng, bank := (d.giveUp cause).bank, lanes := (d.giveUp cause).lanes, out := (d.giveUp cause).out, flt := (d.giveUp cause).flt, conv := (d.giveUp cause).conv } := by
  apply Leaf.ext <;> simp [Leaf.giveUp]

@[simp] theorem Leaf.giveUp_ident (d : Leaf) (cause : Nat) : (d.giveUp cause).ident = d.ident := by rw [Leaf.giveUp_frame]
@[simp] theorem Leaf.giveUp_shadow (d : Leaf) (cause : Nat) : (d.giveUp cause).shadow = d.shadow := by rw [Leaf.giveUp_frame]
@[simp] theorem Leaf.giveUp_hold (d : Leaf) (cause : Nat) : (d.giveUp cause).hold = d.hold := by rw [Leaf.giveUp_frame]
@[simp] theorem Leaf.giveUp_rdata (d : Leaf) (cause : Nat) : (d.giveUp cause).rdata = d.rdata := by rw [Leaf.giveUp_frame]
@[simp] theorem Leaf.giveUp_freeIdx (d : Leaf) (cause : Nat) : (d.giveUp cause).freeIdx = d.freeIdx := by rw [Leaf.giveUp_frame]
@[simp] theorem Leaf.giveUp_tim (d : Leaf) (cause : Nat) : (d.giveUp cause).tim = d.tim := by rw [Leaf.giveUp_frame]
@[simp] theorem Leaf.giveUp_hnd (d : Leaf) (cause : Nat) : (d.giveUp cause).hnd = d.hnd := by rw [Leaf.giveUp_frame]
@[simp] theorem Leaf.giveUp_key (d : Leaf) (cause : Nat) : (d.giveUp cause).key = d.key := by rw [Leaf.giveUp_frame]
@[simp] theorem Leaf.giveUp_cyc (d : Leaf) (cause : Nat) : (d.giveUp cause).cyc = d.cyc := by rw [Leaf.giveUp_frame]
@[simp] theorem Leaf.giveUp_tiles (d : Leaf) (cause : Nat) : (d.giveUp cause).tiles = d.tiles := by rw [Leaf.giveUp_frame]
@[simp] theorem Leaf.giveUp_tum (d : Leaf) (cause : Nat) : (d.giveUp cause).tum = d.tum := by rw [Leaf.giveUp_frame]
@[simp] theorem Leaf.giveUp_fab (d : Leaf) (cause : Nat) : (d.giveUp cause).fab = d.fab := by rw [Leaf.giveUp_frame]
@[simp] theorem Leaf.giveUp_prof (d : Leaf) (cause : Nat) : (d.giveUp cause).prof = d.prof := by rw [Leaf.giveUp_frame]
@[simp] theorem Leaf.giveUp_pwr (d : Leaf) (cause : Nat) : (d.giveUp cause).pwr = d.pwr := by rw [Leaf.giveUp_frame]
@[simp] theorem Leaf.giveUp_upd (d : Leaf) (cause : Nat) : (d.giveUp cause).upd = d.upd := by rw [Leaf.giveUp_frame]
@[simp] theorem Leaf.giveUp_sch (d : Leaf) (cause : Nat) : (d.giveUp cause).sch = d.sch := by rw [Leaf.giveUp_frame]
@[simp] theorem Leaf.giveUp_rcd (d : Leaf) (cause : Nat) : (d.giveUp cause).rcd = d.rcd := by rw [Leaf.giveUp_frame]
@[simp] theorem Leaf.giveUp_disc (d : Leaf) (cause : Nat) : (d.giveUp cause).disc = d.disc := by rw [Leaf.giveUp_frame]
@[simp] theorem Leaf.giveUp_saf (d : Leaf) (cause : Nat) : (d.giveUp cause).saf = d.saf := by rw [Leaf.giveUp_frame]

theorem Leaf.selfDiag_frame (d : Leaf) (hcause code : Nat) (cls : FaultClass) (inst cause : Nat) :
    d.selfDiag hcause code cls inst cause = { d with hng := (d.selfDiag hcause code cls inst cause).hng, bank := (d.selfDiag hcause code cls inst cause).bank, lanes := (d.selfDiag hcause code cls inst cause).lanes, out := (d.selfDiag hcause code cls inst cause).out, flt := (d.selfDiag hcause code cls inst cause).flt, conv := (d.selfDiag hcause code cls inst cause).conv } := by
  apply Leaf.ext <;> first | rfl | (unfold Leaf.selfDiag; split <;> simp)

@[simp] theorem Leaf.selfDiag_ident (d : Leaf) (hcause code : Nat) (cls : FaultClass) (inst cause : Nat) : (d.selfDiag hcause code cls inst cause).ident = d.ident := by rw [Leaf.selfDiag_frame]
@[simp] theorem Leaf.selfDiag_shadow (d : Leaf) (hcause code : Nat) (cls : FaultClass) (inst cause : Nat) : (d.selfDiag hcause code cls inst cause).shadow = d.shadow := by rw [Leaf.selfDiag_frame]
@[simp] theorem Leaf.selfDiag_hold (d : Leaf) (hcause code : Nat) (cls : FaultClass) (inst cause : Nat) : (d.selfDiag hcause code cls inst cause).hold = d.hold := by rw [Leaf.selfDiag_frame]
@[simp] theorem Leaf.selfDiag_rdata (d : Leaf) (hcause code : Nat) (cls : FaultClass) (inst cause : Nat) : (d.selfDiag hcause code cls inst cause).rdata = d.rdata := by rw [Leaf.selfDiag_frame]
@[simp] theorem Leaf.selfDiag_freeIdx (d : Leaf) (hcause code : Nat) (cls : FaultClass) (inst cause : Nat) : (d.selfDiag hcause code cls inst cause).freeIdx = d.freeIdx := by rw [Leaf.selfDiag_frame]
@[simp] theorem Leaf.selfDiag_tim (d : Leaf) (hcause code : Nat) (cls : FaultClass) (inst cause : Nat) : (d.selfDiag hcause code cls inst cause).tim = d.tim := by rw [Leaf.selfDiag_frame]
@[simp] theorem Leaf.selfDiag_hnd (d : Leaf) (hcause code : Nat) (cls : FaultClass) (inst cause : Nat) : (d.selfDiag hcause code cls inst cause).hnd = d.hnd := by rw [Leaf.selfDiag_frame]
@[simp] theorem Leaf.selfDiag_key (d : Leaf) (hcause code : Nat) (cls : FaultClass) (inst cause : Nat) : (d.selfDiag hcause code cls inst cause).key = d.key := by rw [Leaf.selfDiag_frame]
@[simp] theorem Leaf.selfDiag_cyc (d : Leaf) (hcause code : Nat) (cls : FaultClass) (inst cause : Nat) : (d.selfDiag hcause code cls inst cause).cyc = d.cyc := by rw [Leaf.selfDiag_frame]
@[simp] theorem Leaf.selfDiag_tiles (d : Leaf) (hcause code : Nat) (cls : FaultClass) (inst cause : Nat) : (d.selfDiag hcause code cls inst cause).tiles = d.tiles := by rw [Leaf.selfDiag_frame]
@[simp] theorem Leaf.selfDiag_tum (d : Leaf) (hcause code : Nat) (cls : FaultClass) (inst cause : Nat) : (d.selfDiag hcause code cls inst cause).tum = d.tum := by rw [Leaf.selfDiag_frame]
@[simp] theorem Leaf.selfDiag_fab (d : Leaf) (hcause code : Nat) (cls : FaultClass) (inst cause : Nat) : (d.selfDiag hcause code cls inst cause).fab = d.fab := by rw [Leaf.selfDiag_frame]
@[simp] theorem Leaf.selfDiag_prof (d : Leaf) (hcause code : Nat) (cls : FaultClass) (inst cause : Nat) : (d.selfDiag hcause code cls inst cause).prof = d.prof := by rw [Leaf.selfDiag_frame]
@[simp] theorem Leaf.selfDiag_pwr (d : Leaf) (hcause code : Nat) (cls : FaultClass) (inst cause : Nat) : (d.selfDiag hcause code cls inst cause).pwr = d.pwr := by rw [Leaf.selfDiag_frame]
@[simp] theorem Leaf.selfDiag_upd (d : Leaf) (hcause code : Nat) (cls : FaultClass) (inst cause : Nat) : (d.selfDiag hcause code cls inst cause).upd = d.upd := by rw [Leaf.selfDiag_frame]
@[simp] theorem Leaf.selfDiag_sch (d : Leaf) (hcause code : Nat) (cls : FaultClass) (inst cause : Nat) : (d.selfDiag hcause code cls inst cause).sch = d.sch := by rw [Leaf.selfDiag_frame]
@[simp] theorem Leaf.selfDiag_rcd (d : Leaf) (hcause code : Nat) (cls : FaultClass) (inst cause : Nat) : (d.selfDiag hcause code cls inst cause).rcd = d.rcd := by rw [Leaf.selfDiag_frame]
@[simp] theorem Leaf.selfDiag_disc (d : Leaf) (hcause code : Nat) (cls : FaultClass) (inst cause : Nat) : (d.selfDiag hcause code cls inst cause).disc = d.disc := by rw [Leaf.selfDiag_frame]
@[simp] theorem Leaf.selfDiag_saf (d : Leaf) (hcause code : Nat) (cls : FaultClass) (inst cause : Nat) : (d.selfDiag hcause code cls inst cause).saf = d.saf := by rw [Leaf.selfDiag_frame]

theorem Concentrator.fltRefresh_frame (d : Concentrator) :
    d.fltRefresh = { d with bank := (d.fltRefresh).bank } := rfl

@[simp] theorem Concentrator.fltRefresh_ident (d : Concentrator) : (d.fltRefresh).ident = d.ident := by rw [Concentrator.fltRefresh_frame]
@[simp] theorem Concentrator.fltRefresh_meas (d : Concentrator) : (d.fltRefresh).meas = d.meas := by rw [Concentrator.fltRefresh_frame]
@[simp] theorem Concentrator.fltRefresh_rdata (d : Concentrator) : (d.fltRefresh).rdata = d.rdata := by rw [Concentrator.fltRefresh_frame]
@[simp] theorem Concentrator.fltRefresh_out (d : Concentrator) : (d.fltRefresh).out = d.out := by rw [Concentrator.fltRefresh_frame]
@[simp] theorem Concentrator.fltRefresh_freeIdx (d : Concentrator) : (d.fltRefresh).freeIdx = d.freeIdx := by rw [Concentrator.fltRefresh_frame]
@[simp] theorem Concentrator.fltRefresh_lanes (d : Concentrator) : (d.fltRefresh).lanes = d.lanes := by rw [Concentrator.fltRefresh_frame]
@[simp] theorem Concentrator.fltRefresh_flt (d : Concentrator) : (d.fltRefresh).flt = d.flt := by rw [Concentrator.fltRefresh_frame]
@[simp] theorem Concentrator.fltRefresh_remote (d : Concentrator) : (d.fltRefresh).remote = d.remote := by rw [Concentrator.fltRefresh_frame]
@[simp] theorem Concentrator.fltRefresh_fw (d : Concentrator) : (d.fltRefresh).fw = d.fw := by rw [Concentrator.fltRefresh_frame]
@[simp] theorem Concentrator.fltRefresh_time (d : Concentrator) : (d.fltRefresh).time = d.time := by rw [Concentrator.fltRefresh_frame]
@[simp] theorem Concentrator.fltRefresh_timeUnset (d : Concentrator) : (d.fltRefresh).timeUnset = d.timeUnset := by rw [Concentrator.fltRefresh_frame]
@[simp] theorem Concentrator.fltRefresh_cyc (d : Concentrator) : (d.fltRefresh).cyc = d.cyc := by rw [Concentrator.fltRefresh_frame]
@[simp] theorem Concentrator.fltRefresh_dec (d : Concentrator) : (d.fltRefresh).dec = d.dec := by rw [Concentrator.fltRefresh_frame]
@[simp] theorem Concentrator.fltRefresh_sw (d : Concentrator) : (d.fltRefresh).sw = d.sw := by rw [Concentrator.fltRefresh_frame]
@[simp] theorem Concentrator.fltRefresh_knocks (d : Concentrator) : (d.fltRefresh).knocks = d.knocks := by rw [Concentrator.fltRefresh_frame]
@[simp] theorem Concentrator.fltRefresh_relayMask (d : Concentrator) : (d.fltRefresh).relayMask = d.relayMask := by rw [Concentrator.fltRefresh_frame]
@[simp] theorem Concentrator.fltRefresh_relay (d : Concentrator) : (d.fltRefresh).relay = d.relay := by rw [Concentrator.fltRefresh_frame]

theorem Concentrator.sendFault_frame (d : Concentrator) (n : Conc) (r : FaultRec) :
    d.sendFault n r = { d with lanes := (d.sendFault n r).lanes, out := (d.sendFault n r).out } := by
  apply Concentrator.ext <;> simp [Concentrator.sendFault]

@[simp] theorem Concentrator.sendFault_ident (d : Concentrator) (n : Conc) (r : FaultRec) : (d.sendFault n r).ident = d.ident := by rw [Concentrator.sendFault_frame]
@[simp] theorem Concentrator.sendFault_meas (d : Concentrator) (n : Conc) (r : FaultRec) : (d.sendFault n r).meas = d.meas := by rw [Concentrator.sendFault_frame]
@[simp] theorem Concentrator.sendFault_bank (d : Concentrator) (n : Conc) (r : FaultRec) : (d.sendFault n r).bank = d.bank := by rw [Concentrator.sendFault_frame]
@[simp] theorem Concentrator.sendFault_rdata (d : Concentrator) (n : Conc) (r : FaultRec) : (d.sendFault n r).rdata = d.rdata := by rw [Concentrator.sendFault_frame]
@[simp] theorem Concentrator.sendFault_freeIdx (d : Concentrator) (n : Conc) (r : FaultRec) : (d.sendFault n r).freeIdx = d.freeIdx := by rw [Concentrator.sendFault_frame]
@[simp] theorem Concentrator.sendFault_flt (d : Concentrator) (n : Conc) (r : FaultRec) : (d.sendFault n r).flt = d.flt := by rw [Concentrator.sendFault_frame]
@[simp] theorem Concentrator.sendFault_remote (d : Concentrator) (n : Conc) (r : FaultRec) : (d.sendFault n r).remote = d.remote := by rw [Concentrator.sendFault_frame]
@[simp] theorem Concentrator.sendFault_fw (d : Concentrator) (n : Conc) (r : FaultRec) : (d.sendFault n r).fw = d.fw := by rw [Concentrator.sendFault_frame]
@[simp] theorem Concentrator.sendFault_time (d : Concentrator) (n : Conc) (r : FaultRec) : (d.sendFault n r).time = d.time := by rw [Concentrator.sendFault_frame]
@[simp] theorem Concentrator.sendFault_timeUnset (d : Concentrator) (n : Conc) (r : FaultRec) : (d.sendFault n r).timeUnset = d.timeUnset := by rw [Concentrator.sendFault_frame]
@[simp] theorem Concentrator.sendFault_cyc (d : Concentrator) (n : Conc) (r : FaultRec) : (d.sendFault n r).cyc = d.cyc := by rw [Concentrator.sendFault_frame]
@[simp] theorem Concentrator.sendFault_dec (d : Concentrator) (n : Conc) (r : FaultRec) : (d.sendFault n r).dec = d.dec := by rw [Concentrator.sendFault_frame]
@[simp] theorem Concentrator.sendFault_sw (d : Concentrator) (n : Conc) (r : FaultRec) : (d.sendFault n r).sw = d.sw := by rw [Concentrator.sendFault_frame]
@[simp] theorem Concentrator.sendFault_knocks (d : Concentrator) (n : Conc) (r : FaultRec) : (d.sendFault n r).knocks = d.knocks := by rw [Concentrator.sendFault_frame]
@[simp] theorem Concentrator.sendFault_relayMask (d : Concentrator) (n : Conc) (r : FaultRec) : (d.sendFault n r).relayMask = d.relayMask := by rw [Concentrator.sendFault_frame]
@[simp] theorem Concentrator.sendFault_relay (d : Concentrator) (n : Conc) (r : FaultRec) : (d.sendFault n r).relay = d.relay := by rw [Concentrator.sendFault_frame]
@[simp] theorem Concentrator.rd_sendFault (d : Concentrator) (n : Conc) (r : FaultRec) (g : Fld) (j : Nat) : (d.sendFault n r).rd g j = d.rd g j := by
  simp only [Concentrator.rd, Concentrator.sendFault_bank]
@[simp] theorem Concentrator.is_sendFault (d : Concentrator) (n : Conc) (r : FaultRec) (g : Fld) (j : Nat) : (d.sendFault n r).is g j = d.is g j := by
  simp only [Concentrator.is, Concentrator.rd_sendFault]

theorem Concentrator.fltSent_frame (d : Concentrator) (n : Conc) (e : FaultRec) (p : Placed) :
    d.fltSent n e p = { d with lanes := (d.fltSent n e p).lanes, out := (d.fltSent n e p).out, bank := (d.fltSent n e p).bank } := by
  apply Concentrator.ext <;> first | rfl | (unfold Concentrator.fltSent; (repeat' split) <;> simp)

@[simp] theorem Concentrator.fltSent_ident (d : Concentrator) (n : Conc) (e : FaultRec) (p : Placed) : (d.fltSent n e p).ident = d.ident := by rw [Concentrator.fltSent_frame]
@[simp] theorem Concentrator.fltSent_meas (d : Concentrator) (n : Conc) (e : FaultRec) (p : Placed) : (d.fltSent n e p).meas = d.meas := by rw [Concentrator.fltSent_frame]
@[simp] theorem Concentrator.fltSent_rdata (d : Concentrator) (n : Conc) (e : FaultRec) (p : Placed) : (d.fltSent n e p).rdata = d.rdata := by rw [Concentrator.fltSent_frame]
@[simp] theorem Concentrator.fltSent_freeIdx (d : Concentrator) (n : Conc) (e : FaultRec) (p : Placed) : (d.fltSent n e p).freeIdx = d.freeIdx := by rw [Concentrator.fltSent_frame]
@[simp] theorem Concentrator.fltSent_flt (d : Concentrator) (n : Conc) (e : FaultRec) (p : Placed) : (d.fltSent n e p).flt = d.flt := by rw [Concentrator.fltSent_frame]
@[simp] theorem Concentrator.fltSent_remote (d : Concentrator) (n : Conc) (e : FaultRec) (p : Placed) : (d.fltSent n e p).remote = d.remote := by rw [Concentrator.fltSent_frame]
@[simp] theorem Concentrator.fltSent_fw (d : Concentrator) (n : Conc) (e : FaultRec) (p : Placed) : (d.fltSent n e p).fw = d.fw := by rw [Concentrator.fltSent_frame]
@[simp] theorem Concentrator.fltSent_time (d : Concentrator) (n : Conc) (e : FaultRec) (p : Placed) : (d.fltSent n e p).time = d.time := by rw [Concentrator.fltSent_frame]
@[simp] theorem Concentrator.fltSent_timeUnset (d : Concentrator) (n : Conc) (e : FaultRec) (p : Placed) : (d.fltSent n e p).timeUnset = d.timeUnset := by rw [Concentrator.fltSent_frame]
@[simp] theorem Concentrator.fltSent_cyc (d : Concentrator) (n : Conc) (e : FaultRec) (p : Placed) : (d.fltSent n e p).cyc = d.cyc := by rw [Concentrator.fltSent_frame]
@[simp] theorem Concentrator.fltSent_dec (d : Concentrator) (n : Conc) (e : FaultRec) (p : Placed) : (d.fltSent n e p).dec = d.dec := by rw [Concentrator.fltSent_frame]
@[simp] theorem Concentrator.fltSent_sw (d : Concentrator) (n : Conc) (e : FaultRec) (p : Placed) : (d.fltSent n e p).sw = d.sw := by rw [Concentrator.fltSent_frame]
@[simp] theorem Concentrator.fltSent_knocks (d : Concentrator) (n : Conc) (e : FaultRec) (p : Placed) : (d.fltSent n e p).knocks = d.knocks := by rw [Concentrator.fltSent_frame]
@[simp] theorem Concentrator.fltSent_relayMask (d : Concentrator) (n : Conc) (e : FaultRec) (p : Placed) : (d.fltSent n e p).relayMask = d.relayMask := by rw [Concentrator.fltSent_frame]
@[simp] theorem Concentrator.fltSent_relay (d : Concentrator) (n : Conc) (e : FaultRec) (p : Placed) : (d.fltSent n e p).relay = d.relay := by rw [Concentrator.fltSent_frame]

theorem Concentrator.raiseRec_frame (d : Concentrator) (n : Conc) (e : FaultRec) :
    d.raiseRec n e = { d with lanes := (d.raiseRec n e).lanes, out := (d.raiseRec n e).out, flt := (d.raiseRec n e).flt, bank := (d.raiseRec n e).bank } := by
  apply Concentrator.ext <;> first | rfl | (unfold Concentrator.raiseRec; simp only []; (repeat' split) <;> simp)

@[simp] theorem Concentrator.raiseRec_ident (d : Concentrator) (n : Conc) (e : FaultRec) : (d.raiseRec n e).ident = d.ident := by rw [Concentrator.raiseRec_frame]
@[simp] theorem Concentrator.raiseRec_meas (d : Concentrator) (n : Conc) (e : FaultRec) : (d.raiseRec n e).meas = d.meas := by rw [Concentrator.raiseRec_frame]
@[simp] theorem Concentrator.raiseRec_rdata (d : Concentrator) (n : Conc) (e : FaultRec) : (d.raiseRec n e).rdata = d.rdata := by rw [Concentrator.raiseRec_frame]
@[simp] theorem Concentrator.raiseRec_freeIdx (d : Concentrator) (n : Conc) (e : FaultRec) : (d.raiseRec n e).freeIdx = d.freeIdx := by rw [Concentrator.raiseRec_frame]
@[simp] theorem Concentrator.raiseRec_remote (d : Concentrator) (n : Conc) (e : FaultRec) : (d.raiseRec n e).remote = d.remote := by rw [Concentrator.raiseRec_frame]
@[simp] theorem Concentrator.raiseRec_fw (d : Concentrator) (n : Conc) (e : FaultRec) : (d.raiseRec n e).fw = d.fw := by rw [Concentrator.raiseRec_frame]
@[simp] theorem Concentrator.raiseRec_time (d : Concentrator) (n : Conc) (e : FaultRec) : (d.raiseRec n e).time = d.time := by rw [Concentrator.raiseRec_frame]
@[simp] theorem Concentrator.raiseRec_timeUnset (d : Concentrator) (n : Conc) (e : FaultRec) : (d.raiseRec n e).timeUnset = d.timeUnset := by rw [Concentrator.raiseRec_frame]
@[simp] theorem Concentrator.raiseRec_cyc (d : Concentrator) (n : Conc) (e : FaultRec) : (d.raiseRec n e).cyc = d.cyc := by rw [Concentrator.raiseRec_frame]
@[simp] theorem Concentrator.raiseRec_dec (d : Concentrator) (n : Conc) (e : FaultRec) : (d.raiseRec n e).dec = d.dec := by rw [Concentrator.raiseRec_frame]
@[simp] theorem Concentrator.raiseRec_sw (d : Concentrator) (n : Conc) (e : FaultRec) : (d.raiseRec n e).sw = d.sw := by rw [Concentrator.raiseRec_frame]
@[simp] theorem Concentrator.raiseRec_knocks (d : Concentrator) (n : Conc) (e : FaultRec) : (d.raiseRec n e).knocks = d.knocks := by rw [Concentrator.raiseRec_frame]
@[simp] theorem Concentrator.raiseRec_relayMask (d : Concentrator) (n : Conc) (e : FaultRec) : (d.raiseRec n e).relayMask = d.relayMask := by rw [Concentrator.raiseRec_frame]
@[simp] theorem Concentrator.raiseRec_relay (d : Concentrator) (n : Conc) (e : FaultRec) : (d.raiseRec n e).relay = d.relay := by rw [Concentrator.raiseRec_frame]

theorem Concentrator.raise_frame (d : Concentrator) (n : Conc) (code : Nat) (cls : FaultClass) (inst cause detail : Nat) :
    d.raise n code cls inst cause detail = { d with lanes := (d.raise n code cls inst cause detail).lanes, out := (d.raise n code cls inst cause detail).out, flt := (d.raise n code cls inst cause detail).flt, bank := (d.raise n code cls inst cause detail).bank } := d.raiseRec_frame n _

@[simp] theorem Concentrator.raise_ident (d : Concentrator) (n : Conc) (code : Nat) (cls : FaultClass) (inst cause detail : Nat) : (d.raise n code cls inst cause detail).ident = d.ident := by rw [Concentrator.raise_frame]
@[simp] theorem Concentrator.raise_meas (d : Concentrator) (n : Conc) (code : Nat) (cls : FaultClass) (inst cause detail : Nat) : (d.raise n code cls inst cause detail).meas = d.meas := by rw [Concentrator.raise_frame]
@[simp] theorem Concentrator.raise_rdata (d : Concentrator) (n : Conc) (code : Nat) (cls : FaultClass) (inst cause detail : Nat) : (d.raise n code cls inst cause detail).rdata = d.rdata := by rw [Concentrator.raise_frame]
@[simp] theorem Concentrator.raise_freeIdx (d : Concentrator) (n : Conc) (code : Nat) (cls : FaultClass) (inst cause detail : Nat) : (d.raise n code cls inst cause detail).freeIdx = d.freeIdx := by rw [Concentrator.raise_frame]
@[simp] theorem Concentrator.raise_remote (d : Concentrator) (n : Conc) (code : Nat) (cls : FaultClass) (inst cause detail : Nat) : (d.raise n code cls inst cause detail).remote = d.remote := by rw [Concentrator.raise_frame]
@[simp] theorem Concentrator.raise_fw (d : Concentrator) (n : Conc) (code : Nat) (cls : FaultClass) (inst cause detail : Nat) : (d.raise n code cls inst cause detail).fw = d.fw := by rw [Concentrator.raise_frame]
@[simp] theorem Concentrator.raise_time (d : Concentrator) (n : Conc) (code : Nat) (cls : FaultClass) (inst cause detail : Nat) : (d.raise n code cls inst cause detail).time = d.time := by rw [Concentrator.raise_frame]
@[simp] theorem Concentrator.raise_timeUnset (d : Concentrator) (n : Conc) (code : Nat) (cls : FaultClass) (inst cause detail : Nat) : (d.raise n code cls inst cause detail).timeUnset = d.timeUnset := by rw [Concentrator.raise_frame]
@[simp] theorem Concentrator.raise_cyc (d : Concentrator) (n : Conc) (code : Nat) (cls : FaultClass) (inst cause detail : Nat) : (d.raise n code cls inst cause detail).cyc = d.cyc := by rw [Concentrator.raise_frame]
@[simp] theorem Concentrator.raise_dec (d : Concentrator) (n : Conc) (code : Nat) (cls : FaultClass) (inst cause detail : Nat) : (d.raise n code cls inst cause detail).dec = d.dec := by rw [Concentrator.raise_frame]
@[simp] theorem Concentrator.raise_sw (d : Concentrator) (n : Conc) (code : Nat) (cls : FaultClass) (inst cause detail : Nat) : (d.raise n code cls inst cause detail).sw = d.sw := by rw [Concentrator.raise_frame]
@[simp] theorem Concentrator.raise_knocks (d : Concentrator) (n : Conc) (code : Nat) (cls : FaultClass) (inst cause detail : Nat) : (d.raise n code cls inst cause detail).knocks = d.knocks := by rw [Concentrator.raise_frame]
@[simp] theorem Concentrator.raise_relayMask (d : Concentrator) (n : Conc) (code : Nat) (cls : FaultClass) (inst cause detail : Nat) : (d.raise n code cls inst cause detail).relayMask = d.relayMask := by rw [Concentrator.raise_frame]
@[simp] theorem Concentrator.raise_relay (d : Concentrator) (n : Conc) (code : Nat) (cls : FaultClass) (inst cause detail : Nat) : (d.raise n code cls inst cause detail).relay = d.relay := by rw [Concentrator.raise_frame]

/-! ## Accepted commands (12_host_interface_and_handles.md) -/

theorem Leaf.jwrite_frame (d : Leaf) (r : JRec) :
    d.jwrite r = { d with hnd := (d.jwrite r).hnd, bank := (d.jwrite r).bank } := rfl

@[simp] theorem Leaf.jwrite_ident (d : Leaf) (r : JRec) : (d.jwrite r).ident = d.ident := by rw [Leaf.jwrite_frame]
@[simp] theorem Leaf.jwrite_shadow (d : Leaf) (r : JRec) : (d.jwrite r).shadow = d.shadow := by rw [Leaf.jwrite_frame]
@[simp] theorem Leaf.jwrite_hold (d : Leaf) (r : JRec) : (d.jwrite r).hold = d.hold := by rw [Leaf.jwrite_frame]
@[simp] theorem Leaf.jwrite_rdata (d : Leaf) (r : JRec) : (d.jwrite r).rdata = d.rdata := by rw [Leaf.jwrite_frame]
@[simp] theorem Leaf.jwrite_out (d : Leaf) (r : JRec) : (d.jwrite r).out = d.out := by rw [Leaf.jwrite_frame]
@[simp] theorem Leaf.jwrite_freeIdx (d : Leaf) (r : JRec) : (d.jwrite r).freeIdx = d.freeIdx := by rw [Leaf.jwrite_frame]
@[simp] theorem Leaf.jwrite_lanes (d : Leaf) (r : JRec) : (d.jwrite r).lanes = d.lanes := by rw [Leaf.jwrite_frame]
@[simp] theorem Leaf.jwrite_conv (d : Leaf) (r : JRec) : (d.jwrite r).conv = d.conv := by rw [Leaf.jwrite_frame]
@[simp] theorem Leaf.jwrite_tim (d : Leaf) (r : JRec) : (d.jwrite r).tim = d.tim := by rw [Leaf.jwrite_frame]
@[simp] theorem Leaf.jwrite_hng (d : Leaf) (r : JRec) : (d.jwrite r).hng = d.hng := by rw [Leaf.jwrite_frame]
@[simp] theorem Leaf.jwrite_flt (d : Leaf) (r : JRec) : (d.jwrite r).flt = d.flt := by rw [Leaf.jwrite_frame]
@[simp] theorem Leaf.jwrite_key (d : Leaf) (r : JRec) : (d.jwrite r).key = d.key := by rw [Leaf.jwrite_frame]
@[simp] theorem Leaf.jwrite_cyc (d : Leaf) (r : JRec) : (d.jwrite r).cyc = d.cyc := by rw [Leaf.jwrite_frame]
@[simp] theorem Leaf.jwrite_tiles (d : Leaf) (r : JRec) : (d.jwrite r).tiles = d.tiles := by rw [Leaf.jwrite_frame]
@[simp] theorem Leaf.jwrite_tum (d : Leaf) (r : JRec) : (d.jwrite r).tum = d.tum := by rw [Leaf.jwrite_frame]
@[simp] theorem Leaf.jwrite_fab (d : Leaf) (r : JRec) : (d.jwrite r).fab = d.fab := by rw [Leaf.jwrite_frame]
@[simp] theorem Leaf.jwrite_prof (d : Leaf) (r : JRec) : (d.jwrite r).prof = d.prof := by rw [Leaf.jwrite_frame]
@[simp] theorem Leaf.jwrite_pwr (d : Leaf) (r : JRec) : (d.jwrite r).pwr = d.pwr := by rw [Leaf.jwrite_frame]
@[simp] theorem Leaf.jwrite_upd (d : Leaf) (r : JRec) : (d.jwrite r).upd = d.upd := by rw [Leaf.jwrite_frame]
@[simp] theorem Leaf.jwrite_sch (d : Leaf) (r : JRec) : (d.jwrite r).sch = d.sch := by rw [Leaf.jwrite_frame]
@[simp] theorem Leaf.jwrite_rcd (d : Leaf) (r : JRec) : (d.jwrite r).rcd = d.rcd := by rw [Leaf.jwrite_frame]
@[simp] theorem Leaf.jwrite_disc (d : Leaf) (r : JRec) : (d.jwrite r).disc = d.disc := by rw [Leaf.jwrite_frame]
@[simp] theorem Leaf.jwrite_saf (d : Leaf) (r : JRec) : (d.jwrite r).saf = d.saf := by rw [Leaf.jwrite_frame]

theorem Leaf.modCmd_frame (d : Leaf) (h : Handle) (f : Cmd → Cmd) :
    d.modCmd h f = { d with hnd := (d.modCmd h f).hnd } := rfl

@[simp] theorem Leaf.modCmd_ident (d : Leaf) (h : Handle) (f : Cmd → Cmd) : (d.modCmd h f).ident = d.ident := by rw [Leaf.modCmd_frame]
@[simp] theorem Leaf.modCmd_bank (d : Leaf) (h : Handle) (f : Cmd → Cmd) : (d.modCmd h f).bank = d.bank := by rw [Leaf.modCmd_frame]
@[simp] theorem Leaf.modCmd_shadow (d : Leaf) (h : Handle) (f : Cmd → Cmd) : (d.modCmd h f).shadow = d.shadow := by rw [Leaf.modCmd_frame]
@[simp] theorem Leaf.modCmd_hold (d : Leaf) (h : Handle) (f : Cmd → Cmd) : (d.modCmd h f).hold = d.hold := by rw [Leaf.modCmd_frame]
@[simp] theorem Leaf.modCmd_rdata (d : Leaf) (h : Handle) (f : Cmd → Cmd) : (d.modCmd h f).rdata = d.rdata := by rw [Leaf.modCmd_frame]
@[simp] theorem Leaf.modCmd_out (d : Leaf) (h : Handle) (f : Cmd → Cmd) : (d.modCmd h f).out = d.out := by rw [Leaf.modCmd_frame]
@[simp] theorem Leaf.modCmd_freeIdx (d : Leaf) (h : Handle) (f : Cmd → Cmd) : (d.modCmd h f).freeIdx = d.freeIdx := by rw [Leaf.modCmd_frame]
@[simp] theorem Leaf.modCmd_lanes (d : Leaf) (h : Handle) (f : Cmd → Cmd) : (d.modCmd h f).lanes = d.lanes := by rw [Leaf.modCmd_frame]
@[simp] theorem Leaf.modCmd_conv (d : Leaf) (h : Handle) (f : Cmd → Cmd) : (d.modCmd h f).conv = d.conv := by rw [Leaf.modCmd_frame]
@[simp] theorem Leaf.modCmd_tim (d : Leaf) (h : Handle) (f : Cmd → Cmd) : (d.modCmd h f).tim = d.tim := by rw [Leaf.modCmd_frame]
@[simp] theorem Leaf.modCmd_hng (d : Leaf) (h : Handle) (f : Cmd → Cmd) : (d.modCmd h f).hng = d.hng := by rw [Leaf.modCmd_frame]
@[simp] theorem Leaf.modCmd_flt (d : Leaf) (h : Handle) (f : Cmd → Cmd) : (d.modCmd h f).flt = d.flt := by rw [Leaf.modCmd_frame]
@[simp] theorem Leaf.modCmd_key (d : Leaf) (h : Handle) (f : Cmd → Cmd) : (d.modCmd h f).key = d.key := by rw [Leaf.modCmd_frame]
@[simp] theorem Leaf.modCmd_cyc (d : Leaf) (h : Handle) (f : Cmd → Cmd) : (d.modCmd h f).cyc = d.cyc := by rw [Leaf.modCmd_frame]
@[simp] theorem Leaf.modCmd_tiles (d : Leaf) (h : Handle) (f : Cmd → Cmd) : (d.modCmd h f).tiles = d.tiles := by rw [Leaf.modCmd_frame]
@[simp] theorem Leaf.modCmd_tum (d : Leaf) (h : Handle) (f : Cmd → Cmd) : (d.modCmd h f).tum = d.tum := by rw [Leaf.modCmd_frame]
@[simp] theorem Leaf.modCmd_fab (d : Leaf) (h : Handle) (f : Cmd → Cmd) : (d.modCmd h f).fab = d.fab := by rw [Leaf.modCmd_frame]
@[simp] theorem Leaf.modCmd_prof (d : Leaf) (h : Handle) (f : Cmd → Cmd) : (d.modCmd h f).prof = d.prof := by rw [Leaf.modCmd_frame]
@[simp] theorem Leaf.modCmd_pwr (d : Leaf) (h : Handle) (f : Cmd → Cmd) : (d.modCmd h f).pwr = d.pwr := by rw [Leaf.modCmd_frame]
@[simp] theorem Leaf.modCmd_upd (d : Leaf) (h : Handle) (f : Cmd → Cmd) : (d.modCmd h f).upd = d.upd := by rw [Leaf.modCmd_frame]
@[simp] theorem Leaf.modCmd_sch (d : Leaf) (h : Handle) (f : Cmd → Cmd) : (d.modCmd h f).sch = d.sch := by rw [Leaf.modCmd_frame]
@[simp] theorem Leaf.modCmd_rcd (d : Leaf) (h : Handle) (f : Cmd → Cmd) : (d.modCmd h f).rcd = d.rcd := by rw [Leaf.modCmd_frame]
@[simp] theorem Leaf.modCmd_disc (d : Leaf) (h : Handle) (f : Cmd → Cmd) : (d.modCmd h f).disc = d.disc := by rw [Leaf.modCmd_frame]
@[simp] theorem Leaf.modCmd_saf (d : Leaf) (h : Handle) (f : Cmd → Cmd) : (d.modCmd h f).saf = d.saf := by rw [Leaf.modCmd_frame]
@[simp] theorem Leaf.rd_modCmd (d : Leaf) (h : Handle) (f : Cmd → Cmd) (g : Fld) (j : Nat) : (d.modCmd h f).rd g j = d.rd g j := by
  simp only [Leaf.rd, Leaf.modCmd_bank]
@[simp] theorem Leaf.is_modCmd (d : Leaf) (h : Handle) (f : Cmd → Cmd) (g : Fld) (j : Nat) : (d.modCmd h f).is g j = d.is g j := by
  simp only [Leaf.is, Leaf.rd_modCmd]

theorem Leaf.complete_frame (d : Leaf) (h : Handle) (st r dt : Nat) :
    d.complete h st r dt = { d with hnd := (d.complete h st r dt).hnd, bank := (d.complete h st r dt).bank, lanes := (d.complete h st r dt).lanes, out := (d.complete h st r dt).out } := by
  apply Leaf.ext <;> first | rfl | (unfold Leaf.complete; (repeat' split) <;> simp)

@[simp] theorem Leaf.complete_ident (d : Leaf) (h : Handle) (st r dt : Nat) : (d.complete h st r dt).ident = d.ident := by rw [Leaf.complete_frame]
@[simp] theorem Leaf.complete_shadow (d : Leaf) (h : Handle) (st r dt : Nat) : (d.complete h st r dt).shadow = d.shadow := by rw [Leaf.complete_frame]
@[simp] theorem Leaf.complete_hold (d : Leaf) (h : Handle) (st r dt : Nat) : (d.complete h st r dt).hold = d.hold := by rw [Leaf.complete_frame]
@[simp] theorem Leaf.complete_rdata (d : Leaf) (h : Handle) (st r dt : Nat) : (d.complete h st r dt).rdata = d.rdata := by rw [Leaf.complete_frame]
@[simp] theorem Leaf.complete_freeIdx (d : Leaf) (h : Handle) (st r dt : Nat) : (d.complete h st r dt).freeIdx = d.freeIdx := by rw [Leaf.complete_frame]
@[simp] theorem Leaf.complete_conv (d : Leaf) (h : Handle) (st r dt : Nat) : (d.complete h st r dt).conv = d.conv := by rw [Leaf.complete_frame]
@[simp] theorem Leaf.complete_tim (d : Leaf) (h : Handle) (st r dt : Nat) : (d.complete h st r dt).tim = d.tim := by rw [Leaf.complete_frame]
@[simp] theorem Leaf.complete_hng (d : Leaf) (h : Handle) (st r dt : Nat) : (d.complete h st r dt).hng = d.hng := by rw [Leaf.complete_frame]
@[simp] theorem Leaf.complete_flt (d : Leaf) (h : Handle) (st r dt : Nat) : (d.complete h st r dt).flt = d.flt := by rw [Leaf.complete_frame]
@[simp] theorem Leaf.complete_key (d : Leaf) (h : Handle) (st r dt : Nat) : (d.complete h st r dt).key = d.key := by rw [Leaf.complete_frame]
@[simp] theorem Leaf.complete_cyc (d : Leaf) (h : Handle) (st r dt : Nat) : (d.complete h st r dt).cyc = d.cyc := by rw [Leaf.complete_frame]
@[simp] theorem Leaf.complete_tiles (d : Leaf) (h : Handle) (st r dt : Nat) : (d.complete h st r dt).tiles = d.tiles := by rw [Leaf.complete_frame]
@[simp] theorem Leaf.complete_tum (d : Leaf) (h : Handle) (st r dt : Nat) : (d.complete h st r dt).tum = d.tum := by rw [Leaf.complete_frame]
@[simp] theorem Leaf.complete_fab (d : Leaf) (h : Handle) (st r dt : Nat) : (d.complete h st r dt).fab = d.fab := by rw [Leaf.complete_frame]
@[simp] theorem Leaf.complete_prof (d : Leaf) (h : Handle) (st r dt : Nat) : (d.complete h st r dt).prof = d.prof := by rw [Leaf.complete_frame]
@[simp] theorem Leaf.complete_pwr (d : Leaf) (h : Handle) (st r dt : Nat) : (d.complete h st r dt).pwr = d.pwr := by rw [Leaf.complete_frame]
@[simp] theorem Leaf.complete_upd (d : Leaf) (h : Handle) (st r dt : Nat) : (d.complete h st r dt).upd = d.upd := by rw [Leaf.complete_frame]
@[simp] theorem Leaf.complete_sch (d : Leaf) (h : Handle) (st r dt : Nat) : (d.complete h st r dt).sch = d.sch := by rw [Leaf.complete_frame]
@[simp] theorem Leaf.complete_rcd (d : Leaf) (h : Handle) (st r dt : Nat) : (d.complete h st r dt).rcd = d.rcd := by rw [Leaf.complete_frame]
@[simp] theorem Leaf.complete_disc (d : Leaf) (h : Handle) (st r dt : Nat) : (d.complete h st r dt).disc = d.disc := by rw [Leaf.complete_frame]
@[simp] theorem Leaf.complete_saf (d : Leaf) (h : Handle) (st r dt : Nat) : (d.complete h st r dt).saf = d.saf := by rw [Leaf.complete_frame]

theorem Leaf.startCmd_frame (d : Leaf) (h : Handle) :
    d.startCmd h = { d with hnd := (d.startCmd h).hnd, bank := (d.startCmd h).bank, lanes := (d.startCmd h).lanes, out := (d.startCmd h).out } := by
  apply Leaf.ext <;> first | rfl | (unfold Leaf.startCmd; simp only []; split <;> simp)

@[simp] theorem Leaf.startCmd_ident (d : Leaf) (h : Handle) : (d.startCmd h).ident = d.ident := by rw [Leaf.startCmd_frame]
@[simp] theorem Leaf.startCmd_shadow (d : Leaf) (h : Handle) : (d.startCmd h).shadow = d.shadow := by rw [Leaf.startCmd_frame]
@[simp] theorem Leaf.startCmd_hold (d : Leaf) (h : Handle) : (d.startCmd h).hold = d.hold := by rw [Leaf.startCmd_frame]
@[simp] theorem Leaf.startCmd_rdata (d : Leaf) (h : Handle) : (d.startCmd h).rdata = d.rdata := by rw [Leaf.startCmd_frame]
@[simp] theorem Leaf.startCmd_freeIdx (d : Leaf) (h : Handle) : (d.startCmd h).freeIdx = d.freeIdx := by rw [Leaf.startCmd_frame]
@[simp] theorem Leaf.startCmd_conv (d : Leaf) (h : Handle) : (d.startCmd h).conv = d.conv := by rw [Leaf.startCmd_frame]
@[simp] theorem Leaf.startCmd_tim (d : Leaf) (h : Handle) : (d.startCmd h).tim = d.tim := by rw [Leaf.startCmd_frame]
@[simp] theorem Leaf.startCmd_hng (d : Leaf) (h : Handle) : (d.startCmd h).hng = d.hng := by rw [Leaf.startCmd_frame]
@[simp] theorem Leaf.startCmd_flt (d : Leaf) (h : Handle) : (d.startCmd h).flt = d.flt := by rw [Leaf.startCmd_frame]
@[simp] theorem Leaf.startCmd_key (d : Leaf) (h : Handle) : (d.startCmd h).key = d.key := by rw [Leaf.startCmd_frame]
@[simp] theorem Leaf.startCmd_cyc (d : Leaf) (h : Handle) : (d.startCmd h).cyc = d.cyc := by rw [Leaf.startCmd_frame]
@[simp] theorem Leaf.startCmd_tiles (d : Leaf) (h : Handle) : (d.startCmd h).tiles = d.tiles := by rw [Leaf.startCmd_frame]
@[simp] theorem Leaf.startCmd_tum (d : Leaf) (h : Handle) : (d.startCmd h).tum = d.tum := by rw [Leaf.startCmd_frame]
@[simp] theorem Leaf.startCmd_fab (d : Leaf) (h : Handle) : (d.startCmd h).fab = d.fab := by rw [Leaf.startCmd_frame]
@[simp] theorem Leaf.startCmd_prof (d : Leaf) (h : Handle) : (d.startCmd h).prof = d.prof := by rw [Leaf.startCmd_frame]
@[simp] theorem Leaf.startCmd_pwr (d : Leaf) (h : Handle) : (d.startCmd h).pwr = d.pwr := by rw [Leaf.startCmd_frame]
@[simp] theorem Leaf.startCmd_upd (d : Leaf) (h : Handle) : (d.startCmd h).upd = d.upd := by rw [Leaf.startCmd_frame]
@[simp] theorem Leaf.startCmd_sch (d : Leaf) (h : Handle) : (d.startCmd h).sch = d.sch := by rw [Leaf.startCmd_frame]
@[simp] theorem Leaf.startCmd_rcd (d : Leaf) (h : Handle) : (d.startCmd h).rcd = d.rcd := by rw [Leaf.startCmd_frame]
@[simp] theorem Leaf.startCmd_disc (d : Leaf) (h : Handle) : (d.startCmd h).disc = d.disc := by rw [Leaf.startCmd_frame]
@[simp] theorem Leaf.startCmd_saf (d : Leaf) (h : Handle) : (d.startCmd h).saf = d.saf := by rw [Leaf.startCmd_frame]

/-! ## Register fields that these operations leave as they were -/

@[simp] theorem Leaf.emit_msix (d : Leaf) (v : Nat) : d.emit (.msix v) = d.log (.msix v) := rfl
@[simp] theorem Leaf.emit_dma (d : Leaf) (a : Nat) (w : List Nat) : d.emit (.dma a w) = d.log (.dma a w) := rfl
@[simp] theorem Leaf.emit_dmaBytes (d : Leaf) (a : Nat) (w : List Byte) : d.emit (.dmaBytes a w) = d.log (.dmaBytes a w) := rfl
@[simp] theorem Leaf.emit_pin (d : Leaf) (n : String) (v : Nat) : d.emit (.pin n v) = d.log (.pin n v) := rfl
@[simp] theorem Leaf.emit_gate (d : Leaf) (t g : Nat) (b : Bool) : d.emit (.gate t g b) = d.log (.gate t g b) := rfl
@[simp] theorem Leaf.emit_trigger (d : Leaf) (n : Nat) : d.emit (.trigger n) = d.log (.trigger n) := rfl
@[simp] theorem Leaf.emit_safeOut (d : Leaf) (n : Nat) (b : Bool) : d.emit (.safeOut n b) = d.log (.safeOut n b) := rfl
@[simp] theorem Leaf.emit_coreIrq (d : Leaf) (p c : Nat) : d.emit (.coreIrq p c) = d.log (.coreIrq p c) := rfl
@[simp] theorem Leaf.emit_net (d : Leaf) (p : Nat) (b : List Byte) : d.emit (.net p b) = d.log (.net p b) := rfl
@[simp] theorem Leaf.emit_marker (d : Leaf) (e : LaneEnd) (m : Marker) : d.emit (.marker e m) = d.log (.marker e m) := rfl
@[simp] theorem Leaf.emit_grant (d : Leaf) (e : LaneEnd) (g : GrantMsg) : d.emit (.grant e g) = d.log (.grant e g) := rfl
@[simp] theorem Leaf.emit_ptp (d : Leaf) (p t o : Nat) (c : Int) (b : Bool) : d.emit (.ptp p t o c b) = d.log (.ptp p t o c b) := rfl

@[simp] theorem Concentrator.emit_pin (d : Concentrator) (n : String) (v : Nat) : d.emit (.pin n v) = d.log (.pin n v) := rfl
@[simp] theorem Concentrator.emit_gate (d : Concentrator) (t g : Nat) (b : Bool) : d.emit (.gate t g b) = d.log (.gate t g b) := rfl
@[simp] theorem Concentrator.emit_marker (d : Concentrator) (e : LaneEnd) (m : Marker) : d.emit (.marker e m) = d.log (.marker e m) := rfl
@[simp] theorem Concentrator.emit_grant (d : Concentrator) (e : LaneEnd) (g : GrantMsg) : d.emit (.grant e g) = d.log (.grant e g) := rfl

@[simp] theorem Cell.emit_pin (d : Cell) (n : String) (v : Nat) : d.emit (.pin n v) = d.log (.pin n v) := rfl
@[simp] theorem Cell.emit_gate (d : Cell) (t g : Nat) (b : Bool) : d.emit (.gate t g b) = d.log (.gate t g b) := rfl
@[simp] theorem Cell.emit_marker (d : Cell) (e : LaneEnd) (m : Marker) : d.emit (.marker e m) = d.log (.marker e m) := rfl
@[simp] theorem Cell.emit_grant (d : Cell) (e : LaneEnd) (g : GrantMsg) : d.emit (.grant e g) = d.log (.grant e g) := rfl

theorem Leaf.rd_congr {d e : Leaf} (h : d.bank = e.bank) (g : Fld) (j : Nat) : d.rd g j = e.rd g j := by simp only [Leaf.rd, h]

theorem Leaf.rd_fltRefresh (d : Leaf) (g : Fld) (j : Nat) (h : g.key j ∉ faultKeys) : d.fltRefresh.rd g j = d.rd g j := by
  simp only [faultKeys, List.mem_cons, List.not_mem_nil, or_false, not_or] at h
  unfold Leaf.fltRefresh
  simp only []
  rw [Leaf.rd_wr_ne, Leaf.rd_wr_ne, Leaf.rd_wr_ne, Leaf.rd_wr_ne, Leaf.rd_wr_ne, Leaf.rd_wr_ne] <;> simp [h]

theorem Leaf.rd_latchDeadbolt (d : Leaf) (code : Nat) (g : Fld) (j : Nat) (h : g.key j ∉ faultKeys) :
    (d.latchDeadbolt code).rd g j = d.rd g j := by
  simp only [faultKeys, List.mem_cons, List.not_mem_nil, or_false, not_or] at h
  unfold Leaf.latchDeadbolt
  simp only [Leaf.rd_emit]
  show Leaf.rd (Leaf.wr _ FLT_STATUS_DEADBOLT 1 0) g j = _
  rw [Leaf.rd_wr_ne _ _ _ _ _ _ (by simp [h])]
  split
  · rfl
  · rw [Leaf.rd_wr_ne, Leaf.rd_wr_ne] <;> simp [h]

theorem Leaf.rd_fltCount (d : Leaf) (cls : FaultClass) (p : Placed) (g : Fld) (j : Nat) (h : g.key j ∉ faultKeys) :
    (d.fltCount cls p).rd g j = d.rd g j := by
  simp only [faultKeys, List.mem_cons, List.not_mem_nil, or_false, not_or] at h
  unfold Leaf.fltCount
  split
  · exact Leaf.rd_wr_ne _ _ _ _ _ _ (by simp [h])
  · split <;> rfl
  · rw [Leaf.sat, Leaf.rd_wr_ne _ _ _ _ _ _ (by simp [h])]; split <;> rfl
  · rw [Leaf.rd_wr_ne _ _ _ _ _ _ (by simp [h]), Leaf.sat, Leaf.rd_wr_ne _ _ _ _ _ _ (by simp [h])]; split <;> rfl

theorem Leaf.rd_fltReact (d : Leaf) (e : FaultRec) (g : Fld) (j : Nat) (h : g.key j ∉ faultKeys) : (d.fltReact e).rd g j = d.rd g j := by
  unfold Leaf.fltReact
  split
  · split <;> rfl
  · exact Leaf.rd_latchDeadbolt _ _ _ _ h
  · rfl

theorem Leaf.rd_raiseRec (d : Leaf) (e : FaultRec) (g : Fld) (j : Nat) (h : g.key j ∉ faultKeys) : (d.raiseRec e).rd g j = d.rd g j := by
  unfold Leaf.raiseRec
  simp only []
  rw [Leaf.rd_fltRefresh _ _ _ h, Leaf.rd_fltReact _ _ _ _ h, Leaf.rd_fltCount _ _ _ _ _ h]
  rfl

theorem Leaf.rd_raise (d : Leaf) (code : Nat) (cls : FaultClass) (inst cause detail : Nat) (g : Fld) (j : Nat) (h : g.key j ∉ faultKeys) :
    (d.raise code cls inst cause detail).rd g j = d.rd g j := d.rd_raiseRec _ g j h

/-- The store of a leaf after a fault. -/
@[simp] theorem Leaf.flt_raise (d : Leaf) (code : Nat) (cls : FaultClass) (inst cause detail : Nat) :
    (d.raise code cls inst cause detail).flt = (FltStore.add 1024 10 d.flt (d.errorRec code cls inst cause detail false)).1 := by
  unfold Leaf.raise Leaf.raiseRec
  simp

/-- A TRIP of the active leaf waits for the boundary (14_faults.md, 01_architecture.md R36). -/
@[simp] theorem Leaf.conv_raise_trip (d : Leaf) (code inst cause detail : Nat) :
    (d.raise code .trip inst cause detail).conv = if d.active then { d.conv with tripPend := true } else d.conv := by
  unfold Leaf.raise Leaf.raiseRec
  simp only [Leaf.fltRefresh_conv, Leaf.fltReact, Leaf.errorRec, Leaf.active, Leaf.fltCount_hng]
  simp only [Bool.not_false, Bool.and_true]
  split <;> simp_all

@[simp] theorem Leaf.conv_raise_note (d : Leaf) (code inst cause detail : Nat) : (d.raise code .note inst cause detail).conv = d.conv := by
  unfold Leaf.raise Leaf.raiseRec
  simp [Leaf.fltReact, Leaf.errorRec]

@[simp] theorem Leaf.conv_raise_alarm (d : Leaf) (code inst cause detail : Nat) : (d.raise code .alarm inst cause detail).conv = d.conv := by
  unfold Leaf.raise Leaf.raiseRec
  simp [Leaf.fltReact, Leaf.errorRec]

/-- The record of an error depends on the identity, the time and the cycle of the leaf only. -/
theorem Leaf.errorRec_congr {d e : Leaf} (hi : e.ident = d.ident) (ht : e.tim = d.tim) (hr : e.rd TIM_RATE_VALUE = d.rd TIM_RATE_VALUE)
    (hu : e.rd TIM_STATUS_UNSET = d.rd TIM_STATUS_UNSET) (code : Nat) (cls : FaultClass) (inst cause detail : Nat) (sup : Bool) :
    e.errorRec code cls inst cause detail sup = d.errorRec code cls inst cause detail sup := by
  simp only [Leaf.errorRec, Leaf.now, Leaf.rate, Leaf.is, hi, ht, hr, hu]

/-- A leaf that differs from `d` neither in its fault store nor in what an error record takes from it raises the error that `d` raises. -/
theorem Leaf.raised_raise {d e : Leaf} (hf : e.flt = d.flt) (hi : e.ident = d.ident) (ht : e.tim = d.tim)
    (hr : e.rd TIM_RATE_VALUE = d.rd TIM_RATE_VALUE) (hu : e.rd TIM_STATUS_UNSET = d.rd TIM_STATUS_UNSET) (code : Nat) (cls : FaultClass)
    (inst cause detail : Nat) : d.Raised (e.raise code cls inst cause detail) code cls inst cause detail := by
  unfold Leaf.Raised
  rw [Leaf.flt_raise, hf, Leaf.errorRec_congr hi ht hr hu]

theorem Concentrator.rd_fltReactNe (d : Concentrator) (e : FaultRec) (g : Fld) (j : Nat) (h : g.key j ∉ concFaultKeys) :
    (if e.cls = .deadbolt then d.wr AFLT_STATUS_DEADBOLT 1 else d).rd g j = d.rd g j := by
  simp only [concFaultKeys, List.mem_cons, List.not_mem_nil, or_false, not_or] at h
  split
  · exact Concentrator.rd_wr_ne _ _ _ _ _ _ (by simp [h])
  · rfl

theorem Concentrator.rd_fltRefresh (d : Concentrator) (g : Fld) (j : Nat) (h : g.key j ∉ concFaultKeys) : d.fltRefresh.rd g j = d.rd g j := by
  simp only [concFaultKeys, List.mem_cons, List.not_mem_nil, or_false, not_or] at h
  unfold Concentrator.fltRefresh
  simp only []
  rw [Concentrator.rd_wr_ne, Concentrator.rd_wr_ne, Concentrator.rd_wr_ne, Concentrator.rd_wr_ne] <;> simp [h]

theorem Concentrator.rd_fltSent (d : Concentrator) (n : Conc) (e : FaultRec) (p : Placed) (g : Fld) (j : Nat)
    (h : g.key j ∉ concFaultKeys) : (d.fltSent n e p).rd g j = d.rd g j := by
  simp only [concFaultKeys, List.mem_cons, List.not_mem_nil, or_false, not_or] at h
  unfold Concentrator.fltSent
  split
  · exact Concentrator.rd_wr_ne _ _ _ _ _ _ (by simp [h])
  · split <;> simp
  · split <;> simp
  · split <;> simp

theorem Concentrator.rd_raise (d : Concentrator) (n : Conc) (code : Nat) (cls : FaultClass) (inst cause detail : Nat) (g : Fld) (j : Nat)
    (h : g.key j ∉ concFaultKeys) : (d.raise n code cls inst cause detail).rd g j = d.rd g j := by
  unfold Concentrator.raise Concentrator.raiseRec
  simp only []
  rw [Concentrator.rd_fltRefresh _ _ _ h, Concentrator.rd_fltReactNe _ _ _ _ h, Concentrator.rd_fltSent _ _ _ _ _ _ h]
  rfl

@[simp] theorem Concentrator.flt_raise (d : Concentrator) (n : Conc) (code : Nat) (cls : FaultClass) (inst cause detail : Nat) :
    (d.raise n code cls inst cause detail).flt = (FltStore.add 16 4 d.flt (d.errorRec n code cls inst cause detail)).1 := by
  unfold Concentrator.raise Concentrator.raiseRec
  simp only []
  split <;> simp

theorem Concentrator.raised_raise {d e : Concentrator} (n : Conc) (hf : e.flt = d.flt) (ht : e.time = d.time) (hu : e.timeUnset = d.timeUnset)
    (hc : e.cyc = d.cyc) (code : Nat) (cls : FaultClass) (inst cause detail : Nat) :
    Concentrator.Raised n d (e.raise n code cls inst cause detail) code cls inst cause detail := by
  unfold Concentrator.Raised
  rw [Concentrator.flt_raise, hf]
  simp only [Concentrator.errorRec, ht, hu, hc]

theorem Leaf.rd_jwrite (d : Leaf) (r : JRec) (g : Fld) (j : Nat) (h : g.key j ≠ HND_JRNL_LIVE.key 0) : (d.jwrite r).rd g j = d.rd g j :=
  Leaf.rd_wr_ne _ _ _ _ _ _ h

theorem Leaf.rd_startCmd (d : Leaf) (c : Handle) (g : Fld) (j : Nat) (h : g.key j ≠ HND_JRNL_LIVE.key 0) :
    (d.startCmd c).rd g j = d.rd g j := by
  unfold Leaf.startCmd
  simp only []
  split
  · rw [Leaf.rd_mirror, Leaf.rd_jwrite _ _ _ _ h, Leaf.rd_modCmd]
  · rw [Leaf.rd_jwrite _ _ _ _ h, Leaf.rd_modCmd]

theorem Leaf.rd_complete (d : Leaf) (c : Handle) (st r dt : Nat) (g : Fld) (j : Nat) (h : g.key j ≠ HND_JRNL_LIVE.key 0) :
    (d.complete c st r dt).rd g j = d.rd g j := by
  unfold Leaf.complete
  split
  · rfl
  · split
    · rfl
    · split
      · rfl
      · simp only []; rw [Leaf.rd_mirror, Leaf.rd_jwrite _ _ _ _ h]; rfl

end Sys2Proof.Machine
end

