-- ==== Sys2Proof/Laws/Commands.lean ====
section
/-! SUPPORT. A command that waits runs its effect, and a command that is completed has its completion decided
(12_host_interface_and_handles.md R400, R412, R417). -/

namespace Sys2Proof.Machine
open Reg

theorem find_map_handle (h k : Handle) (f : Cmd → Cmd) (hf : ∀ c, (f c).handle = c.handle) (cs : List Cmd) :
    (cs.map fun c => if c.handle = h then f c else c).find? (·.handle = k) =
      (cs.find? (·.handle = k)).map fun c => if c.handle = h then f c else c := by
  induction cs with
  | nil => rfl
  | cons c r ih =>
    simp only [List.map_cons, List.find?_cons]
    have e : (if c.handle = h then f c else c).handle = c.handle := by split <;> simp [hf]
    rw [e]
    by_cases q : c.handle = k
    · simp [q]
    · simp [q, ih]

theorem Leaf.cmd_handle {d : Leaf} {h : Handle} {c : Cmd} (hc : d.cmd h = some c) : c.handle = h := by
  simpa using List.find?_some hc

theorem Leaf.cmd_modCmd (d : Leaf) (h : Handle) (f : Cmd → Cmd) (hf : ∀ c, (f c).handle = c.handle) {c : Cmd} (hc : d.cmd h = some c) :
    (d.modCmd h f).cmd h = some (f c) := by
  show List.find? _ (List.map _ _) = _
  rw [find_map_handle h h f hf]
  have : d.hnd.cmds.find? (·.handle = h) = some c := hc
  rw [this]
  simp [Leaf.cmd_handle hc]

theorem Leaf.cmd_congr {d e : Leaf} (h : d.hnd.cmds = e.hnd.cmds) (k : Handle) : d.cmd k = e.cmd k := by simp only [Leaf.cmd, h]

@[simp] theorem Leaf.jwrite_hnd_cmds (d : Leaf) (r : JRec) : (d.jwrite r).hnd.cmds = d.hnd.cmds := rfl
@[simp] theorem Leaf.jwrite_hnd_compl (d : Leaf) (r : JRec) : (d.jwrite r).hnd.compl = d.hnd.compl := rfl
@[simp] theorem Leaf.jwrite_hnd_cseq (d : Leaf) (r : JRec) : (d.jwrite r).hnd.cseq = d.hnd.cseq := rfl
@[simp] theorem Leaf.jwrite_hnd_seq (d : Leaf) (r : JRec) : (d.jwrite r).hnd.seq = d.hnd.seq := rfl
@[simp] theorem Leaf.jwrite_hnd_cqNext (d : Leaf) (r : JRec) : (d.jwrite r).hnd.cqNext = d.hnd.cqNext := rfl
@[simp] theorem Leaf.jwrite_hnd_ack (d : Leaf) (r : JRec) : (d.jwrite r).hnd.ack = d.hnd.ack := rfl
@[simp] theorem Leaf.jwrite_hnd_accepting (d : Leaf) (r : JRec) : (d.jwrite r).hnd.accepting = d.hnd.accepting := rfl
@[simp] theorem Leaf.jwrite_hnd_late (d : Leaf) (r : JRec) : (d.jwrite r).hnd.late = d.hnd.late := rfl
@[simp] theorem Leaf.jwrite_hnd_remote (d : Leaf) (r : JRec) : (d.jwrite r).hnd.remote = d.hnd.remote := rfl
@[simp] theorem Leaf.jwrite_hnd_stopped (d : Leaf) (r : JRec) : (d.jwrite r).hnd.stopped = d.hnd.stopped := rfl
@[simp] theorem Leaf.jwrite_hnd_mramBad (d : Leaf) (r : JRec) : (d.jwrite r).hnd.mramBad = d.hnd.mramBad := rfl
@[simp] theorem Leaf.jwrite_hnd_formatCseq (d : Leaf) (r : JRec) : (d.jwrite r).hnd.formatCseq = d.hnd.formatCseq := rfl
@[simp] theorem Leaf.jwrite_hnd_unsignalled (d : Leaf) (r : JRec) : (d.jwrite r).hnd.unsignalled = d.hnd.unsignalled := rfl
@[simp] theorem Leaf.modCmd_hnd_compl (d : Leaf) (h : Handle) (f : Cmd → Cmd) : (d.modCmd h f).hnd.compl = d.hnd.compl := rfl
@[simp] theorem Leaf.modCmd_hnd_journal (d : Leaf) (h : Handle) (f : Cmd → Cmd) : (d.modCmd h f).hnd.journal = d.hnd.journal := rfl
@[simp] theorem Leaf.modCmd_hnd_mram (d : Leaf) (h : Handle) (f : Cmd → Cmd) : (d.modCmd h f).hnd.mram = d.hnd.mram := rfl
@[simp] theorem Leaf.modCmd_hnd_jnext (d : Leaf) (h : Handle) (f : Cmd → Cmd) : (d.modCmd h f).hnd.jnext = d.hnd.jnext := rfl
@[simp] theorem Leaf.modCmd_hnd_newest (d : Leaf) (h : Handle) (f : Cmd → Cmd) : (d.modCmd h f).hnd.newest = d.hnd.newest := rfl
@[simp] theorem Leaf.modCmd_hnd_cseq (d : Leaf) (h : Handle) (f : Cmd → Cmd) : (d.modCmd h f).hnd.cseq = d.hnd.cseq := rfl
@[simp] theorem Leaf.modCmd_hnd_seq (d : Leaf) (h : Handle) (f : Cmd → Cmd) : (d.modCmd h f).hnd.seq = d.hnd.seq := rfl
@[simp] theorem Leaf.modCmd_hnd_cqNext (d : Leaf) (h : Handle) (f : Cmd → Cmd) : (d.modCmd h f).hnd.cqNext = d.hnd.cqNext := rfl
@[simp] theorem Leaf.modCmd_hnd_ack (d : Leaf) (h : Handle) (f : Cmd → Cmd) : (d.modCmd h f).hnd.ack = d.hnd.ack := rfl
@[simp] theorem Leaf.modCmd_hnd_accepting (d : Leaf) (h : Handle) (f : Cmd → Cmd) : (d.modCmd h f).hnd.accepting = d.hnd.accepting := rfl
@[simp] theorem Leaf.modCmd_hnd_late (d : Leaf) (h : Handle) (f : Cmd → Cmd) : (d.modCmd h f).hnd.late = d.hnd.late := rfl
@[simp] theorem Leaf.modCmd_hnd_remote (d : Leaf) (h : Handle) (f : Cmd → Cmd) : (d.modCmd h f).hnd.remote = d.hnd.remote := rfl
@[simp] theorem Leaf.modCmd_hnd_stopped (d : Leaf) (h : Handle) (f : Cmd → Cmd) : (d.modCmd h f).hnd.stopped = d.hnd.stopped := rfl
@[simp] theorem Leaf.modCmd_hnd_mramBad (d : Leaf) (h : Handle) (f : Cmd → Cmd) : (d.modCmd h f).hnd.mramBad = d.hnd.mramBad := rfl
@[simp] theorem Leaf.modCmd_hnd_formatCseq (d : Leaf) (h : Handle) (f : Cmd → Cmd) : (d.modCmd h f).hnd.formatCseq = d.hnd.formatCseq := rfl
@[simp] theorem Leaf.modCmd_hnd_unsignalled (d : Leaf) (h : Handle) (f : Cmd → Cmd) : (d.modCmd h f).hnd.unsignalled = d.hnd.unsignalled := rfl

@[simp] theorem Leaf.startCmd_hnd_compl (d : Leaf) (h : Handle) : (d.startCmd h).hnd.compl = d.hnd.compl := by
  unfold Leaf.startCmd; simp only []; split <;> simp
@[simp] theorem Leaf.startCmd_hnd_cseq (d : Leaf) (h : Handle) : (d.startCmd h).hnd.cseq = d.hnd.cseq := by
  unfold Leaf.startCmd; simp only []; split <;> simp
@[simp] theorem Leaf.startCmd_hnd_seq (d : Leaf) (h : Handle) : (d.startCmd h).hnd.seq = d.hnd.seq := by
  unfold Leaf.startCmd; simp only []; split <;> simp
@[simp] theorem Leaf.startCmd_hnd_cqNext (d : Leaf) (h : Handle) : (d.startCmd h).hnd.cqNext = d.hnd.cqNext := by
  unfold Leaf.startCmd; simp only []; split <;> simp
@[simp] theorem Leaf.startCmd_hnd_ack (d : Leaf) (h : Handle) : (d.startCmd h).hnd.ack = d.hnd.ack := by
  unfold Leaf.startCmd; simp only []; split <;> simp
@[simp] theorem Leaf.startCmd_hnd_accepting (d : Leaf) (h : Handle) : (d.startCmd h).hnd.accepting = d.hnd.accepting := by
  unfold Leaf.startCmd; simp only []; split <;> simp
@[simp] theorem Leaf.startCmd_hnd_late (d : Leaf) (h : Handle) : (d.startCmd h).hnd.late = d.hnd.late := by
  unfold Leaf.startCmd; simp only []; split <;> simp
@[simp] theorem Leaf.startCmd_hnd_remote (d : Leaf) (h : Handle) : (d.startCmd h).hnd.remote = d.hnd.remote := by
  unfold Leaf.startCmd; simp only []; split <;> simp
@[simp] theorem Leaf.startCmd_hnd_stopped (d : Leaf) (h : Handle) : (d.startCmd h).hnd.stopped = d.hnd.stopped := by
  unfold Leaf.startCmd; simp only []; split <;> simp
@[simp] theorem Leaf.startCmd_hnd_mramBad (d : Leaf) (h : Handle) : (d.startCmd h).hnd.mramBad = d.hnd.mramBad := by
  unfold Leaf.startCmd; simp only []; split <;> simp
@[simp] theorem Leaf.startCmd_hnd_formatCseq (d : Leaf) (h : Handle) : (d.startCmd h).hnd.formatCseq = d.hnd.formatCseq := by
  unfold Leaf.startCmd; simp only []; split <;> simp
@[simp] theorem Leaf.startCmd_hnd_unsignalled (d : Leaf) (h : Handle) : (d.startCmd h).hnd.unsignalled = d.hnd.unsignalled := by
  unfold Leaf.startCmd; simp only []; split <;> simp

@[simp] theorem Leaf.complete_hnd_seq (d : Leaf) (h : Handle) (st r dt : Nat) : (d.complete h st r dt).hnd.seq = d.hnd.seq := by
  unfold Leaf.complete; (repeat' split) <;> simp
@[simp] theorem Leaf.complete_hnd_cqNext (d : Leaf) (h : Handle) (st r dt : Nat) : (d.complete h st r dt).hnd.cqNext = d.hnd.cqNext := by
  unfold Leaf.complete; (repeat' split) <;> simp
@[simp] theorem Leaf.complete_hnd_ack (d : Leaf) (h : Handle) (st r dt : Nat) : (d.complete h st r dt).hnd.ack = d.hnd.ack := by
  unfold Leaf.complete; (repeat' split) <;> simp
@[simp] theorem Leaf.complete_hnd_accepting (d : Leaf) (h : Handle) (st r dt : Nat) : (d.complete h st r dt).hnd.accepting = d.hnd.accepting := by
  unfold Leaf.complete; (repeat' split) <;> simp
@[simp] theorem Leaf.complete_hnd_late (d : Leaf) (h : Handle) (st r dt : Nat) : (d.complete h st r dt).hnd.late = d.hnd.late := by
  unfold Leaf.complete; (repeat' split) <;> simp
@[simp] theorem Leaf.complete_hnd_remote (d : Leaf) (h : Handle) (st r dt : Nat) : (d.complete h st r dt).hnd.remote = d.hnd.remote := by
  unfold Leaf.complete; (repeat' split) <;> simp
@[simp] theorem Leaf.complete_hnd_stopped (d : Leaf) (h : Handle) (st r dt : Nat) : (d.complete h st r dt).hnd.stopped = d.hnd.stopped := by
  unfold Leaf.complete; (repeat' split) <;> simp
@[simp] theorem Leaf.complete_hnd_mramBad (d : Leaf) (h : Handle) (st r dt : Nat) : (d.complete h st r dt).hnd.mramBad = d.hnd.mramBad := by
  unfold Leaf.complete; (repeat' split) <;> simp
@[simp] theorem Leaf.complete_hnd_formatCseq (d : Leaf) (h : Handle) (st r dt : Nat) : (d.complete h st r dt).hnd.formatCseq = d.hnd.formatCseq := by
  unfold Leaf.complete; (repeat' split) <;> simp
@[simp] theorem Leaf.complete_hnd_unsignalled (d : Leaf) (h : Handle) (st r dt : Nat) : (d.complete h st r dt).hnd.unsignalled = d.hnd.unsignalled := by
  unfold Leaf.complete; (repeat' split) <;> simp

theorem Leaf.startCmd_cmds (d : Leaf) (h : Handle) :
    (d.startCmd h).hnd.cmds = d.hnd.cmds.map fun c => if c.handle = h then { c with effective := true } else c := by
  unfold Leaf.startCmd
  simp only []
  split <;> simp [Leaf.modCmd]

/-- A command that has started is the one accepted, marked effective. -/
theorem Leaf.cmd_startCmd {d : Leaf} {h : Handle} {c : Cmd} (hc : d.cmd h = some c) :
    (d.startCmd h).cmd h = some { c with effective := true } := by
  rw [Leaf.cmd_congr (e := d.modCmd h fun c => { c with effective := true }) (d.startCmd_cmds h)]
  exact d.cmd_modCmd h (fun c => { c with effective := true }) (fun _ => rfl) hc

@[simp] theorem Leaf.active_startCmd (d : Leaf) (h : Handle) : (d.startCmd h).active = d.active := by simp only [Leaf.active, Leaf.startCmd_hng]

/-- A waiting command whose effect lies outside the pair, or that only reads, takes its effect after START. -/
theorem Leaf.runOuter_waits {d : Leaf} {h : Handle} {cls op : Nat} {c : Cmd} (w : d.Waits h cls op c) (b : Bool) (f : Cmd → Leaf → Leaf) :
    d.runOuter h cls op b f = f c (d.startCmd h) := by
  obtain ⟨hc, rfl, rfl, he, -, ht, ha, hd⟩ := w
  unfold Leaf.runOuter
  rw [hc]
  simp [he, ht, ha, hd]

/-- A waiting command whose effect lies inside the pair takes its effect after START once it is due. -/
theorem Leaf.runCmd_waits {d : Leaf} {h : Handle} {cls op : Nat} {c : Cmd} (w : d.WaitsDue h cls op c) (f : Cmd → Leaf → Leaf) :
    d.runCmd h cls op f = f c (d.startCmd h) := by
  obtain ⟨⟨hc, rfl, rfl, he, -, ht, -, hd⟩, hb⟩ := w
  unfold Leaf.runCmd
  rw [hc]
  simp [he, ht, hd, hb]

/-- On the active leaf an undecided command is completed with what it is given. -/
theorem Leaf.complete_answered {d : Leaf} {h : Handle} {c : Cmd} (hc : d.cmd h = some c) (hd : c.decided = false) (ha : d.active = true)
    (st r dt : Nat) : (d.complete h st r dt).Answered h st r dt := by
  refine ⟨⟨h, d.hnd.cseq, st, r % 2 ^ 32, dt % 2 ^ 32, d.tim.cyc % 65536⟩, ?_, rfl, rfl, rfl, rfl⟩
  unfold Leaf.complete
  rw [hc]
  simp [hd, ha]

/-- A started command completes with what it is given. -/
theorem Leaf.complete_started {d : Leaf} {h : Handle} {cls op : Nat} {c : Cmd} (w : d.Waits h cls op c) (st r dt : Nat) :
    ((d.startCmd h).complete h st r dt).Answered h st r dt :=
  Leaf.complete_answered (Leaf.cmd_startCmd w.1) w.2.2.2.2.1 ((d.active_startCmd h).trans w.2.2.2.2.2.2.1) st r dt

end Sys2Proof.Machine
end

