-- ==== Sys2Proof/Laws/Converter.lean ====
section
/-! SUPPORT. What a change of the converter state can change, and what it gives (01_architecture.md Table 1.5). -/

namespace Sys2Proof.Machine
open Reg

theorem Leaf.foldl_bank_frame {α : Type} (f : Leaf → α → Leaf) (h : ∀ d a, f d a = { d with bank := (f d a).bank }) (l : List α) (d : Leaf) :
    l.foldl f d = { d with bank := (l.foldl f d).bank } := by
  induction l generalizing d with
  | nil => rfl
  | cons a r ih => rw [List.foldl_cons, ih (f d a), h d a]

theorem Leaf.clearIso_frame (d : Leaf) : d.clearIso = { d with bank := d.clearIso.bank } := Leaf.foldl_bank_frame _ (fun _ _ => rfl) _ _

theorem Leaf.rd_clearIso (d : Leaf) (g : Fld) (j : Nat) (h : ∀ a < 6, g.key j ≠ TUM_STANDSTILL_ISO.key a) : d.clearIso.rd g j = d.rd g j := by
  have : ∀ (l : List Nat) (d : Leaf), (∀ a ∈ l, a < 6) →
      (l.foldl (fun d a => d.wr TUM_STANDSTILL_ISO 0 a) d).rd g j = d.rd g j := by
    intro l
    induction l with
    | nil => intros; rfl
    | cons a r ih =>
      intro d hl
      rw [List.foldl_cons, ih _ fun b hb => hl b (List.mem_cons_of_mem _ hb), Leaf.rd_wr_ne _ _ _ _ _ _ (h a (hl a List.mem_cons_self))]
  exact this _ d fun a ha => List.mem_range.mp ha

end Sys2Proof.Machine
end

