-- ==== Sys2Proof/Machine/LineCode.lean ====
section
/-! DEFINITION. What the frames are on the wire (10_flenor_links.md R348 to R361, R364, R372): levels, precoding, scrambler, comma, blocks, the
Reed-Solomon code, the CRC, and the bit layouts. The commands carry whole frames, so no command runs through these definitions (log entry 36, DESIGN CHOICE). -/

namespace Sys2Proof.Machine

/-! ## Levels and precoding (R348, R349) -/

/-- The index of the level of a bit pair, by the Gray code: 00 → -3, 01 → -1, 11 → +1, 10 → +3. -/
def pamIndex : Nat → Nat
  | 0 => 0
  | 1 => 1
  | 3 => 2
  | _ => 3

/-- The bit pair of a level index. -/
def pamPair : Nat → Nat
  | 0 => 0
  | 1 => 1
  | 2 => 3
  | _ => 2

/-- The level of an index, and the level that a receiver of inverted polarity negates. -/
def pamLevel (i : Nat) : Int := 2 * (i : Int) - 3

/-- The precoder: y_n = (x_n - y_(n-1)) mod 4, from the index `p` sent before, 0 after a comma. -/
def precode : Nat → List Nat → List Nat
  | _, [] => []
  | p, x :: r => let y := (x + 4 - p % 4) % 4; y :: precode y r

/-- The receiver: x_n = (y_n + y_(n-1)) mod 4. -/
def unprecode : Nat → List Nat → List Nat
  | _, [] => []
  | p, y :: r => (y + p) % 4 :: unprecode y r

/-- The level indices of a string of bits, the earlier bit of a pair as the more significant (log entry 36, DESIGN CHOICE). -/
def bitIndices : List Bool → List Nat
  | a :: b :: r => pamIndex (2 * b2n a + b2n b) :: bitIndices r
  | _ => []

/-- The bits of level indices. -/
def indexBits (l : List Nat) : List Bool := l.flatMap fun i => [bitOf (pamPair i) 1, bitOf (pamPair i) 0]

/-! ## Scrambler, comma and block headers (R350 to R352) -/

/-- A tap of the scrambler: the bit sent `n` bits before, the newest first. -/
def tap (s : List Bool) (n : Nat) : Bool := s.getD (n - 1) false

/-- The scrambler x^58 + x^39 + 1 from the bits sent before (log entry 36, DESIGN CHOICE). -/
def scramble : List Bool → List Bool → List Bool
  | _, [] => []
  | s, b :: r => let o := xor b (xor (tap s 39) (tap s 58)); o :: scramble (o :: s) r

/-- The descrambler, which synchronises itself: its taps are the bits received (log entry 36, DESIGN CHOICE). -/
def descramble : List Bool → List Bool → List Bool
  | _, [] => []
  | s, o :: r => xor o (xor (tap s 39) (tap s 58)) :: descramble (o :: s) r

/-- The levels of the comma, as indices (log entry 36, DESIGN CHOICE). -/
def comma : List Nat :=
  List.replicate 8 3 ++ List.replicate 8 0 ++ List.replicate 4 3 ++ List.replicate 4 0 ++ [3, 3, 0, 0, 3, 0, 3, 0]

/-- What a receiver finds in 32 level indices: an upright comma, an inverted one, or none. -/
def findComma (l : List Nat) : Option Bool := if l = comma then some false else if l.map (3 - ·) = comma then some true else none

/-- The block headers. -/
inductive BlockHead where
  | cont | start | link | invalid
  deriving DecidableEq, Repr

def BlockHead.ofBits : Nat → BlockHead
  | 1 => .cont
  | 2 => .start
  | 3 => .link
  | _ => .invalid

def BlockHead.bits : BlockHead → Nat
  | .cont => 1
  | .start => 2
  | .link => 3
  | .invalid => 0

/-- A quantity of `n` bits, most significant bit first. -/
def msbBits (n v : Nat) : List Bool := ((List.range n).map (bitOf v)).reverse

/-- A string of bits as a number, the first as the most significant. -/
def numOf (l : List Bool) : Nat := l.foldl (fun v b => 2 * v + b2n b) 0

/-- The bits of a block: the header as it is, the payload scrambled from the payload bits before. -/
def blockBits (before : List Bool) (h : BlockHead) (payload : Nat) : List Bool := msbBits 2 h.bits ++ scramble before (msbBits 256 payload)

/-! ## The Reed-Solomon code RS(272,258) over GF(2^10) (R353) -/

/-- The product of a field element with α, reduced by x^10 + x^3 + 1. -/
def gfAlpha (a : Nat) : Nat := if a < 512 then 2 * a else Nat.xor (2 * a) 1033

/-- The product of two field elements, over the low `n` bits of the second. -/
def gfMulBits (a b : Nat) : Nat → Nat
  | 0 => 0
  | n + 1 => Nat.xor (gfAlpha (gfMulBits a (b / 2) n)) (if b % 2 = 1 then a else 0)
def gfMul (a b : Nat) : Nat := gfMulBits a b 10

/-- α^i. -/
def gfPow : Nat → Nat
  | 0 => 1
  | n + 1 => gfAlpha (gfPow n)

/-- The value of a polynomial, highest power first. -/
def gfEval (p : List Nat) (x : Nat) : Nat := p.foldl (fun v c => Nat.xor (gfMul v x) c) 0

/-- The product of a polynomial with (x - r), highest power first. -/
def polyTimes (p : List Nat) (r : Nat) : List Nat :=
  (p ++ [0]).zipWith Nat.xor (0 :: p.map (gfMul r))

/-- The generator (x - α^0)(x - α^1)…(x - α^13) (log entry 36, DESIGN CHOICE). -/
def rsGen : List Nat := (List.range 14).foldl (fun p i => polyTimes p (gfPow i)) [1]

/-- One step of the division by the generator: the remainder after one more data symbol. -/
def rsStep (rem : List Nat) (c : Nat) : List Nat :=
  let f := Nat.xor (rem.headD 0) c
  (rem.drop 1 ++ [0]).zipWith Nat.xor ((rsGen.drop 1).map (gfMul f))

/-- A codeword: the 258 data symbols, then the 14 parity symbols (log entry 36, DESIGN CHOICE). -/
def rsEncode (data : List Nat) : List Nat := data ++ data.foldl rsStep (List.replicate 14 0)

/-- The symbols are those of a codeword: the generator's roots are roots of the polynomial. -/
def rsCode (w : List Nat) : Bool := w.length = 272 && w.all (· < 1024) && (List.range 14).all fun i => gfEval w (gfPow i) = 0

/-- The symbols in which two words differ; their count is what xx_ERR.CORR counts. -/
def rsErrors (a b : List Nat) : Nat := ((a.zip b).filter fun x => x.1 ≠ x.2).length

/-- The decoder corrects the received symbols `r` to the codeword `c`: at most 7 of them are wrong. -/
def rsCorrects (r c : List Nat) : Bool := rsCode c && r.length = 272 && rsErrors r c ≤ 7

/-- The data symbols of ten blocks of 258 bits, ten bits at a time. -/
def tenBits : Nat → List Bool → List Nat
  | 0, _ => []
  | n + 1, l => numOf (l.take 10) :: tenBits n (l.drop 10)
def rsData (blocks : List (List Bool)) : List Nat := tenBits 258 blocks.flatten

/-! ## The word stream of a fast lane (R354, R355) -/

/-- A quantity of `n` words, most significant word first. -/
def msWords (n v : Nat) : List Nat := (((List.range n).map fun i => v / 2 ^ (32 * i) % 2 ^ 32)).reverse

/-- The words of frames with the mark of the first word of each. -/
def streamOf (frames : List (List Nat)) : List (Nat × Bool) :=
  frames.flatMap fun f => match f with | w :: r => (w, true) :: r.map (·, false) | [] => []

/-- Data blocks of eight words; the last block is filled with FILL frames of one zero word. -/
def dataBlocks : Nat → List (Nat × Bool) → List (BlockHead × Nat)
  | 0, _ => []
  | _, [] => []
  | n + 1, l =>
    let b := (l ++ List.replicate 8 (0, true)).take 8
    (if (b.headD (0, false)).2 then .start else .cont, b.foldl (fun v w => v * 2 ^ 32 + w.1) 0) :: dataBlocks n (l.drop 8)

/-- A frame starts at word 0 of at least one block in every 8. -/
def startsEnough (bs : List BlockHead) : Bool := (List.range (bs.length - 7)).all fun i => ((bs.drop i).take 8).contains .start

/-- The tag word of a tagged frame. -/
def tagWord (type tseq length : Nat) : Nat := type % 16 * 2 ^ 28 + tseq % 256 * 2 ^ 20 + length % 64

/-- LINK_ACK. -/
def linkAckWord (seq : Nat) (nak : Bool) : Nat := 0xE * 2 ^ 28 + seq % 256 * 2 ^ 20 + b2n nak * 2 ^ 19

/-- Command words, two in a word with that of the lower port on top. -/
def pairUp : List Nat → List Nat
  | a :: b :: r => (a * 65536 + b) :: pairUp r
  | [a] => [a * 65536]
  | [] => []

/-- The words of a frame of the output log on a fast lane, with the TSEQ of a tagged one (Table 10.2). -/
def fastWords (type tseq : Nat) (payload : List Nat) : List Nat :=
  match type, payload with
  | 0, _ => [0]
  | 1, h :: ws => msWords 4 h ++ pairUp ws
  | 3, p :: f :: _ => msWords 2 (3 * 2 ^ 60 + 2 ^ 56 + p * 2 ^ 48) ++ msWords 4 f
  | 4, v :: _ => msWords 16 v
  | 7, v :: _ => msWords 2 v
  | t, ws => if 8 ≤ t && t ≤ 13 then tagWord t tseq ws.length :: ws else match ws with | h :: _ => msWords 4 h | [] => []

/-- A frame type that the direction of an uplink carries: from the leaf, or from the concentrator. -/
def fastCarries (fromLeaf : Bool) (type : Nat) : Bool :=
  [0, 8, 14].contains type || (if fromLeaf then [1, 2, 5, 6, 7, 9, 12] else [3, 4, 10, 11]).contains type

/-! ## Cell lanes (R360, Table 10.5) -/

/-- The CRC-16 of a string of bits: x^16 + x^12 + x^5 + 1, from 0xFFFF, without a final inversion (log entry 36, DESIGN CHOICE). -/
def crc16 (l : List Bool) : Nat :=
  l.foldl (fun c b => if xor (bitOf c 15) b then Nat.xor (c * 2 % 65536) 0x1021 else c * 2 % 65536) 0xFFFF

/-- 240 bits with their CRC below them. -/
def withCrc (v : Nat) : Nat := v % 2 ^ 240 * 65536 + crc16 (msbBits 240 v)
/-- The CRC of 256 bits holds. -/
def crcHolds (w : Nat) : Bool := w % 65536 = crc16 (msbBits 240 (w / 65536))

/-- A cell-lane frame: TYPE, the acknowledgement it carries, TSEQ and the body. -/
structure CellFrame where
  type : Nat
  ack : Option Nat
  tseq : Nat
  body : Nat
  deriving DecidableEq, Repr

/-- The block payload of a cell-lane frame (log entry 36, DESIGN CHOICE). -/
def CellFrame.payload (f : CellFrame) : Nat :=
  withCrc (f.type % 16 * 2 ^ 236 + b2n f.ack.isSome * 2 ^ 235 + (f.ack.getD 0) % 256 * 2 ^ 227 + f.tseq % 256 * 2 ^ 219 + f.body % 2 ^ 219)

/-- The frame of a payload; none where the CRC fails. -/
def CellFrame.ofPayload (w : Nat) : Option CellFrame :=
  if crcHolds w then
    some { type := bits w 255 252, ack := if bitOf w 251 then some (bits w 250 243) else none, tseq := bits w 242 235, body := bits w 234 16 }
  else none

/-- A frame type that the direction of a cell lane carries. -/
def cellCarries (down : Bool) (type : Nat) : Bool := type = 10 || (if down then [1, 3, 6, 9] else [2, 4, 5, 7, 8]).contains type

/-! ## The marker block (Table 10.7) -/

/-- The payload of a marker block. -/
def markerPayload (m : Marker) : Nat :=
  withCrc (2 ^ 232 + m.id % 256 * 2 ^ 224 + m.echo % 256 * 2 ^ 216 + m.turn % 2 ^ 24 * 2 ^ 192 + m.cycle % 65536 * 2 ^ 176 +
    m.phase % 2 ^ 24 * 2 ^ 152 + m.delay % 2 ^ 24 * 2 ^ 128 + toTs96 m.time % 2 ^ 96 * 2 ^ 32 + m.lane % 256 * 2 ^ 24 +
    (b2n m.trainOk + 2 * b2n m.upstream + 4 * b2n m.unset) * 2 ^ 16)

/-- The marker of a link block's payload; none where the CRC fails or BTYPE is another. -/
def markerOfPayload (w : Nat) : Option Marker :=
  if crcHolds w && bits w 255 248 = 1 then
    some { id := bits w 247 240, echo := bits w 239 232, turn := bits w 231 208, cycle := bits w 207 192, phase := bits w 191 168,
           delay := bits w 167 144, time := ofTs96 (bits w 143 48), lane := bits w 47 40, trainOk := bitOf w 32, upstream := bitOf w 33,
           unset := bitOf w 34 }
  else none

/-! ## PRBS patterns (R372) -/

/-- The taps of a PRBS code: 1 PRBS7, 2 PRBS15, 3 PRBS23, 4 PRBS31. -/
def prbsTaps : Nat → Option (Nat × Nat)
  | 1 => some (7, 6)
  | 2 => some (15, 14)
  | 3 => some (23, 18)
  | 4 => some (31, 28)
  | _ => none

/-- The next `n` bits of a pattern from the bits before, the newest first (log entry 36, DESIGN CHOICE). -/
def prbs (t : Nat × Nat) : Nat → List Bool → List Bool
  | 0, _ => []
  | n + 1, s => let b := xor (tap s t.1) (tap s t.2); b :: prbs t n (b :: s)

end Sys2Proof.Machine
end

