-- ==== Sys2Proof/Laws/LineCode.lean ====
section
/-! SUPPORT. The receiver of a lane gives back what its transmitter sent (10_flenor_links.md R348 to R353). -/

namespace Sys2Proof.Machine

theorem pamPair_pamIndex : ∀ p < 4, pamPair (pamIndex p) = p := by decide

/-- The precoded indices are again four. -/
theorem precode_lt (l : List Nat) (p : Nat) : ∀ y ∈ precode p l, y < 4 := by
  induction l generalizing p with
  | nil => intro y h; cases h
  | cons x r ih =>
    intro y h
    simp only [precode, List.mem_cons] at h
    rcases h with h | h
    · omega
    · exact ih _ y h

/-- The receiver recovers the indices (R349). -/
theorem unprecode_precode (l : List Nat) (p : Nat) (h : ∀ x ∈ l, x < 4) : unprecode p (precode p l) = l := by
  induction l generalizing p with
  | nil => rfl
  | cons x r ih =>
    have hx : x < 4 := h x (by simp)
    have hr := ih ((x + 4 - p % 4) % 4) (fun y hy => h y (by simp [hy]))
    simp only [precode, unprecode, hr, List.cons.injEq, and_true]
    omega

/-- The descrambler recovers the bits from the same bits before (R350). -/
theorem descramble_scramble (l s : List Bool) : descramble s (scramble s l) = l := by
  induction l generalizing s with
  | nil => rfl
  | cons b r ih =>
    simp only [scramble, descramble, ih, List.cons.injEq, and_true]
    cases b <;> cases tap s 39 <;> cases tap s 58 <;> rfl

/-- An upright comma is found upright, and one of reversed signs inverted (R351). -/
theorem findComma_upright : findComma comma = some false := by decide
theorem findComma_inverted : findComma (comma.map (3 - ·)) = some true := by decide

theorem ofBits_bits (h : BlockHead) : BlockHead.ofBits h.bits = h := by cases h <;> rfl

/-- α^0 and α^13 are roots of the generator (R353), whose degree is 14. -/
theorem rsGen_length : rsGen.length = 15 := by decide
set_option maxRecDepth 8000 in
theorem rsGen_roots : gfEval rsGen (gfPow 0) = 0 ∧ gfEval rsGen (gfPow 13) = 0 := by decide

set_option maxRecDepth 8000 in
/-- A frame with its CRC is read back (Table 10.5). -/
theorem cellFrame_example : CellFrame.ofPayload (CellFrame.payload ⟨2, some 7, 0, 0x1234⟩) = some ⟨2, some 7, 0, 0x1234⟩ := by decide

end Sys2Proof.Machine
end

