-- ==== Sys2Proof/Laws/Parts.lean ====
section
/-! SUPPORT. A meaning built from one of the part combinators answers a next state and touches one part only. -/

namespace Sys2Proof.Machine

/-- What a command that acts on one part answers: a next state that differs only there. -/
def Only (p : Part) (s : State) (r : Host.Outcome State Fault Refusal) : Prop := ∃ t, r = .next t ∧ sameBut p s t

theorem sameBut_refl (p : Part) (s : State) : sameBut p s s := ⟨rfl, fun _ _ => rfl, fun _ _ => rfl, fun _ _ => rfl⟩

theorem next_only (p : Part) (s : State) : Only p s (.next s) := ⟨s, rfl, sameBut_refl p s⟩

theorem onLeaf_only (l : LeafId) (s : State) (f : Leaf → Leaf) : Only (.leaf l) s (onLeaf l s f) :=
  ⟨_, rfl, by simp, fun m h => State.leaf_setLeaf_ne _ _ _ _ fun e => h (congrArg Part.leaf e.symm), fun n _ => by simp, fun c _ => by simp⟩

theorem onConc_only (n : Conc) (s : State) (f : Concentrator → Concentrator) : Only (.conc n) s (onConc n s f) :=
  ⟨_, rfl, by simp, fun l _ => by simp, fun m h => State.conc_setConc_ne _ _ _ _ fun e => h (congrArg Part.conc e.symm), fun c _ => by simp⟩

theorem onCell_only (c : CellId) (s : State) (f : Cell → Cell) : Only (.cell c) s (onCell c s f) :=
  ⟨_, rfl, by simp, fun l _ => by simp, fun n _ => by simp, fun e h => State.cell_setCell_ne _ _ _ _ fun k => h (congrArg Part.cell k.symm)⟩

theorem onPart_only (p : Part) (s : State) (f : Leaf → Leaf) (g : Concentrator → Concentrator) (h : Cell → Cell) :
    Only p.owner s (onPart p s f g h) := by
  cases p with
  | leaf l => exact onLeaf_only l s f
  | conc n => exact onConc_only n s g
  | cell c => exact onCell_only c s h
  | core l k => exact onLeaf_only l s f

theorem onLane_only (e : LaneEnd) (s : State) (f : Leaf → Leaf) (g : Conc → Concentrator → Concentrator) (h : CellId → Cell → Cell) :
    Only e.owner s (onLane e s f g h) := by
  cases e <;> first | exact onLeaf_only _ _ _ | exact onConc_only _ _ _ | exact onCell_only _ _ _

theorem laneEvent_only (e : LaneEnd) (fault : Bool) (f : SMap Nat → SMap Nat) (s : State) : Only e.owner s (laneEvent e fault f s) :=
  onLane_only _ _ _ _ _

theorem laneCtl_only (e : LaneEnd) (v : Nat) (s : State) : Only e.owner s (laneCtl e v s) := onLane_only _ _ _ _ _

theorem onUpdate_only (p : Part) (op : Nat) (u : UpdFrame) (s : State) (g : Concentrator → Concentrator) (h : Cell → Cell) :
    Only p.owner s (onUpdate p op u s g h) := onPart_only _ _ _ _ _

theorem readRegister_only (p : Part) (off : Nat) (s : State) : Only p.owner s (readRegister p off s) := by
  unfold readRegister
  cases p with
  | leaf l => exact onLeaf_only l s _
  | conc n => exact onConc_only n s _
  | cell c => exact onCell_only c s _
  | core l k => exact onLeaf_only l s _

/-- What a meaning does to its leaf is what its function does to that leaf. -/
theorem LeafDoes.of {i : Instr} {s : State} {l : LeafId} {P : Leaf → Leaf → Prop} (f : Leaf → Leaf) (h : exec i s = onLeaf l s f)
    (p : P (s.leaf l) (f (s.leaf l))) : LeafDoes i s l P := ⟨_, h, p⟩

theorem ConcDoes.of {i : Instr} {s : State} {n : Conc} {P : Concentrator → Concentrator → Prop} (f : Concentrator → Concentrator)
    (h : exec i s = onConc n s f) (p : P (s.conc n) (f (s.conc n))) : ConcDoes i s n P := ⟨_, h, p⟩

theorem CellDoes.of {i : Instr} {s : State} {c : CellId} {P : Cell → Cell → Prop} (f : Cell → Cell) (h : exec i s = onCell c s f)
    (p : P (s.cell c) (f (s.cell c))) : CellDoes i s c P := ⟨_, h, p⟩

end Sys2Proof.Machine
end

