-- ==== Sys2Proof/WellFormed.lean ====
section
/-! DEFINITION. Well-formed commands: the ranges of the operands that a plain number or list holds. Every other operand has the range of
its type. -/

namespace Sys2Proof

/-- A handle is 64 bits wide (12_host_interface_and_handles.md R402). -/
def handleOk (h : Handle) : Bool := decide (h < 2 ^ 64)

/-- A register offset is a multiple of 4 (00_scope.md R14) within the 16 MiB of BAR0 (12_host_interface_and_handles.md Table 12.1). -/
def offOk (off : Nat) : Bool := decide (off % 4 = 0) && decide (off < 2 ^ 24)

/-- A marker block carries a TS96 and a 32-bit cycle count (10_flenor_links.md R364). -/
def Marker.wf (m : Marker) : Bool := decide (m.cycle < 2 ^ 32) && decide (m.time < 2 ^ 96) && decide (m.delay < 2 ^ 32)

/-- The fields of a fault record fit their widths (14_faults.md Table 14.2). -/
def faultRecOk (r : FaultRec) : Bool :=
  decide (r.time < 2 ^ 96) && decide (r.code < 2 ^ 16) && decide (r.seq < 1024) && decide (r.part < 4) && decide (r.unit < 2 ^ 14) &&
    decide (r.inst < 256) && decide (r.merged < 65536) && decide (r.cause < 65536) && decide (r.count < 65536) &&
    decide (r.cycle < 65536) && decide (r.detail < 2 ^ 32)

/-- The fields of a grant block fit their widths (13_the_hinge.md Table 13.8). -/
def grantOk (g : GrantMsg) : Bool :=
  decide (g.grant < 4) && decide (g.miss < 16) && decide (g.replays < 16) && decide (g.cycle < 65536) && decide (g.moves < 65536)

/-- The fields of an UPDATE frame fit their widths (17_updates.md Tables 17.5 and 17.6). -/
def updOk (u : UpdFrame) : Bool :=
  decide (u.frag < 256) && decide (u.index < 65536) && decide (u.session < 2 ^ 32) && decide (u.crc < 2 ^ 32) && decide (u.data.length ≤ 64) &&
    decide (u.words.length ≤ 16)

/-- A temperature in the range of its signed 16-bit register. -/
def tempOk (t : Int) : Bool := decide (-32768 ≤ t) && decide (t ≤ 32767)

/-- A command is well-formed (log entry 7, DESIGN CHOICE). -/
def Instr.wf : Instr → Bool
  | .registerWrite _ _ off _ => offOk off
  | .invalidRegisterAccess _ _ off width => (off % 4 != 0 || width != 4)
  | .lowerWordRead _ off => offOk off
  | .ts96LowestWordRead _ off => offOk off
  | .cycleStart _ => true
  | .readyPersistenceMet _ => true
  | .chargeTimeLimitExpires _ => true
  | .charge _ h => handleOk h
  | .deblock _ h => handleOk h
  | .block _ h => handleOk h
  | .clearTrip _ h => handleOk h
  | .synchronousSample _ => true
  | .uplinkDeadline _ => true
  | .fabricDoneInstant _ => true
  | .tumblerSelect _ _ => true
  | .predictionMismatch _ _ => true
  | .publishDeadline _ => true
  | .shadowMismatch _ => true
  | .cmpRestored _ => true
  | .budgetCheck _ => true
  | .cycCommit _ _ => true
  | .commitApply _ => true
  | .cycDiscard _ _ => true
  | .groupOpenTimeout _ g => decide (g < 32)
  | .referenceQualified _ _ => true
  | .referenceLost _ _ => true
  | .referenceReverted _ => true
  | .holdoverExpired _ => true
  | .timClkWrite _ _ => true
  | .clockMonitorWindow _ _ => true
  | .rootPllLossOfLock _ => true
  | .mirAlignConverged _ => true
  | .alignHoldExpired _ => true
  | .timeTrigger _ trg => decide (trg < 8)
  | .ptpEventMessage _ ptp => decide (ptp.msgType < 16)
  | .timPnRxtagRead _ _ => true
  | .timPnTxtagRead _ _ => true
  | .markerBlock _ m _ _ => m.wf
  | .delayStepConfirmed _ => true
  | .markerSend _ => true
  | .markerMissing _ => true
  | .recordCutoff _ _ => true
  | .uplink _ _ _ _ => true
  | .uplinkSlot _ => true
  | .records _ _ recs => decide (recs.length ≤ 256)
  | .sums _ _ _ => true
  | .commandSet _ _ _ words => decide (words.length ≤ 256)
  | .skip _ _ _ => true
  | .armInfo _ _ _ => true
  | .standby _ _ _ => true
  | .replayInstant _ _ => true
  | .replayExhausted _ => true
  | .silenceGrantMove _ => true
  | .controlSlot _ _ => true
  | .control _ _ _ => true
  | .cellCycleStart _ => true
  | .silenceBlock _ => true
  | .latchTime _ _ => true
  | .cpwmShortCntRead _ => true
  | .softOffLeadExpired _ => true
  | .softOffHoldExpired _ => true
  | .trip _ _ _ => true
  | .ctrpFiltWrite _ _ _ => true
  | .rearm _ => true
  | .ctrpClear _ _ => true
  | .firePulseTimer _ => true
  | .coilPulseEnd _ => true
  | .bypAuxConfirmed _ => true
  | .boltConfirmTimeout _ => true
  | .fire _ _ => true
  | .bolt _ _ => true
  | .release _ _ => true
  | .cpwmModeLocal _ _ => true
  | .cpwmModeLatch _ _ => true
  | .localPeriodStart _ => true
  | .cpwmPeriodWrite _ _ => true
  | .cpwmDutyWrite _ _ => true
  | .compareTrigger _ _ => true
  | .laneClockLost _ => true
  | .capacitorConversionDone _ code => decide (code < 65536)
  | .cadcStart _ _ => true
  | .conversionDone _ code => decide (code < 65536)
  | .housekeepingConversion _ temp vdd33 vret vcore => tempOk temp && decide (vdd33 < 65536) && decide (vret < 65536) && decide (vcore < 65536)
  | .pendingRunStart _ => true
  | .cadcPrivWrite _ _ => true
  | .cadcCalReq _ _ => true
  | .calibrationSliceStart _ => true
  | .calibrationDone _ _ => true
  | .dsmOutput _ _ _ _ _ => true
  | .retentionScrub _ _ _ => true
  | .retentionSupplyCheck _ mv => decide (mv < 65536)
  | .cretWinDataAccess _ _ => true
  | .sleep _ => true
  | .retentionSupplyLost _ => true
  | .wakeFromOff _ => true
  | .wakeFromSleep _ => true
  | .laneEnable _ => true
  | .laneDisable _ => true
  | .signalDetected _ => true
  | .phaseLocked _ => true
  | .commaAligned _ => true
  | .polarityFound _ _ => true
  | .laneOrderRead _ order _ => decide (order.length = 4)
  | .linkUp _ sn _ => decide (sn < 2 ^ 64)
  | .linkDown _ _ => true
  | .laneStateTimeout _ => true
  | .retrain _ _ => true
  | .testFacilityEnable _ _ => true
  | .testFacilityDisable _ _ => true
  | .linkAck _ seq _ => decide (seq < 256)
  | .retransmitTimeout _ => true
  | .cdcTimeout _ => true
  | .cdcResync _ => true
  | .grantBlock _ _ g _ => grantOk g
  | .knockInterval _ _ => true
  | .probe _ _ => true
  | .join _ _ => true
  | .unjoin _ _ => true
  | .knockAnswer _ _ _ _ => true
  | .joinFailed _ _ => true
  | .cellLost _ _ => true
  | .portDownTimeout _ _ _ => true
  | .replace _ h => handleOk h
  | .doorbell _ _ => true
  | .entryFetched _ _ => true
  | .journalAck _ => true
  | .mramWriteDone _ _ => true
  | .journalAckTimeout _ => true
  | .completionWrite _ => true
  | .hndCqAckWrite _ _ => true
  | .hndEnable _ => true
  | .hndDisable _ => true
  | .ringSettingWrite _ off _ => offOk off
  | .functionLevelReset _ => true
  | .pcieLinkDown _ => true
  | .completionIrqTimer _ => true
  | .echo _ h => handleOk h
  | .journalRead _ h => handleOk h
  | .formatJournal _ h => handleOk h
  | .journalFormat _ => true
  | .remoteRead _ h => handleOk h
  | .remoteWrite _ h => handleOk h
  | .remoteReq _ _ h _ _ off => handleOk h && offOk off
  | .remoteRsp _ h _ => handleOk h
  | .remoteTimeout _ h => handleOk h
  | .mirror _ _ => true
  | .mirrorLinkUp _ => true
  | .soloTimeout _ => true
  | .releaseFrame _ _ _ => true
  | .takeover _ _ => true
  | .takeoverComplete _ => true
  | .splitGrant _ => true
  | .hngSwap _ h => handleOk h
  | .plannedExchange _ => true
  | .healthReport _ => true
  | .healthReportLate _ => true
  | .fault _ _ rec => faultRecOk rec
  | .cellFault _ _ _ => true
  | .fltClear _ _ => true
  | .fltClearAll _ _ => true
  | .afltClear _ _ => true
  | .afltClearAll _ _ => true
  | .cfltClear _ _ => true
  | .cfltClearAll _ _ => true
  | .faultLineInput _ line _ => decide (line < 8)
  | .brokenWire _ line _ => decide (line < 8)
  | .fltInjCause _ _ => true
  | .afltInjCause _ _ => true
  | .cfltInjCause _ _ => true
  | .decimatorSample _ _ _ _ _ _ => true
  | .decim _ _ _ words => decide (words.length ≤ 256)
  | .autoTrigger _ => true
  | .postRowsComplete _ => true
  | .recordClosed _ => true
  | .rearmComplete _ => true
  | .recArm _ h => handleOk h
  | .recStop _ h => handleOk h
  | .recForce _ h => handleOk h
  | .recDrain _ h => handleOk h
  | .recRelease _ h => handleOk h
  | .safetyTick _ _ _ => true
  | .tickWatchdog _ _ => true
  | .channelDisagreement _ => true
  | .ossdDemand _ _ _ => true
  | .discrepancy _ _ => true
  | .twoHandTimeout _ _ => true
  | .resetButtonHeld _ _ => true
  | .releaseOutputPermit _ _ => true
  | .outputTestPulse _ _ _ _ => true
  | .haspProduce _ _ => true
  | .haspFrame _ _ frame => decide (frame.length < 2 ^ 32)
  | .haspTimeExpectation _ _ => true
  | .tripOrderRepeat _ => true
  | .tripOrderFrame _ _ frame => decide (frame.length < 2 ^ 32)
  | .tripOrderMatchTimeout _ _ => true
  | .safCfgLock _ _ => true
  | .setpointTarget _ h => handleOk h
  | .hold _ h => handleOk h
  | .limits _ h => handleOk h
  | .mode _ h => handleOk h
  | .preset _ h => handleOk h
  | .blendExpired _ => true
  | .keyLoad _ h => handleOk h
  | .keyLoadDone _ => true
  | .keySwap _ h => handleOk h
  | .planeSwap _ => true
  | .keyDiscard _ h => handleOk h
  | .keyFallback _ h => handleOk h
  | .keyRaiseFloor _ h => handleOk h
  | .imageTransfer _ image => decide (image.length < 2 ^ 32)
  | .begin _ h buf => handleOk h && decide (buf.length < 2 ^ 32)
  | .piece _ h buf => handleOk h && decide (buf.length < 2 ^ 32)
  | .verify _ h => handleOk h
  | .verifyDone _ => true
  | .activate _ h => handleOk h
  | .distribute _ h => handleOk h
  | .distributionPieceSend _ => true
  | .wave _ h => handleOk h
  | .waveNext _ => true
  | .confirm _ h => handleOk h
  | .updAbort _ h => handleOk h
  | .haspSet _ h => handleOk h
  | .haspLift _ h buf => handleOk h && decide (buf.length < 2 ^ 32)
  | .haspEnroll _ h buf => handleOk h && decide (buf.length < 2 ^ 32)
  | .updRaiseFloor _ h => handleOk h
  | .updateData _ u => updOk u
  | .updateHeader _ u => updOk u
  | .updateSelect _ u => updOk u
  | .updateVerify _ u => updOk u
  | .updateActivate _ u => updOk u
  | .updateConfirm _ u => updOk u
  | .updateAbort _ u => updOk u
  | .updateFloor _ u => updOk u
  | .updateRestartDone _ => true
  | .trialAgeUpdate _ _ => true
  | .trialExpired _ _ => true
  | .tileListStart _ _ => true
  | .tileListAbort _ _ => true
  | .stepNop _ _ _ => true
  | .stepMov _ _ _ => true
  | .stepAdd _ _ _ => true
  | .stepSub _ _ _ => true
  | .stepNeg _ _ _ => true
  | .stepAbs _ _ _ => true
  | .stepMin _ _ _ => true
  | .stepMax _ _ _ => true
  | .stepCmp _ _ _ => true
  | .stepSel _ _ _ => true
  | .stepLim _ _ _ => true
  | .stepMul _ _ _ => true
  | .stepAccout _ _ _ => true
  | .stepMac _ _ _ => true
  | .stepDiv _ _ _ => true
  | .stepSqrt _ _ _ => true
  | .stepSincos _ _ _ => true
  | .stepAbc2ab _ _ _ => true
  | .stepRot _ _ _ => true
  | .stepDelay _ _ _ => true
  | .stepRateLim _ _ _ => true
  | .stepFilt1 _ _ _ => true
  | .stepFilt2 _ _ _ => true
  | .stepLoad _ _ _ => true
  | .stepStore _ _ _ => true
  | .stepSend _ _ _ => true
  | .channelEntryArrival _ _ _ => true
  | .stepRecv _ _ _ => true
  | .stepOut _ _ _ => true
  | .stepCtld _ _ _ => true
  | .stepCtst _ _ _ => true
  | .cellTableRequestService _ _ => true
  | .modelWatchAlarm _ _ => true
  | .modelWatchTrip _ _ => true
  | .scrub _ _ _ _ _ => true
  | .tileSelfTest _ _ => true
  | .tileSpDataAccess _ _ _ => true
  | .tileSnWrite _ _ _ _ => true
  | .cellTableControlWrite _ _ w _ => decide (w < 8)
  | .coreOpReady _ _ _ => true
  | .coreOpBlock _ _ _ => true
  | .coreOpYield _ _ _ => true
  | .coreOpSetPrio _ _ _ => true
  | .coreOpSetAff _ _ _ => true
  | .coreOpStart _ _ _ => true
  | .coreOpStop _ _ _ => true
  | .coreOpSwitched _ _ _ => true
  | .coreNextRead _ _ => true
  | .lockstepMismatch _ _ => true
  | .coreSramUecc _ _ _ => true
  | .machineTimer _ _ => true
  | .coreMsix _ _ _ => true
  | .coreRelease _ _ _ => true
  | .schTraceDataRead _ => true
  | .railOutOfRange _ _ => true
  | .fullPowerOnReset _ => true
  | .corePowerOnReset _ => true
  | .pinReset _ => true
  | .pinResetRelease _ => true
  | .resetTimerEnd _ => true
  | .bootRomStart _ => true
  | .concentratorStart _ => true
  | .warmReset _ _ => true
  | .holdUpLow _ mv => decide (mv < 65536)
  | .holdUpNormal _ mv => decide (mv < 65536)

end Sys2Proof
end

