-- ==== Sys2Proof/Tests/Slice0.lean ====
section
/-! SUPPORT. The tests: a command that each check of WellFormed refuses, small results written out from the spec, and for every clause of every
statement with hypotheses a state and operands that meet them all. -/

namespace Sys2Proof.Tests
set_option Elab.async false
open Sys2Proof.Machine Sys2Proof.Machine.Reg

/-! ## Ill-formed commands: one for each check -/

theorem test_wf_offset_unaligned : (Instr.registerWrite (.leaf .leaf0) .host 0x10002 0).wf = false := by decide
theorem test_wf_offset_beyond_bar : (Instr.lowerWordRead (.conc 0) 0x1000000).wf = false := by decide
theorem test_wf_invalid_access_needs_a_bad_one : (Instr.invalidRegisterAccess (.leaf .leaf0) true 0x10 4).wf = false := by decide
theorem test_wf_handle_width : (Instr.charge .leaf0 (2 ^ 64)).wf = false := by decide
theorem test_wf_group : (Instr.groupOpenTimeout .leaf0 32).wf = false := by decide
theorem test_wf_trigger : (Instr.timeTrigger .leaf0 8).wf = false := by decide
theorem test_wf_ptp_type : (Instr.ptpEventMessage .leaf0 ⟨0, true, 16, 1, 0⟩).wf = false := by decide
theorem test_wf_marker : (Instr.markerBlock (.cell ⟨0, 0⟩) ⟨1, 0, 0, 2 ^ 32, 0, 0, 0, 0, false, false, false⟩ 0 true).wf = false := by decide
theorem test_wf_code : (Instr.conversionDone ⟨0, 0⟩ 65536).wf = false := by decide
theorem test_wf_temperature : (Instr.housekeepingConversion ⟨0, 0⟩ 32768 0 0 0).wf = false := by decide
theorem test_wf_lane_order : (Instr.laneOrderRead .leaf0 [0, 1, 2] true).wf = false := by decide
theorem test_wf_ack : (Instr.linkAck (.cell ⟨0, 0⟩) 256 true).wf = false := by decide
theorem test_wf_fault_line : (Instr.faultLineInput (.leaf .leaf0) 8 true).wf = false := by decide
theorem test_wf_update_frame : (Instr.updateData (.conc 0) ⟨true, 256, 0, 0, [], [], 0⟩).wf = false := by decide
theorem test_wf_cell_table_word : (Instr.cellTableControlWrite .leaf0 3 8 0).wf = false := by decide

/-! ## Small results, from the spec's rules by hand -/

/-- R176: 0x7FFF_FFFF is the largest result; the sum saturates and sets SAT. -/
theorem test_sat32 : sat32 (2147483647 + 5) = (2147483647, true) ∧ sat32 (-2147483648) = (-2147483648, false) := by decide
/-- R175: halves go toward +∞. -/
theorem test_halves : divNear 1 2 = 1 ∧ divNear (-1) 2 = 0 ∧ divNear (-3) 2 = -1 := by decide
/-- R177: the quotient goes toward zero; the values of a zero divisor. -/
theorem test_div : divStep (-7) 2 0 = (-3, false) ∧ divStep 5 0 0 = (2147483647, true) ∧ divStep 0 0 3 = (0, true) := by decide
/-- R177: the root is the floor; a negative operand gives 0. -/
theorem test_sqrt : sqrtStep 99 0 = (9, false) ∧ sqrtStep (-1) 4 = (0, true) := by decide
/-- R182: 3 / √3 = 1.732. -/
theorem test_root3 : divRoot3 3 = 2 ∧ divRoot3 (-3) = -2 ∧ divRoot3 0 = 0 := by decide
/-- Table 5.3: state register 5, scratchpad word 5, input word 3, mailbox 2, nothing. -/
theorem test_operands : opndOf 5 = .reg 5 ∧ opndOf 0x1005 = .sp 5 ∧ opndOf 0x2003 = .inw 3 ∧ opndOf 0x2042 = .mb 2 ∧ opndOf 0x3000 = .invalid := by
  decide
/-- R63: 800 cycles of 1.25 ns are 1,000 ns. -/
theorem test_linear_time : linearAt 800 0 = 1000 * 65536 := by decide
/-- R63: a rate of 2^20 units of 2^-40 adds 2^-20. -/
theorem test_rate : linearAt (2 ^ 20) (2 ^ 20) = (2 ^ 20 * 81920 : Nat) + 81920 := by decide
/-- Table 2.4: 1.5 s is SEC 1, NS 500,000,000. -/
theorem test_ts96 : toTs96 (1500000000 * 65536) = 2 ^ 48 + 500000000 * 65536 := by decide
/-- The check value of CRC-32C over the nine digits (log entry 8, PRESUMED). -/
theorem test_crc : crc32c [0x31, 0x32, 0x33, 0x34, 0x35, 0x36, 0x37, 0x38, 0x39] = 0xE3069283 := by decide +kernel
/-- R401: an acknowledgement is extended past a wrap of its low word. -/
theorem test_extend_ack : extendAck (2 ^ 32 - 1) 3 = 2 ^ 32 + 3 ∧ extendAck 5 7 = 7 := by decide
/-- R394: the ring sizes. -/
theorem test_ring_sizes : ringSizeOk 16 = true ∧ ringSizeOk 4096 = true ∧ ringSizeOk 48 = false ∧ ringSizeOk 8 = false := by decide
/-- Table 2.1: the queue runs first in, first out. -/
theorem test_queue_order :
    ∃ t, step { State.reset with pending := [.hndDisable .leaf0, .cycleStart .leaf0] } = .next t ∧
      t.pending = [.cycleStart .leaf0] :=
  ⟨_, rfl, rfl⟩


/-! ## Small states -/

/-- The state after reset with leaf 0 changed. -/
def at0 (f : Leaf → Leaf) : State := { State.reset with leaf0 := f State.reset.leaf0 }
/-- The state after reset with a concentrator, or a cell, in place. -/
def at1 (f : Concentrator → Concentrator) : State := { State.reset with concs := [(0, f {})] }
def at2 (f : Cell → Cell) : State := { State.reset with cells := [(0, f {})] }
def c0 : CellId := ⟨0, 0⟩
def aProt : Prot := ⟨0, 0, 100, 4, 10, 2, 0, 0, 0, []⟩
def anImage : Image := ⟨5 * 2 ^ 352, 1, 1, 2000, 0, 7, 9, [⟨2, 2, 1, [0]⟩], [⟨0, 1, 1, 3⟩, ⟨0, 2, 1, 4⟩], [], [], [], [], aProt, [], []⟩
def actLeaf (f : Leaf → Leaf) : State := at0 fun d => f { d with pwr := { step := 8 }, hng := { d.hng with role := .active } }
def keyedLeaf (f : Leaf → Leaf) : State := actLeaf fun d => f { d with key := { d.key with active := some anImage }, conv := { st := .keyedIdle } }
def aCmd (cls op par : Nat) : Cmd := ⟨5, cls, op, par, 0, 0, 0, 0, some 0, false, false, none, false⟩
def cmdLeaf (cls op par : Nat) (f : Leaf → Leaf) : State := keyedLeaf fun d => f { d with hnd := { d.hnd with cmds := [aCmd cls op par] } }
def hndLeaf (f : Leaf → Leaf) : State := keyedLeaf fun d => f ((d.wr HND_CFG_EN 1).wr HND_SQ_TAIL_TAIL 1)
def partnerId : Identity := ⟨1, idCapOf 1, 1, 1, 0, 5, 0, 0, false⟩
def entryOf (v : Nat) : BitVec 512 := BitVec.ofNat 512 (v + 2 ^ 384 * crc32c (leBytes 48 v))
def byPartner (d : Leaf) : Leaf := { d with hng := { d.hng with partner := { ident := some { partnerId with role := 2 } } } }.wr HNG_STATUS_PARTNER_UP
    1
def rmtLeaf (op par : Nat) (f : Leaf → Leaf) : State := cmdLeaf 6 op par fun d => f (d.wr (XX_STATE_STATE.at 0x220000) 7)
def rmtWait (d : Leaf) : Leaf := { d with hnd := { d.hnd with remote := [⟨5, true⟩] } }
def convCmd (op : Nat) (c : Conv) (f : Leaf → Leaf) : State := cmdLeaf 1 op 0 fun d => f (((((((({ d with conv := { st := c } }.wr SAF_STATUS_RUNNING
    1).wr PWR_RAILS_IN_WINDOW 127).wr CT_SLOT_STATE 3 3).wr CT_CELL_STATE 1 3).wr CT_VCAP 200 3).wr CT_SLOT_STATE 3 4).wr CT_CELL_STATE 1 4).wr
    CT_VCAP 200 4)
def cycLeaf (f : Leaf → Leaf) : State := keyedLeaf fun d => f ({ d with tim := { d.tim with cyc := 20, c := 160000 } }.wr (XX_STATE_STATE.at 0x220000)
    7)
def cycStage (v : Nat) : Stage := ⟨1, 1000, [(CYC_PERIOD_PERIOD.key 0, v)], []⟩
def aLink (e : LaneEnd) (st : Nat) : State := State.reset.setLaneBank e (bankWr [] (XX_STATE_STATE.at (laneBase e)) st 0)
def upLink : LaneEnd := .uplinkLeaf .leaf0 0
def aPort : LaneEnd := .port 0 1
def aMark : Marker := ⟨1, 2, 3, 4, 5, 6, 7, 0, true, true, false⟩
def aOut : Out := .frame upLink 9 [1]
def runCell (f : Cell → Cell) : State := at2 fun d => f { d with pow := .run }
def readyCell (f : Cell → Cell) : State := runCell fun d => f
    { d with sw := { st := .ready, start := 1000, now := 1200, executed := true, started := true } }
def boltedCell (coils : Nat) : State := runCell fun d => { d with sw := { st := .bolted }, trip := { coils := coils, coil := true, firing := true } }
def ctlBody (lc ofs word : Nat) : BitVec 219 := BitVec.ofNat 219 (1 * 2 ^ 215 + lc * 2 ^ 199 + ofs * 2 ^ 187 + word * 2 ^ 167)
def convCell (f : Cell → Cell) : State := readyCell fun d => f (((d.wr CADC_PRIV_MASK 2).wr CADC_SEQn_CH 1 3).wr (XX_STATE_STATE.at 0x400) 7)
def upFrame (tag : Nat) : UpdFrame := ⟨false, 1, 3, tag, [1, 2], [9], 0⟩
def upConc (st : Nat) : State := at1 fun d => { d with fw := { up := true, tag := 7, sess := { st := st } } }
def fwCell (f : PartFw → PartFw) : State := readyCell fun d => { d with fw := f { up := true, tag := 7, sess := { st := 4 } } }
def trialPtr (age : Nat) : Ptr := { c0 := { valid := true, trial := true, age := age } }
def pathConc (f : Concentrator → Concentrator) : State := at1 fun d => f (((((d.wr (XX_STATE_STATE.at 0x400) 7).wr (XX_STATE_STATE.at 0x440) 7).wr
    AUPL_TAG0_TAG 5).wr APRTp_ENTRY0_TYPE 1 3).wr (XX_STATE_STATE.at 0x40C0) 7)
def setHdr (type m tag count : Nat) : BitVec 128 := BitVec.ofNat 128 (type * 2 ^ 124 + 4 * 2 ^ 120 + m * 2 ^ 96 + tag * 2 ^ 32 + count * 2 ^ 16)
def heldSet : HeldSet := ⟨0, 9, false, true, false, 4, [(3, 8192)]⟩
def withConc (f : Concentrator → Concentrator) (s : State) : State :=
    { s with concs := [(0, f ((Concentrator.wr {} (XX_STATE_STATE.at 0x4040) 7).wr (XX_STATE_STATE.at 0x4080) 7))] }
def discLeaf (f : Leaf → Leaf) : State := withConc (fun c => { c with knocks := [(1, { seq := 6, joins := 3 }), (7, { seq := 6 })] }) (keyedLeaf fun d
    => f { d with disc := { d.disc with caps := [(0, 0x8000)] } })
def answer (bolted st sn : Nat) : BitVec 219 := BitVec.ofNat 219 (1 * 2 ^ 211 + sn * 2 ^ 147 + 3 * 2 ^ 115 + 1 * 2 ^ 113 + st * 2 ^ 109 + 2 ^ 106 +
    bolted * 2 ^ 105 + 6 * 2 ^ 48 + 77 * 2 ^ 32)
def runLane : State := runCell fun d => { d with ident := { d.ident with serial := 55 } }.wr (XX_STATE_STATE.at 0x400) 7
def pairLeaf (r : Role) (f : Leaf → Leaf) : State := keyedLeaf fun d => f ({ d with hng := { d.hng with role := r } }.wr HNG_STATUS_PARTNER_UP 1)
def standLeaf (f : Leaf → Leaf) : State := pairLeaf .standby fun d => f
    ((({ d with hng := { d.hng with partner := { hash := some anImage.hash }, journalOk := true, fabricOk := true, relSeen := true, cause := 9 } }.wr
    TIM_CLK_STATUS_MIR_ALIGN 1).wr TIM_STATUS_FOLLOWING 1).wr (XX_STATE_STATE.at 0x220000) 7)
def aGrant : GrantMsg := ⟨1, 2, 3, 4, 5⟩
def aRec (part seq : Nat) (cls : FaultClass) : FaultRec := ⟨9, 0x5801, cls, false, false, true, false, seq, part, 0, 1, 0, 7, 1, 5, 0⟩
def fltLeaf : State := keyedLeaf fun d => { d with flt := { recs := [⟨0, aRec 1 3 .alarm⟩, ⟨1, aRec 0 4 .trip⟩] } }.wr FLT_STATUS_MODE 1
def fltConc (f : Concentrator → Concentrator) : State := at1 fun d => f
    ((((({ d with fw := { up := true }, flt := { recs := [⟨0, aRec 1 3 .alarm⟩, ⟨1, aRec 1 4 .trip⟩] } }).wr (XX_STATE_STATE.at 0x400) 7).wr
    (XX_STATE_STATE.at 0x440) 7).wr (XX_STATE_STATE.at 0x4040) 7).wr AFLT_STATUS_MODE 1)
def fltCell (cls : Nat) : State := readyCell fun d =>
    { d with ret := { d.ret with log := [(0, some { r := aRec 2 3 .alarm, local_ := 0 })] }, ident := { d.ident with testStrap := true, testFuse := true } }.wr
    CFLT_INJ_CODE_CLASS cls
def decConc (cyc : Nat) : State := fltConc fun d => { d with dec := [(2, { cycle := cyc, tick := 3, samples := [4, 5] })] }.wr ADSD_CTLd_EN 1 2
def recLeaf (st : Nat) (f : Leaf → Leaf) : State := keyedLeaf fun d => f (d.wr REC_STATUS_STATE st)
def aTrig : Trig := ⟨9, 0, 1, 0, false, false⟩
def recCmd (op par st : Nat) (f : Leaf → Leaf) : State := cmdLeaf 5 op par fun d => f (d.wr REC_STATUS_STATE st)
def aClose : RecClose := ⟨3, 8, 1, 1, 0, 0, aTrig, { cycle := 1, start := 2 }, false, false, false, false, false, {}⟩
def safLeaf (run : Nat) (f : Leaf → Leaf) : State := actLeaf fun d => f ((((d.wr SAF_STATUS_LOCKED 1).wr SAF_STATUS_RUNNING run).wr SAF_GRPg_CFG_EN 1
    2).wr SAF_GRPg_INMASK_PAIRS 8 2)
def netBody (v : Nat) : List Byte := [0, 0, 0, 9, 0, 0, 0, 5, 1, 0, 0, BitVec.ofNat 8 v, 0, 0, 0, 0, 0, 0, 0, 0, 0, 0, 0, 0]
def netFrame (etype : Byte) (v : Nat) (ok : Bool) : List Byte := [1, 0, 0, 0, 0, 0, 2, 0, 0, 0, 0, 7, 0x88, etype] ++ netBody v ++ (leBytes 4 (crc32c
    (netBody v) + (if ok then 0 else 1))).reverse ++ [0, 0]
def haspLeaf (run : Nat) (f : Leaf → Leaf) : State := safLeaf run fun d => f
    ((((({ d with saf := { d.saf with hasp := [(3, { last := 4, resync := false, good := 2, timing := some 0 })] }, tim := { d.tim with c := 80000000 } }).wr
    SAF_HASPc_CFG_EN 1 3).wr SAF_HASPc_MAC_LO_MAC 7 3).wr SAF_HASPc_MAC_HI_MAC 0x200 3).wr SAF_HASPc_IDENT_IDENT 9 3)
def ordLeaf (two : Nat) (f : Leaf → Leaf) : State := safLeaf 1 fun d => f (((d.wr SAF_ORDr_CFG_EN 1 3).wr SAF_ORDr_IDENT_IDENT 9 3).wr
    SAF_ORDr_CFG_TWO_OF_TWO two 3)
def keyImg : Image := { anImage with hash := 9 * 2 ^ 320 }
def swapLeaf (p : SwapPend) (f : Leaf → Leaf) : State := keyedLeaf fun d => f { d with key := { d.key with staged := some keyImg, pend := some p } }
def aWard : Store := { hash := some (9 * 2 ^ 320) }
def sessCmd (op par k : Nat) (x : Session) (f : Leaf → Leaf) : State := cmdLeaf 4 op par fun d => f { d with upd := { d.upd with sess := [(k, x)] } }
def bigHdr : List Byte := List.replicate 28 255
def crcBuf : List Byte := [171, 155, 224, 155]
def trialCopy : PtrCopy := { valid := true, trial := true, version := 6 }
def waveState0 (f : Leaf → Leaf) : State := keyedLeaf fun d => f ((((({ d with upd := { d.upd with sess := [(4, { st := 4 })] } }).wr CT_SLOT_STATE 3
    3).wr CT_CELL_STATE 1 3).wr CT_SLOT_STATE 3 4).wr CT_CELL_STATE 1 4)
def waveWorld (s : State) : State := { s with cells := [(1, { ({} : Cell) with fw := { up := true, sess := { st := 4 } } })] }
def stepW (op dst a b coef mod : Nat) : Nat := op * 2 ^ 58 + dst * 2 ^ 44 + a * 2 ^ 30 + b * 2 ^ 16 + coef * 2 ^ 7 + mod * 2
def aTile (w : Nat) (f : TileSt → TileSt) : TileSt := f
    { steps := [(2, w)], used := true, s := [(1, 5), (2, 2 ^ 32 - 7), (3, 2 ^ 31 - 1), (6, 2 ^ 30)], sp := [(17, 9)], coef := [(4, 3 * 2 ^ 32 + 20)], acc := 100, run := some 6, pc := 2, spent := 11 }
def tileLeaf (steps w : Nat) (f : TileSt → TileSt) (g : Leaf → Leaf) : State := keyedLeaf fun d => g ({ d with tiles := [(3, aTile w f)] }.wr
    TILE_LIST_STEPS steps 3)
def schLeaf (f : Leaf → Leaf) : Leaf := f
    { (actLeaf id).leaf0 with sch := { thr := [(3, ⟨.ready, false, 0, 5, 15⟩), (4, ⟨.running, false, 1, 2, 3⟩), (5, ⟨.blocked, false, 0, 7, 15⟩)], lists := [(5, [3])], run := [(1, some 4)], released := 14 } }
def coreLeaf (f : Leaf → Leaf) : State := { State.reset with leaf0 := schLeaf f }

/-! ## Witnesses -/

theorem witness_RingCommandsTakeEffect_1 : ∃ (s : State) (l : LeafId), (s.leaf l).writable = true :=
    ⟨actLeaf fun d => { d with hnd := { d.hnd with stopped := true } }, .leaf0, by decide +kernel⟩
theorem witness_RingCommandsTakeEffect_2 : ∃ (s : State) (l : LeafId), (s.leaf l).writable = true ∧ (s.leaf l).is HND_CFG_EN = false :=
    ⟨actLeaf id, .leaf0, by decide +kernel⟩
theorem witness_RingCommandsTakeEffect_3 : ∃ (s : State) (l : LeafId), (s.leaf l).writable = true :=
    ⟨hndLeaf id, .leaf0, by decide +kernel⟩
theorem witness_RingCommandsTakeEffect_6 : ∃ (s : State) (l : LeafId) (v : Word), (s.leaf l).writable = true ∧ (s.leaf l).is HND_CFG_EN = false ∧
    (s.leaf l).active = true ∧ ringSizeOk (v.toNat % 8192) = true :=
    ⟨actLeaf id, .leaf0, 64, by decide +kernel⟩
theorem witness_RingCommandsTakeEffect_7 : ∃ (s : State) (l : LeafId), (s.leaf l).writable = true ∧ (s.leaf l).is HND_CFG_EN = true :=
    ⟨hndLeaf id, .leaf0, by decide +kernel⟩
theorem witness_RingCommandsTakeEffect_8 : ∃ (s : State) (l : LeafId) (v : Word), (s.leaf l).writable = true ∧ (s.leaf l).active = true ∧ (s.leaf
    l).hnd.ack < extendAck (s.leaf l).hnd.ack v.toNat ∧ extendAck (s.leaf l).hnd.ack v.toNat ≤ (s.leaf l).hnd.cqNext :=
    ⟨hndLeaf (fun d => { d with hnd := { d.hnd with cqNext := 5, cseq := 5, compl := [⟨1, 2, 1, 0, 0, 0⟩, ⟨2, 3, 1, 0, 0, 0⟩] } }), .leaf0, 3, by
      decide +kernel⟩
theorem witness_AcceptanceAndCompletionTakeEffect_1 : ∃ (s : State) (l : LeafId), (s.leaf l).is HND_CFG_EN = true ∧ (s.leaf l).hnd.stopped = false ∧
    (s.leaf l).hnd.accepting = none ∧ (s.leaf l).rd HND_SQ_HEAD_HEAD ≠ (s.leaf l).rd HND_SQ_TAIL_TAIL :=
    ⟨hndLeaf id, .leaf0, by decide +kernel⟩
theorem witness_AcceptanceAndCompletionTakeEffect_2 : ∃ (s : State) (l : LeafId) (w : BitVec 512), (s.leaf l).is HND_CFG_EN = true ∧ (s.leaf
    l).hnd.stopped = false ∧ (s.leaf l).rd HND_SQ_HEAD_HEAD ≠ (s.leaf l).rd HND_SQ_TAIL_TAIL ∧ (s.leaf l).active = true ∧ (s.leaf l).hng.takeover =
    false ∧ (s.leaf l).hnd.recordFor 1 ((s.leaf l).rd HND_SQ_HEAD_HEAD) (bits w.toNat 63 32) = none ∧ (s.leaf l).hnd.recordFor 2 ((s.leaf l).rd
    HND_SQ_HEAD_HEAD) (bits w.toNat 63 32) = none ∧ (s.leaf l).hnd.live + 64 ≤ 65536 ∧ (s.leaf l).hnd.formatCseq = none ∧ (s.leaf l).hnd.mramBad =
    false ∧ bits w.toNat 31 24 ≠ 0 ∧ bits w.toNat 31 24 ≤ 8 ∧ bits w.toNat 15 0 = 0 ∧ crc32c (leBytes 48 w.toNat) = bits w.toNat 415 384 :=
    ⟨hndLeaf id, .leaf0, entryOf (9 * 2 ^ 64 + 7 * 2 ^ 32 + 8 * 2 ^ 24 + 2 ^ 16), by decide +kernel⟩
theorem witness_AcceptanceAndCompletionTakeEffect_3 : ∃ (s : State) (l : LeafId) (c : Cmd), (s.leaf l).hnd.accepting = some c ∧ (s.leaf
    l).standbyPresent = true ∧ (s.leaf l).active = true ∧ (s.leaf l).classAbsent c.cls = false ∧ opcodeOk c.cls c.op = true :=
    ⟨hndLeaf (fun d => byPartner { d with hnd := { d.hnd with accepting := some (aCmd 8 1 9) } }), .leaf0, aCmd 8 1 9, by decide +kernel⟩
theorem witness_AcceptanceAndCompletionTakeEffect_4 : ∃ (s : State) (l : LeafId) (c : Cmd), (s.leaf l).hnd.accepting = some c ∧ (s.leaf
    l).standbyPresent = false ∧ (s.leaf l).active = true ∧ (s.leaf l).classAbsent c.cls = false ∧ opcodeOk c.cls c.op = true :=
    ⟨hndLeaf (fun d => { d with hnd := { d.hnd with accepting := some (aCmd 8 1 9) } }), .leaf0, aCmd 8 1 9, by decide +kernel⟩
theorem witness_AcceptanceAndCompletionTakeEffect_5 : ∃ (s : State) (l : LeafId), (s.leaf l).hnd.accepting = none ∧ (s.leaf l).is
    HNG_STATUS_PARTNER_STANDING = false :=
    ⟨hndLeaf id, .leaf0, by decide +kernel⟩
theorem witness_AcceptanceAndCompletionTakeEffect_6 : ∃ (s : State) (l : LeafId), (s.leaf l).active = true ∧ (s.leaf l).hnd.accepting.isSome = true ∧
    (s.leaf l).standbyPresent = true :=
    ⟨hndLeaf (fun d => byPartner { d with hnd := { d.hnd with accepting := some (aCmd 8 1 9) } }), .leaf0, by decide +kernel⟩
theorem witness_AcceptanceAndCompletionTakeEffect_7 : ∃ (s : State) (l : LeafId) (c : Compl), (s.leaf l).is HND_CFG_EN = true ∧ (s.leaf l).active =
    true ∧ (s.leaf l).hng.takeover = false ∧ (s.leaf l).hnd.compl.find? (·.cseq = (s.leaf l).hnd.cqNext) = some c ∧ (s.leaf l).cqFull = false :=
    ⟨hndLeaf (fun d => { d with hnd := { d.hnd with cqNext := 2, cseq := 3, compl := [⟨1, 2, 1, 0, 0, 0⟩] } }.wr HND_CQ_SIZE_SIZE 64), .leaf0, ⟨1, 2,
      1, 0, 0, 0⟩, by decide +kernel⟩
theorem witness_AcceptanceAndCompletionTakeEffect_8 : ∃ (s : State) (l : LeafId), (s.leaf l).rd HND_IRQ_CFG_TIME_US ≠ 0 ∧ (s.leaf l).hnd.unsignalled ≠
    0 :=
    ⟨hndLeaf (fun d => { d with hnd := { d.hnd with unsignalled := 2 } }.wr HND_IRQ_CFG_TIME_US 9), .leaf0, by decide +kernel⟩
theorem witness_AccessCodesAndFieldWrites_2 : ∃ (fs : List Fld) (off : Nat), fs.Nodup ∧ ((∀ f ∈ fs, ∀ g ∈ fs, ∀ i j, f.copyAt off = some i → g.copyAt
    off = some j → f.key i = g.key j → f = g)) :=
    ⟨[SCH_STATUS_OP_ERR], 0x2B0000, by refine ⟨by decide +kernel, fun f hf g hg _ _ _ _ _ => ?_⟩; rw [List.mem_singleton] at hf hg; rw [hf, hg]⟩
theorem witness_RegisterWriteTakesEffect_1 : ∃ (s : State) (l : LeafId) (off : Nat), (s.leaf l).answers off = true ∧ (s.leaf l).absentAt off = false ∧
    (s.leaf l).is FLT_STATUS_DEADBOLT = false ∧ 0x200000 ≤ off ∧ off < 0x210000 ∧ rwcAt off = [] :=
    ⟨actLeaf id, .leaf0, 0x200010, by decide +kernel⟩
theorem witness_RegisterWriteTakesEffect_2 : ∃ (s : State) (l : LeafId) (off : Nat), (s.leaf l).is FLT_STATUS_DEADBOLT = true ∧ off ≠ 0x270000 :=
    ⟨at0 (fun d => d.wr FLT_STATUS_DEADBOLT 1), .leaf0, 0x200010, by decide +kernel⟩
theorem witness_RegisterWriteTakesEffect_3 : ∃ (s : State) (l : LeafId) (p : Fin 4), (s.leaf l).pairRuns p.val = true :=
    ⟨coreLeaf id, .leaf0, 1, by decide +kernel⟩
theorem witness_RegisterWriteTakesEffect_4 : ∃ (s : State) (n : Conc), (s.conc n).fw.up = true ∧ (s.conc n).is AFLT_STATUS_DEADBOLT = false :=
    ⟨fltConc id, 0, by decide +kernel⟩
theorem witness_RegisterWriteTakesEffect_5 : ∃ (s : State) (c : CellId), (s.cell c).pow = .run ∧ (s.cell c).is CFLT_STATUS_DEADBOLT = false :=
    ⟨readyCell id, c0, by decide +kernel⟩
theorem witness_RegisterWriteTakesEffect_6 : ∃ (s : State) (c : CellId), (s.cell c).is CFLT_STATUS_DEADBOLT = true :=
    ⟨at2 (fun d => d.wr CFLT_STATUS_DEADBOLT 1), c0, by decide +kernel⟩
theorem witness_ReadsAndBadAccesses_1 : ∃ (lo hi : Nat), pairOf vcpPairs lo = some (lo, hi) :=
    ⟨0x10010, 0x10014, by decide +kernel⟩
theorem witness_ReadsAndBadAccesses_2 : ∃ (lo hi : Nat), pairOf vcpPairs hi = some (lo, hi) ∧ hi ≠ lo :=
    ⟨0x10010, 0x10014, by decide +kernel⟩
theorem witness_ReadsAndBadAccesses_3 : ∃ (b : Nat), pairOf vcpPairs b = none ∧ ts96Base b = some b :=
    ⟨0x10018, by decide +kernel⟩
theorem witness_ReadsAndBadAccesses_5 : ∃ (s : State) (l : LeafId) (off width : Nat), ¬(off % 4 = 0 ∧ width = 4) ∧ (s.leaf l).running = true :=
    ⟨actLeaf id, .leaf0, 0x10010, 8, by decide +kernel⟩
theorem witness_ReadsAndBadAccesses_6 : ∃ (s : State) (n : Conc) (off width : Nat), ¬(off % 4 = 0 ∧ width = 4) ∧ (s.conc n).fw.up = true :=
    ⟨fltConc id, 0, 0x702, 4, by decide +kernel⟩
theorem witness_AbsentCellTableEntries_1 : ∃ (d : Leaf) (off : Nat), 0x400000 ≤ off ∧ off < 0x460000 ∧ d.armLimit ≤ (off - 0x400000) / 32 % 2048 :=
    ⟨{ (actLeaf id).leaf0 with ident := { variant := 3 } }, 0x40FFE0, by decide +kernel⟩
theorem witness_AbsentCellTableEntries_2 : ∃ (s : State) (l : LeafId) (slot : Slot), (s.leaf l).armLimit ≤ slot.val % 2048 ∧ (s.leaf l).slotMapped
    slot.val = false :=
    ⟨{ (actLeaf id) with leaf0 := { (actLeaf id).leaf0 with ident := { variant := 3 } } }, .leaf0, 2047, by decide +kernel⟩
theorem witness_DiagAndRemoteCommandsTakeEffect_1 : ∃ (s : State) (l : LeafId) (h : Handle) (c : Cmd) (n : Conc), (s.leaf l).Waits h 6 1 c ∧
    RemoteCmd.ok c c.remote = true ∧ c.remote.cell = false ∧ c.remote.target = n.val ∧ (s.leaf l).uplinkUp n.val = true :=
    ⟨rmtLeaf 1 0x1000000000 id, .leaf0, 5, aCmd 6 1 0x1000000000, 0, by unfold Leaf.Waits; decide +kernel⟩
theorem witness_DiagAndRemoteCommandsTakeEffect_2 : ∃ (s : State) (l : LeafId) (h : Handle) (c : Cmd) (n : Conc), (s.leaf l).Waits h 6 2 c ∧
    RemoteCmd.ok c c.remote = true ∧ c.remote.cell = false ∧ c.remote.target = n.val ∧ (s.leaf l).uplinkUp n.val = true :=
    ⟨rmtLeaf 2 0x1000000000 id, .leaf0, 5, aCmd 6 2 0x1000000000, 0, by unfold Leaf.Waits; decide +kernel⟩
theorem witness_DiagAndRemoteCommandsTakeEffect_3 : ∃ (s : State) (l : LeafId) (h : Handle) (c : Cmd), (s.leaf l).Waits h 6 1 c ∧ RemoteCmd.ok c
    c.remote = false :=
    ⟨rmtLeaf 1 0x1100000000 id, .leaf0, 5, aCmd 6 1 0x1100000000, by unfold Leaf.Waits; decide +kernel⟩
theorem witness_DiagAndRemoteCommandsTakeEffect_4 : ∃ (s : State) (l : LeafId) (h : Handle) (c : Cmd), (s.leaf l).cmd h = some c ∧ c.decided = false ∧
    c.op = 2 ∧ (s.leaf l).remoteWaits h = true ∧ (s.leaf l).active = true :=
    ⟨rmtLeaf 2 0x1000000000 rmtWait, .leaf0, 5, aCmd 6 2 0x1000000000, by decide +kernel⟩
theorem witness_DiagAndRemoteCommandsTakeEffect_5 : ∃ (s : State) (l : LeafId) (h : Handle) (c : Cmd), (s.leaf l).cmd h = some c ∧ c.decided = false ∧
    (s.leaf l).remoteWaits h = true ∧ (s.leaf l).active = true :=
    ⟨rmtLeaf 2 0x1000000000 rmtWait, .leaf0, 5, aCmd 6 2 0x1000000000, by decide +kernel⟩
theorem witness_DiagAndRemoteCommandsTakeEffect_6 : ∃ (s : State) (n : Conc), (s.conc n).fw.up = true :=
    ⟨fltConc id, 0, by decide +kernel⟩
theorem witness_DiagAndRemoteCommandsTakeEffect_7 : ∃ (s : State) (n : Conc) (h : Handle) (r : RemoteRes), (s.conc n).fw.up = true ∧ (s.conc n).is
    AFLT_STATUS_DEADBOLT = false ∧ h ≠ 0 ∧ (s.conc n).remote.find? (·.handle = h) = some r :=
    ⟨fltConc (fun d => { d with remote := [⟨5, 9⟩] }), 0, 5, ⟨5, 9⟩, by decide +kernel⟩
theorem witness_DiagAndRemoteCommandsTakeEffect_8 : ∃ (s : State) (c : CellId) (h : Handle) (r : RemoteRes), (s.cell c).pow = .run ∧ (s.cell c).is
    CFLT_STATUS_DEADBOLT = false ∧ (s.cell c).remote.find? (·.handle = h) = some r :=
    ⟨readyCell (fun d => { d with remote := [⟨5, 9⟩] }), c0, 5, ⟨5, 9⟩, by decide +kernel⟩
theorem witness_DiagAndRemoteCommandsTakeEffect_9 : ∃ (s : State) (l : LeafId) (h : Handle) (c : Cmd), (s.leaf l).Waits h 8 1 c :=
    ⟨cmdLeaf 8 1 77 id, .leaf0, 5, aCmd 8 1 77, by unfold Leaf.Waits; decide +kernel⟩
theorem witness_DiagAndRemoteCommandsTakeEffect_10 : ∃ (s : State) (l : LeafId) (h : Handle) (c : Cmd), (s.leaf l).Waits h 8 2 c ∧ c.par 16 16 ≠ 0 ∧
    c.par 16 16 ≤ 4096 :=
    ⟨cmdLeaf 8 2 (2 * 2 ^ 16 + 1 + 0x1000 * 2 ^ 32) id, .leaf0, 5, aCmd 8 2 (2 * 2 ^ 16 + 1 + 0x1000 * 2 ^ 32), by unfold Leaf.Waits; decide +kernel⟩
theorem witness_DiagAndRemoteCommandsTakeEffect_11 : ∃ (s : State) (l : LeafId) (h : Handle) (c : Cmd), (s.leaf l).WaitsDue h 8 3 c ∧ c.par 0 32 =
    0x464D544A ∧ (((s.leaf l).conv.st = .unkeyed ∨ (s.leaf l).conv.st = .keyedIdle)) ∧ ((s.leaf l).startCmd h).hnd.journal.any (fun p => ((s.leaf
    l).startCmd h).hnd.isLive p.1 p.2 && p.2.handle ≠ h) = false :=
    ⟨cmdLeaf 8 3 0x464D544A id, .leaf0, 5, aCmd 8 3 0x464D544A, by unfold Leaf.WaitsDue Leaf.Waits; decide +kernel⟩
theorem witness_DiagAndRemoteCommandsTakeEffect_12 : ∃ (s : State) (l : LeafId) (q : Nat), (s.leaf l).hnd.formatCseq = some q ∧ q < (s.leaf l).hnd.ack
    :=
    ⟨keyedLeaf (fun d => { d with hnd := { d.hnd with formatCseq := some 2, ack := 3 } }), .leaf0, 2, by decide +kernel⟩
theorem witness_ConverterTransitionsTakeEffect_1 : ∃ (s : State) (l : LeafId) (h : Handle) (c : Cmd), (s.leaf l).WaitsDue h 1 1 c ∧ (s.leaf l).conv.st
    = .keyedIdle ∧ (s.leaf l).tripPersists = false ∧ (s.leaf l).clearingPend = false ∧ (s.leaf l).conv.deblockWait ≠ some h :=
    ⟨convCmd 1 .keyedIdle id, .leaf0, 5, aCmd 1 1 0, by unfold Leaf.WaitsDue Leaf.Waits; decide +kernel⟩
theorem witness_ConverterTransitionsTakeEffect_2 : ∃ (s : State) (l : LeafId) (h : Handle) (c : Cmd), (s.leaf l).WaitsDue h 1 1 c ∧ (s.leaf l).conv.st
    ≠ .keyedIdle :=
    ⟨convCmd 1 .tripped id, .leaf0, 5, aCmd 1 1 0, by unfold Leaf.WaitsDue Leaf.Waits; decide +kernel⟩
theorem witness_ConverterTransitionsTakeEffect_3 : ∃ (s : State) (l : LeafId) (h : Handle) (c : Cmd) (im : Image), (s.leaf l).WaitsDue h 1 2 c ∧
    (s.leaf l).key.active = some im ∧ (s.leaf l).conv.st = .blockedReady ∧ (s.leaf l).healthyCond im = true ∧ (s.leaf l).tripPersists = false ∧
    (s.leaf l).clearingPend = false :=
    ⟨convCmd 2 .blockedReady id, .leaf0, 5, aCmd 1 2 0, anImage, by unfold Leaf.WaitsDue Leaf.Waits; decide +kernel⟩
theorem witness_ConverterTransitionsTakeEffect_4 : ∃ (s : State) (l : LeafId) (h : Handle) (c : Cmd), (s.leaf l).WaitsDue h 1 3 c ∧ (s.leaf l).conv.st
    = .deblocked :=
    ⟨convCmd 3 .deblocked id, .leaf0, 5, aCmd 1 3 0, by unfold Leaf.WaitsDue Leaf.Waits; decide +kernel⟩
theorem witness_ConverterTransitionsTakeEffect_5 : ∃ (s : State) (l : LeafId) (h : Handle) (c : Cmd) (im : Image), (s.leaf l).WaitsDue h 1 4 c ∧
    (s.leaf l).key.active = some im ∧ (s.leaf l).conv.st = .tripped ∧ (s.leaf l).tripPersists = false ∧ (s.leaf l).readyCond im = true ∧ (s.leaf
    l).conv.deblockWait ≠ some h :=
    ⟨convCmd 4 .tripped (fun d => { d with flt := { recs := [⟨1, aRec 0 4 .trip⟩] } }), .leaf0, 5, aCmd 1 4 0, anImage, by
      unfold Leaf.WaitsDue Leaf.Waits; decide +kernel⟩
theorem witness_ConverterTransitionsTakeEffect_6 : ∃ (s : State) (l : LeafId) (im : Image), (s.leaf l).key.active = some im ∧ (s.leaf l).active = true
    ∧ (s.leaf l).conv.st = .charging ∧ im.prot.readyP ≤ (s.leaf l).cyc.readyRun :=
    ⟨convCmd 1 .charging (fun d => { d with cyc := { d.cyc with readyRun := 4 } }), .leaf0, anImage, by decide +kernel⟩
theorem witness_ConverterTransitionsTakeEffect_7 : ∃ (s : State) (l : LeafId) (im : Image), (s.leaf l).key.active = some im ∧ (s.leaf l).active = true
    ∧ (s.leaf l).conv.st = .charging ∧ im.prot.chargeLim * 10000 ≤ ((s.leaf l).tim.cyc - (s.leaf l).conv.since) * (s.leaf l).rd CYC_PERIOD_PERIOD :=
    ⟨convCmd 1 .charging (fun d => { d with tim := { d.tim with cyc := 5000 } }.wr CYC_PERIOD_PERIOD 100), .leaf0, anImage, by decide +kernel⟩
theorem witness_CycleInstantsTakeEffect_1 : ∃ (s : State) (l : LeafId), (s.leaf l).running = true :=
    ⟨cycLeaf id, .leaf0, by decide +kernel⟩
theorem witness_CycleInstantsTakeEffect_2 : ∃ (s : State) (l : LeafId) (n : Conc) (p : Port) (w : BitVec 128) (slot : Nat), (s.leaf l).running = true
    ∧ (s.leaf l).uplinkUp n.val = true ∧ (s.leaf l).slotAt n.val p.val = some slot ∧ reached (s.leaf l).fab.delivered ((s.leaf l).cycleNear (bits
    w.toNat 127 112)) = false :=
    ⟨cycLeaf id, .leaf0, 0, 1, BitVec.ofNat 128 (19 * 2 ^ 112 + 1 * 2 ^ 56 + 33 * 2 ^ 40 + 5000 * 2 ^ 16), 3, by decide +kernel⟩
theorem witness_CycleInstantsTakeEffect_3 : ∃ (s : State) (l : LeafId) (n : Conc) (v : BitVec 512), (s.leaf l).running = true ∧ (s.leaf l).uplinkUp
    n.val = true ∧ bits v.toNat 511 508 = 4 ∧ reached (s.leaf l).fab.delivered ((s.leaf l).cycleNear (bits v.toNat 495 480)) = false :=
    ⟨cycLeaf id, .leaf0, 0, BitVec.ofNat 512 (4 * 2 ^ 508 + 19 * 2 ^ 480 + 77), by decide +kernel⟩
theorem witness_CycleInstantsTakeEffect_4 : ∃ (s : State) (l : LeafId), (s.leaf l).running = true ∧ reached (s.leaf l).fab.delivered (s.leaf
    l).uplCycle = false :=
    ⟨cycLeaf id, .leaf0, by decide +kernel⟩
theorem witness_CycleInstantsTakeEffect_5 : ∃ (s : State) (l : LeafId), (s.leaf l).running = true ∧ reached (s.leaf l).fab.fdDone (s.leaf l).fdCycle =
    false :=
    ⟨cycLeaf id, .leaf0, by decide +kernel⟩
theorem witness_PublishAndComparisonTakeEffect_1 : ∃ (s : State) (l : LeafId), (s.leaf l).running = true ∧ (s.leaf l).tim.cyc ≠ 0 ∧ (s.leaf l).active
    = true ∧ (s.leaf l).justTaken = false ∧ (s.leaf l).is HNG_STATUS_PARTNER_STANDING = false :=
    ⟨cycLeaf id, .leaf0, by decide +kernel⟩
theorem witness_PublishAndComparisonTakeEffect_2 : ∃ (s : State) (l : LeafId), (s.leaf l).hng.role = .standby ∧ (s.leaf l).hng.cmpOk = true ∧ (s.leaf
    l).rd HNG_CFG_CMP_PERSIST ≤ (s.leaf l).hng.misRun :=
    ⟨standLeaf (fun d => { d with hng := { d.hng with misRun := 1000, cmpOk := true } }), .leaf0, by decide +kernel⟩
theorem witness_PublishAndComparisonTakeEffect_3 : ∃ (s : State) (l : LeafId), (s.leaf l).hng.role = .standby ∧ (s.leaf l).hng.cmpOk = false ∧ 1024 ≤
    (s.leaf l).hng.matchRun :=
    ⟨standLeaf (fun d => { d with hng := { d.hng with matchRun := 1024, cmpOk := false } }), .leaf0, by decide +kernel⟩
theorem witness_CommitGroupsTakeEffect_1 : ∃ (s : State) (l : LeafId) (m : Word), (s.leaf l).writable = true ∧ (s.leaf l).active = true ∧ m.toNat ≠ 0
    :=
    ⟨cycLeaf (fun d => { d with cyc := { d.cyc with opened := [(0, 3), (2, 4)] } }), .leaf0, 1, by decide +kernel⟩
theorem witness_CommitGroupsTakeEffect_2 : ∃ (s : State) (l : LeafId), (s.leaf l).writable = true ∧ (s.leaf l).active = false :=
    ⟨standLeaf id, .leaf0, by decide +kernel⟩
theorem witness_CommitGroupsTakeEffect_3 : ∃ (s : State) (l : LeafId), (s.leaf l).writable = true ∧ (s.leaf l).active = true :=
    ⟨cycLeaf (fun d => { d with cyc := { d.cyc with opened := [(0, 3), (2, 4)] } }.wrShadow CYC_PERIOD_PERIOD 50), .leaf0, by decide +kernel⟩
theorem witness_CommitGroupsTakeEffect_4 : ∃ (s : State) (l : LeafId) (st : Stage), (s.leaf l).cyc.stages = [st] ∧ st.at_ + 80 ≤ (s.leaf l).tim.c ∧
    st.mask = 1 ∧ ({ s.leaf l with cyc := { (s.leaf l).cyc with stages := [] } }.showPend).groupCheck ((s.leaf l).delays (s.leaf l.other) s.concs) st
    0 = 0 ∧ (s.leaf l).active = false :=
    ⟨standLeaf (fun d => { d with tim := { d.tim with c := 160000 }, cyc := { d.cyc with stages := [cycStage 120] } }), .leaf0, cycStage 120, by
      decide +kernel⟩
theorem witness_CommitGroupsTakeEffect_5 : ∃ (s : State) (l : LeafId) (st : Stage) (r : Nat), (s.leaf l).cyc.stages = [st] ∧ st.at_ + 80 ≤ (s.leaf
    l).tim.c ∧ st.mask = 1 ∧ 0 < r ∧ ({ s.leaf l with cyc := { (s.leaf l).cyc with stages := [] } }.showPend).groupCheck ((s.leaf l).delays (s.leaf
    l.other) s.concs) st 0 = r :=
    ⟨cycLeaf (fun d => { d with cyc := { d.cyc with stages := [cycStage 9] } }), .leaf0, cycStage 9, 1, by decide +kernel⟩
theorem witness_CommitGroupsTakeEffect_6 : ∃ (s : State) (l : LeafId) (g k : Nat), (s.leaf l).cyc.opened.find? (·.1 = g) = some (g, k) ∧ k + 1000 <
    (s.leaf l).tim.cyc ∧ bitOf ((s.leaf l).rd CYC_GROUP_OPEN_GROUPS) g = false :=
    ⟨cycLeaf (fun d => { d with tim := { d.tim with cyc := 1004 }, cyc := { d.cyc with opened := [(2, 3)] } }), .leaf0, 2, 3, by decide +kernel⟩
theorem witness_TumblerCommandsTakeEffect_1 : ∃ (s : State) (l : LeafId) (a : Arm) (im : Image) (r : ArmRec), (s.leaf l).key.active = some im ∧
    im.arms[a.val]? = some r ∧ (s.leaf l).running = true ∧ (s.leaf l).tilesDone (s.leaf l).fdCycle = true :=
    ⟨cycLeaf id, .leaf0, 0, anImage, ⟨2, 2, 1, [0]⟩, by decide +kernel⟩
theorem witness_TumblerCommandsTakeEffect_2 : ∃ (s : State) (l : LeafId) (slot : Slot), (s.leaf l).rd TUM_XCHK_PERSIST (slot.val / 2048) ≤ SMap.get 0
    ((s.leaf l).tumOf (slot.val / 2048)).xrun (slot.val % 2048) ∧ (s.leaf l).is CT_MISMATCH slot.val = false :=
    ⟨cycLeaf (fun d => d.setTum 0 { xrun := [(3, 255)] }), .leaf0, 3, by decide +kernel⟩
theorem witness_TumblerCommandsTakeEffect_3 : ∃ (s : State) (l : LeafId) (slot : Slot), (s.leaf l).writable = true ∧ (s.leaf l).slotMapped slot.val =
    true :=
    ⟨cycLeaf id, .leaf0, 3, by decide +kernel⟩
theorem witness_ReferenceSelectorTakesEffect_1 : ∃ (s : State) (l : LeafId) (i : RefInput), (s.leaf l).rd TIM_CLK_STATUS_STATE = 0 ∧ (s.leaf
    l).refAllowed i = true ∧ (s.leaf l).prefInput = i ∧ (s.leaf l).pwr.step = 2 :=
    ⟨at0 fun d => { d with pwr := { step := 2 } }, .leaf0, .a, by decide +kernel⟩
theorem witness_ReferenceSelectorTakesEffect_2 : ∃ (s : State) (l : LeafId) (i : RefInput), (s.leaf l).rd TIM_CLK_STATUS_STATE = 3 ∧ (s.leaf
    l).refAllowed i = true ∧ (s.leaf l).prefInput = i :=
    ⟨at0 fun d => d.wr TIM_CLK_STATUS_STATE 3, .leaf0, .a, by decide +kernel⟩
theorem witness_ReferenceSelectorTakesEffect_3 : ∃ (s : State) (l : LeafId) (i : RefInput), (s.leaf l).rd TIM_CLK_STATUS_STATE = refState i ∧ (s.leaf
    l).rd (refQual (refOther i)) = 0 :=
    ⟨at0 fun d => d.wr TIM_CLK_STATUS_STATE 1, .leaf0, .a, by decide +kernel⟩
theorem witness_ReferenceSelectorTakesEffect_4 : ∃ (s : State) (l : LeafId) (i : RefInput), (s.leaf l).rd TIM_CLK_STATUS_STATE = refState i ∧ (s.leaf
    l).rd (refQual (refOther i)) = 1 ∧ (s.leaf l).selAuto = true :=
    ⟨at0 fun d => (d.wr TIM_CLK_STATUS_STATE 1).wr TIM_CLK_STATUS_QUAL_B 1, .leaf0, .a, by decide +kernel⟩
theorem witness_ReferenceSelectorTakesEffect_5 : ∃ (s : State) (l : LeafId), (s.leaf l).rd TIM_CLK_REVERT = 1 ∧ (s.leaf l).selAuto = true ∧ (s.leaf
    l).rd (refQual (s.leaf l).prefInput) = 1 ∧ (s.leaf l).rd TIM_CLK_STATUS_STATE = refState (refOther (s.leaf l).prefInput) :=
    ⟨at0 fun d => ((d.wr TIM_CLK_STATUS_STATE 2).wr TIM_CLK_STATUS_QUAL_A 1).wr TIM_CLK_REVERT 1, .leaf0, by decide +kernel⟩
theorem witness_ReferenceSelectorTakesEffect_6 : ∃ (s : State) (l : LeafId), (s.leaf l).rd TIM_CLK_STATUS_STATE = 3 :=
    ⟨at0 fun d => d.wr TIM_CLK_STATUS_STATE 3, .leaf0, by decide +kernel⟩
theorem witness_ReferenceSelectorTakesEffect_7 : ∃ (s : State) (l : LeafId), (s.leaf l).writable = true ∧ (s.leaf l).rd TIM_CLK_STATUS_STATE ≠ 1 ∧
    (s.leaf l).rd TIM_CLK_STATUS_STATE ≠ 2 :=
    ⟨at0 fun d => { d with pwr := { step := 4 } }, .leaf0, by decide +kernel⟩
theorem witness_ReferenceSelectorTakesEffect_8 : ∃ (n : Nat), 8192 * 9 ≤ n * 10 ∧ n * 10 ≤ 8192 * 11 :=
    ⟨8192, by decide +kernel⟩
theorem witness_ReferenceSelectorTakesEffect_9 : ∃ (s : State) (l : LeafId) (n : Nat), ((n * 10 < 8192 * 9 ∨ 8192 * 11 < n * 10)) ∧ (s.leaf l).active
    = false :=
    ⟨at0 id, .leaf0, 0, by decide +kernel⟩
theorem witness_ReferenceSelectorTakesEffect_10 : ∃ (s : State) (l : LeafId), (s.leaf l).active = true ∧ (s.leaf l).is HNG_STATUS_PARTNER_STANDING =
    true ∧ (s.leaf l).is FLT_STATUS_DEADBOLT = false :=
    ⟨at0 fun d => { d with hng := { role := .active } }.wr HNG_STATUS_PARTNER_STANDING 1, .leaf0, by decide +kernel⟩
theorem witness_ReferenceSelectorTakesEffect_11 : ∃ (s : State) (l : LeafId), (s.leaf l).active = true ∧ (s.leaf l).is HNG_STATUS_PARTNER_STANDING =
    false :=
    ⟨at0 fun d => { d with hng := { role := .active } }, .leaf0, by decide +kernel⟩
theorem witness_AlignmentTriggersAndStampsTakeEffect_1 : ∃ (s : State) (l : LeafId), (s.leaf l).active = false ∧ (s.leaf l).rd HNG_STATUS_PARTNER_UP =
    1 :=
    ⟨at0 fun d => d.wr HNG_STATUS_PARTNER_UP 1, .leaf0, by decide +kernel⟩
theorem witness_AlignmentTriggersAndStampsTakeEffect_2 : ∃ (s : State) (l : LeafId), (s.leaf l).active = false ∧ (s.leaf l).rd HNG_STATUS_PARTNER_UP =
    0 :=
    ⟨at0 fun d => d.wr TIM_CLK_STATUS_MIR_ALIGN 1, .leaf0, by decide +kernel⟩
theorem witness_AlignmentTriggersAndStampsTakeEffect_3 : ∃ (s : State) (l : LeafId) (n : Nat) (t : Int), (s.leaf l).tim.armed.find? (·.1 = n) = some
    (n, t) ∧ t ≤ (s.leaf l).now :=
    ⟨at0 fun d => { d with tim := { armed := [(1, 0)] } }, .leaf0, 1, 0, by decide +kernel⟩
theorem witness_AlignmentTriggersAndStampsTakeEffect_4 : ∃ (s : State) (l : LeafId) (n : Nat) (t : Int), (s.leaf l).tim.armed.find? (·.1 = n) = some
    (n, t) ∧ (s.leaf l).now < t :=
    ⟨at0 fun d => { d with tim := { armed := [(1, 5)] } }, .leaf0, 1, 5, by decide +kernel⟩
theorem witness_AlignmentTriggersAndStampsTakeEffect_5 : ∃ (s : State) (l : LeafId) (p : PtpEvent), (s.leaf l).rd TIM_Pn_CFG_EN p.port.val = 1 ∧
    p.msgType ≤ 3 ∧ (SMap.get [] (s.leaf l).tim.fifo (p.port.val * 2 + b2n p.egress)).length < 16 :=
    ⟨at0 fun d => d.wr TIM_Pn_CFG_EN 1 1, .leaf0, ⟨1, true, 0, 7, 0⟩, by decide +kernel⟩
theorem witness_AlignmentTriggersAndStampsTakeEffect_6 : ∃ (s : State) (l : LeafId) (p : PtpEvent), (s.leaf l).rd TIM_Pn_CFG_EN p.port.val = 1 ∧
    p.msgType ≤ 3 ∧ p.egress = false ∧ 16 ≤ (SMap.get [] (s.leaf l).tim.fifo (p.port.val * 2)).length :=
    ⟨at0 fun d => { d with tim := { fifo := [(2, List.replicate 16 ⟨0, 0, 0, false⟩)] } }.wr TIM_Pn_CFG_EN 1 1, .leaf0, ⟨1, false, 0, 7, 0⟩, by
      decide +kernel⟩
theorem witness_AlignmentTriggersAndStampsTakeEffect_7 : ∃ (s : State) (l : LeafId) (n : Fin 2) (x : PtpStamp) (r : List PtpStamp), SMap.get []
    (s.leaf l).tim.fifo (n.val * 2) = x :: r :=
    ⟨at0 fun d => { d with tim := { fifo := [(2, [⟨1, 9, 5, false⟩])] } }, .leaf0, 1, ⟨1, 9, 5, false⟩, [], by decide +kernel⟩
theorem witness_AlignmentTriggersAndStampsTakeEffect_8 : ∃ (s : State) (l : LeafId) (n : Fin 2) (x : PtpStamp) (r : List PtpStamp), SMap.get []
    (s.leaf l).tim.fifo (n.val * 2 + 1) = x :: r :=
    ⟨at0 fun d => { d with tim := { fifo := [(3, [⟨1, 9, 5, false⟩])] } }, .leaf0, 1, ⟨1, 9, 5, false⟩, [], by decide +kernel⟩
theorem witness_AlignmentTriggersAndStampsTakeEffect_9 : ∃ (s : State) (l : LeafId) (n : Fin 2), SMap.get [] (s.leaf l).tim.fifo (n.val * 2) = [] :=
    ⟨at0 fun d => { d with rdata := 3 }, .leaf0, 0, by decide +kernel⟩
theorem witness_LaneBringUpTakesEffect_1 : ∃ (s : State) (e : LaneEnd), s.laneRuns e = true ∧ s.lane e XX_STATE_STATE = 0 :=
    ⟨aLink upLink 0, upLink, by decide +kernel⟩
theorem witness_LaneBringUpTakesEffect_2 : ∃ (s : State) (e : LaneEnd), s.laneRuns e = true ∧ s.lane e XX_STATE_STATE ≠ 7 :=
    ⟨aLink aPort 5, aPort, by decide +kernel⟩
theorem witness_LaneBringUpTakesEffect_3 : ∃ (s : State) (e : LaneEnd), s.laneRuns e = true ∧ s.lane e XX_STATE_STATE = 1 :=
    ⟨aLink (.uplinkConc 1 .leaf1) 1, .uplinkConc 1 .leaf1, by decide +kernel⟩
theorem witness_LaneBringUpTakesEffect_4 : ∃ (s : State) (e : LaneEnd), s.laneRuns e = true ∧ s.lane e XX_STATE_STATE = 2 :=
    ⟨aLink aPort 2, aPort, by decide +kernel⟩
theorem witness_LaneBringUpTakesEffect_5 : ∃ (s : State) (e : LaneEnd), s.laneRuns e = true ∧ s.lane e XX_STATE_STATE = 3 :=
    ⟨aLink (.mirror .leaf0 1) 3, .mirror .leaf0 1, by decide +kernel⟩
theorem witness_LaneBringUpTakesEffect_6 : ∃ (s : State) (e : LaneEnd), s.laneRuns e = true ∧ s.lane e XX_STATE_STATE = 4 :=
    ⟨aLink (.mirror .leaf0 1) 4, .mirror .leaf0 1, by decide +kernel⟩
theorem witness_LaneBringUpTakesEffect_7 : ∃ (s : State) (l : LeafId), ((∀ i, s.lane (.mirror l i) XX_STATE_STATE = 5)) :=
    ⟨at0 fun d => (((d.wr (XX_STATE_STATE.at 0x230100) 5).wr (XX_STATE_STATE.at 0x230140) 5).wr (XX_STATE_STATE.at 0x230180) 5).wr (XX_STATE_STATE.at
      0x2301C0) 5, .leaf0, by decide +kernel⟩
theorem witness_LaneBringUpTakesEffect_8 : ∃ (s : State) (e : LaneEnd) (v : Nat), s.laneRuns e = true ∧ s.lane e XX_STATE_STATE = v ∧ 2 ≤ v ∧ v ≤ 6 :=
    ⟨aLink upLink 6, upLink, 6, by decide +kernel⟩
theorem witness_LaneBringUpTakesEffect_9 : ∃ (s : State) (l : LeafId) (n : Conc), s.lane (.uplinkLeaf l n) XX_STATE_STATE = 6 ∧ (SMap.get {} (s.leaf
    l).tim.meas n.val).trained = true :=
    ⟨at0 fun d => { d with tim := { meas := [(0, { last := [3, 5, 9], trips := 16 })] } }.wr (XX_STATE_STATE.at 0x220000) 6, .leaf0, 0, by
      decide +kernel⟩
theorem witness_LaneBringUpTakesEffect_10 : ∃ (s : State) (n : Conc) (p : Port), s.lane (.port n p) XX_STATE_STATE = 6 ∧ (SMap.get {} (s.conc n).meas
    p.val).trained = true :=
    ⟨at1 fun d => { d with meas := [(1, { last := [3, 5, 9], trips := 16 })] }.wr (XX_STATE_STATE.at 0x4040) 6, 0, 1, by decide +kernel⟩
theorem witness_LaneBringUpTakesEffect_11 : ∃ (s : State) (c : CellId), (s.cell c).pow = .run ∧ s.lane (.cell c) XX_STATE_STATE = 6 :=
    ⟨at2 fun d => { d with pow := .run }.wr (XX_STATE_STATE.at 0x400) 6, c0, by decide +kernel⟩
theorem witness_LaneLossAndRetransmissionTakeEffect_1 : ∃ (s : State) (e : LaneEnd), s.laneRuns e = true ∧ s.lane e XX_STATE_STATE = 7 :=
    ⟨aLink (.uplinkConc 1 .leaf1) 7, .uplinkConc 1 .leaf1, by decide +kernel⟩
theorem witness_LaneLossAndRetransmissionTakeEffect_2 : ∃ (s : State) (l : LeafId) (n : Conc), s.lane (.uplinkLeaf l n) XX_STATE_STATE = 7 :=
    ⟨aLink upLink 7, .leaf0, 0, by decide +kernel⟩
theorem witness_LaneLossAndRetransmissionTakeEffect_3 : ∃ (s : State) (n : Conc) (p : Port), s.lane (.port n p) XX_STATE_STATE = 7 :=
    ⟨aLink aPort 7, 0, 1, by decide +kernel⟩
theorem witness_LaneLossAndRetransmissionTakeEffect_4 : ∃ (s : State) (e : LaneEnd), s.laneRuns e = true ∧ s.lane e XX_STATE_STATE = 7 :=
    ⟨aLink aPort 7, aPort, by decide +kernel⟩
theorem witness_LaneLossAndRetransmissionTakeEffect_5 : ∃ (s : State) (l : LeafId) (n : Conc) (seq : Nat) (o : Out) (r : List Out), (s.leaf l).laneUp
    (.uplinkLeaf l n) = true ∧ ((s.leaf l).sender (.uplinkLeaf l n)).unacked = o :: r ∧ ((s.leaf l).sender (.uplinkLeaf l n)).base = seq ∧ seq < 256 ∧
    ((s.leaf l).sender (.uplinkLeaf l n)).waiting = [] :=
    ⟨at0 fun d => { d with lanes := [(0, { base := 3, unacked := [aOut] })] }.wr (XX_STATE_STATE.at 0x220000) 7, .leaf0, 0, 3, aOut, [], by
      decide +kernel⟩
theorem witness_LaneLossAndRetransmissionTakeEffect_6 : ∃ (s : State) (c : CellId) (o : Out) (r : List Out), (s.cell c).pow = .run ∧ (s.cell c).laneUp
    = true ∧ (s.cell c).sender.unacked = o :: r ∧ (s.cell c).sender.tries < 8 :=
    ⟨at2 fun d => { d with pow := .run, lanes := [(0, { unacked := [aOut] })] }.wr (XX_STATE_STATE.at 0x400) 7, c0, aOut, [], by decide +kernel⟩
theorem witness_LaneLossAndRetransmissionTakeEffect_7 : ∃ (s : State) (n : Conc) (p : Port) (o : Out) (r : List Out), (s.conc n).laneUp (.port n p) =
    true ∧ ((s.conc n).sender (.port n p)).unacked = o :: r ∧ 8 ≤ ((s.conc n).sender (.port n p)).tries :=
    ⟨at1 fun d => { d with lanes := [(1, { unacked := [aOut], tries := 8 })] }.wr (XX_STATE_STATE.at 0x4040) 7, 0, 1, aOut, [], by decide +kernel⟩
theorem witness_LaneLossAndRetransmissionTakeEffect_9 : ∃ (s : State) (c : CellId), (s.cell c).pow = .run :=
    ⟨at2 fun d => { d with pow := .run }, c0, by decide +kernel⟩
theorem witness_LaneTestFacilitiesTakeEffect_1 : ∃ (s : State) (l : LeafId) (n : Conc), (s.leaf l).writable = true ∧ (s.leaf l).moving = false ∧
    s.lane (.uplinkLeaf l n) XX_STATE_STATE = 7 ∧ injOn (s.lane (.uplinkLeaf l n) XX_INJ_MODE) = false :=
    ⟨at0 fun d => { d with pwr := { step := 4 } }.wr (XX_STATE_STATE.at 0x220000) 7, .leaf0, 0, by decide +kernel⟩
theorem witness_LaneTestFacilitiesTakeEffect_2 : ∃ (s : State) (l : LeafId), (s.leaf l).writable = true ∧ (s.leaf l).moving = true :=
    ⟨at0 fun d => { d with pwr := { step := 4 }, conv := { st := .charging } }.wr (XX_STATE_STATE.at 0x220000) 7, .leaf0, by decide +kernel⟩
theorem witness_LaneTestFacilitiesTakeEffect_3 : ∃ (s : State) (n : Conc) (p : Port), (s.conc n).is AFLT_STATUS_DEADBOLT = false ∧ (s.conc n).moving =
    false ∧ 1 ≤ s.lane (.port n p) XX_STATE_STATE ∧ s.lane (.port n p) XX_STATE_STATE ≤ 6 :=
    ⟨aLink aPort 5, 0, 1, by decide +kernel⟩
theorem witness_LaneTestFacilitiesTakeEffect_4 : ∃ (s : State) (n : Conc) (p : Port), (s.conc n).is AFLT_STATUS_DEADBOLT = false ∧ (s.conc n).moving =
    true ∧ s.lane (.port n p) XX_CTL_PRBS_GEN = 0 :=
    ⟨at1 fun d => { d with sw := { conv := 4 } }, 0, 1, by decide +kernel⟩
theorem witness_LaneTestFacilitiesTakeEffect_5 : ∃ (s : State) (c : CellId), (s.cell c).pow = .run ∧ (s.cell c).is CFLT_STATUS_DEADBOLT = false ∧
    s.lane (.cell c) XX_STATE_STATE = 8 ∧ injOn (s.lane (.cell c) XX_INJ_MODE) = false :=
    ⟨at2 fun d => { d with pow := .run }.wr (XX_STATE_STATE.at 0x400) 8, c0, by decide +kernel⟩
theorem witness_MarkersTakeEffect_1 : ∃ (s : State) (c : CellId), (s.cell c).pow = .run ∧ s.lane (.cell c) XX_STATE_STATE = 6 :=
    ⟨at2 fun d => { d with pow := .run }.wr (XX_STATE_STATE.at 0x400) 6, c0, by decide +kernel⟩
theorem witness_MarkersTakeEffect_2 : ∃ (s : State) (e : LaneEnd), s.laneRuns e = true :=
    ⟨aLink upLink 7, upLink, by decide +kernel⟩
theorem witness_MarkersTakeEffect_3 : ∃ (s : State) (l : LeafId) (n : Conc), s.lane (.uplinkLeaf l n) XX_STATE_STATE = 6 :=
    ⟨aLink upLink 6, .leaf0, 0, by decide +kernel⟩
theorem witness_MarkersTakeEffect_4 : ∃ (s : State) (l : LeafId) (n : Conc), 16 ≤ (SMap.get {} (s.leaf l).tim.meas n.val).confirm ∧ (s.leaf l).moving
    = false :=
    ⟨at0 fun d => { d with tim := { meas := [(0, { last := [3, 5, 9], confirm := 16 })] } }, .leaf0, 0, by decide +kernel⟩
theorem witness_MarkersTakeEffect_5 : ∃ (s : State) (n : Conc) (p : Port), 16 ≤ (SMap.get {} (s.conc n).meas p.val).confirm ∧ (s.conc n).moving =
    false :=
    ⟨at1 fun d => { d with meas := [(1, { last := [3, 5, 9], confirm := 16 })] }, 0, 1, by decide +kernel⟩
theorem witness_MarkersTakeEffect_6 : ∃ (s : State) (c : CellId), (s.cell c).pow = .run ∧ 1 ≤ s.lane (.cell c) XX_STATE_STATE ∧ s.lane (.cell c)
    XX_STATE_STATE ≤ 7 :=
    ⟨at2 fun d => { d with pow := .run }.wr (XX_STATE_STATE.at 0x400) 6, c0, by decide +kernel⟩
theorem witness_MarkersTakeEffect_7 : ∃ (s : State) (l : LeafId) (n : Conc), 1 ≤ s.lane (.uplinkLeaf l n) XX_STATE_STATE ∧ s.lane (.uplinkLeaf l n)
    XX_STATE_STATE ≤ 7 :=
    ⟨aLink upLink 6, .leaf0, 0, by decide +kernel⟩
theorem witness_CellGridCommandsTakeEffect_1 : ∃ (s : State) (c : CellId) (b : BitVec 219), (s.cell c).pow = .run ∧ (s.cell c).fw.fallbackWait = false
    ∧ (bits b.toNat 214 199 + 65536 - (s.cell c).cyc % 65536) % 65536 = 2 ∧ (s.cell c).wordOk (bits b.toNat 182 167) = true ∧ bits b.toNat 198 187 +
    4096 * bits b.toNat 186 184 + 2 < s.grid.tc ∧ (s.cell c).heldFor (bits b.toNat 214 199) = none :=
    ⟨readyCell id, c0, ctlBody 2 5 0x2000, by decide +kernel⟩
theorem witness_CellGridCommandsTakeEffect_2 : ∃ (s : State) (c : CellId) (b : BitVec 219), (s.cell c).pow = .run ∧ (s.cell c).fw.fallbackWait = false
    ∧ bits b.toNat 214 199 = (s.cell c).cyc % 65536 ∧ (s.cell c).wordOk (bits b.toNat 182 167) = true ∧ bits b.toNat 198 187 + 4096 * bits b.toNat 186
    184 + 2 < s.grid.tc :=
    ⟨readyCell id, c0, ctlBody 0 5 0x2000, by decide +kernel⟩
theorem witness_CellGridCommandsTakeEffect_3 : ∃ (s : State) (c : CellId), (s.cell c).pow = .run :=
    ⟨readyCell id, c0, by decide +kernel⟩
theorem witness_CellGridCommandsTakeEffect_4 : ∃ (s : State) (c : CellId), (s.cell c).pow = .run :=
    ⟨readyCell id, c0, by decide +kernel⟩
theorem witness_CellGridCommandsTakeEffect_5 : ∃ (s : State) (c : CellId), (s.cell c).pow = .run ∧ (s.cell c).sw.latched = false ∧ (s.cell c).heldFor
    (s.cell c).cyc = none :=
    ⟨readyCell id, c0, by decide +kernel⟩
theorem witness_CellGridCommandsTakeEffect_6 : ∃ (s : State) (c : CellId) (h : HeldWord), (s.cell c).pow = .run ∧ (s.cell c).sw.latched = false ∧
    (s.cell c).heldFor (s.cell c).cyc = some h ∧ (s.cell c).sw.st = .ready ∧ (s.cell c).rd CPWM_STATUS_MODE_NOW = 0 ∧ (s.cell c).sw.laneClock = true ∧
    (s.cell c).rd CFLT_STATUS_DEADBOLT = 0 :=
    ⟨readyCell fun d => { d with sw := { d.sw with held := [⟨0, 300, 0x2000, 0⟩] } }, c0, ⟨0, 300, 0x2000, 0⟩, by decide +kernel⟩
theorem witness_CellGridCommandsTakeEffect_7 : ∃ (s : State) (c : CellId), (s.cell c).pow = .run ∧ (s.cell c).sw.st = .ready :=
    ⟨readyCell id, c0, by decide +kernel⟩
theorem witness_CellGridCommandsTakeEffect_8 : ∃ (s : State) (c : CellId), (s.cell c).pow = .run ∧ (s.cell c).sw.st = .ready ∧ (s.cell c).rd
    CLNK_SILENCE_SILENCE ≤ (s.cell c).rd CLNK_SILENCE_SILENT_NOW :=
    ⟨readyCell fun d => d.wr CLNK_SILENCE_SILENT_NOW 8, c0, by decide +kernel⟩
theorem witness_CellGridCommandsTakeEffect_9 : ∃ (s : State) (c : CellId), (s.cell c).pow = .run ∧ (s.cell c).sw.st = .ready :=
    ⟨readyCell id, c0, by decide +kernel⟩
theorem witness_CellGateAndLocalCommandsTakeEffect_1 : ∃ (s : State) (c : CellId), (s.cell c).pow = .run :=
    ⟨readyCell fun d => { d with sw := { d.sw with shortNoted := true } }, c0, by decide +kernel⟩
theorem witness_CellGateAndLocalCommandsTakeEffect_2 : ∃ (s : State) (c : CellId), (s.cell c).pow = .run ∧ (s.cell c).sw.lead = true :=
    ⟨readyCell fun d => { d with sw := { d.sw with lead := true } }.wr CPWM_GATES_G 10, c0, by decide +kernel⟩
theorem witness_CellGateAndLocalCommandsTakeEffect_3 : ∃ (s : State) (c : CellId), (s.cell c).pow = .run ∧ (s.cell c).rd CPWM_GATES_SOFT_OFF = 1 ∧
    (s.cell c).sw.edges = [] :=
    ⟨readyCell fun d => d.wr CPWM_GATES_SOFT_OFF 1, c0, by decide +kernel⟩
theorem witness_CellGateAndLocalCommandsTakeEffect_4 : ∃ (s : State) (c : CellId) (v : Word), (s.cell c).pow = .run ∧ (s.cell c).rd
    CFLT_STATUS_DEADBOLT = 0 ∧ bits v.toNat 1 0 = 1 ∧ (s.cell c).sw.st = .ready ∧ (s.cell c).sw.executed = true ∧ bits ((s.cell c).rd CPWM_LAST_WORD)
    15 13 = 0 :=
    ⟨readyCell id, c0, 0x211, by decide +kernel⟩
theorem witness_CellGateAndLocalCommandsTakeEffect_5 : ∃ (s : State) (c : CellId) (v : Word), (s.cell c).pow = .run ∧ (s.cell c).rd
    CFLT_STATUS_DEADBOLT = 0 ∧ bits v.toNat 1 0 = 1 ∧ (s.cell c).sw.st ≠ .ready :=
    ⟨runCell id, c0, 1, by decide +kernel⟩
theorem witness_CellGateAndLocalCommandsTakeEffect_6 : ∃ (s : State) (c : CellId) (v : Word), (s.cell c).pow = .run ∧ (s.cell c).rd
    CFLT_STATUS_DEADBOLT = 0 ∧ bits v.toNat 1 0 = 0 ∧ (s.cell c).rd CPWM_STATUS_MODE_NOW = 1 :=
    ⟨readyCell fun d => d.wr CPWM_STATUS_MODE_NOW 1, c0, 0, by decide +kernel⟩
theorem witness_CellGateAndLocalCommandsTakeEffect_7 : ∃ (s : State) (c : CellId) (t : Nat), (s.cell c).pow = .run ∧ (s.cell c).rd
    CPWM_STATUS_MODE_NOW = 1 ∧ (s.cell c).sw.locNext = some t ∧ (s.cell c).sw.pairReady = true ∧ (s.cell c).sw.pwmHeld = [] :=
    ⟨readyCell fun d => ({ d with sw := { d.sw with locNext := some 2000, pairReady := true } }.wr CPWM_STATUS_MODE_NOW 1).wr CPWM_DUTY_DUTY 900, c0,
      2000, by decide +kernel⟩
theorem witness_CellGateAndLocalCommandsTakeEffect_8 : ∃ (s : State) (c : CellId), (s.cell c).pow = .run ∧ (s.cell c).rd CFLT_STATUS_DEADBOLT = 0 :=
    ⟨readyCell id, c0, by decide +kernel⟩
theorem witness_CellGateAndLocalCommandsTakeEffect_9 : ∃ (s : State) (c : CellId), (s.cell c).pow = .run ∧ (s.cell c).rd CFLT_STATUS_DEADBOLT = 0 :=
    ⟨readyCell id, c0, by decide +kernel⟩
theorem witness_CellTripCommandsTakeEffect_1 : ∃ (s : State) (c : CellId) (i : Fin 4), (s.cell c).pow = .run ∧ (s.cell c).hasInput i.val = true ∧
    bitOf ((s.cell c).rd CTRP_STATUS_LEVEL) i.val = false ∧ bitOf ((s.cell c).rd CTRP_CFG_EN) i.val = true ∧ (s.cell c).sw.st = .ready ∧ ((s.cell
    c).trip.window.filter fun t => (s.cell c).trip.ms < t + 1000).length < 2 :=
    ⟨readyCell id, c0, 3, by decide +kernel⟩
theorem witness_CellTripCommandsTakeEffect_2 : ∃ (s : State) (c : CellId) (i : Fin 4), (s.cell c).pow = .run ∧ (s.cell c).hasInput i.val = true ∧
    bitOf ((s.cell c).rd CTRP_STATUS_LEVEL) i.val = false ∧ bitOf ((s.cell c).rd CTRP_CFG_EN) i.val = true ∧ (s.cell c).sw.st = .ready ∧ 2 ≤ ((s.cell
    c).trip.window.filter fun t => (s.cell c).trip.ms < t + 1000).length :=
    ⟨readyCell fun d => { d with trip := { window := [0, 0] } }, c0, 0, by decide +kernel⟩
theorem witness_CellTripCommandsTakeEffect_3 : ∃ (s : State) (c : CellId) (i : Fin 4), (s.cell c).pow = .run ∧ (s.cell c).hasInput i.val = true ∧
    bitOf ((s.cell c).rd CTRP_STATUS_LEVEL) i.val = true ∧ bitOf ((s.cell c).rd CTRP_CFG_EN) i.val = true :=
    ⟨readyCell fun d => d.wr CTRP_STATUS_LEVEL 6, c0, 2, by decide +kernel⟩
theorem witness_CellTripCommandsTakeEffect_4 : ∃ (s : State) (c : CellId) (i : Fin 4), (s.cell c).pow = .run ∧ (s.cell c).rd CFLT_STATUS_DEADBOLT = 0
    ∧ (s.cell c).hasInput i.val = true :=
    ⟨readyCell id, c0, 1, by decide +kernel⟩
theorem witness_CellTripCommandsTakeEffect_5 : ∃ (s : State) (c : CellId), (s.cell c).pow = .run ∧ (s.cell c).sw.st = .tripBlocked ∧ (s.cell c).rd
    CFLT_STATUS_DEADBOLT = 0 ∧ (s.cell c).tripActive = false ∧ (s.cell c).trip.quiet + (s.cell c).rd CTRP_CFG_REARM_MS ≤ (s.cell c).trip.ms ∧
    (((s.cell c).rd CTRP_CFG_AUTO = 1 ∨ (s.cell c).rd CTRP_STATUS_CLEAR_PEND = 1)) :=
    ⟨runCell fun d => { d with sw := { st := .tripBlocked, started := true }, trip := { ms := 70 } }.wr CTRP_CFG_AUTO 1, c0, by decide +kernel⟩
theorem witness_CellTripCommandsTakeEffect_6 : ∃ (s : State) (c : CellId), (s.cell c).pow = .run ∧ (s.cell c).rd CTRP_CFG_AUTO = 0 ∧ (s.cell c).rd
    CTRP_STATUS_CLEAR_PEND = 0 :=
    ⟨runCell fun d => { d with sw := { st := .tripBlocked, started := true }, trip := { ms := 70 } }, c0, by decide +kernel⟩
theorem witness_CellTripCommandsTakeEffect_7 : ∃ (s : State) (c : CellId) (v : Word), (s.cell c).pow = .run ∧ (s.cell c).rd CFLT_STATUS_DEADBOLT = 0 ∧
    (s.cell c).sw.st = .tripBlocked ∧ bitOf v.toNat 0 = true :=
    ⟨runCell fun d => { d with sw := { st := .tripBlocked } }, c0, 1, by decide +kernel⟩
theorem witness_CellBypassCommandsTakeEffect_1 : ∃ (s : State) (c : CellId), (s.cell c).pow ≠ .off ∧ (s.cell c).trip.firing = true :=
    ⟨boltedCell 1, c0, by decide +kernel⟩
theorem witness_CellBypassCommandsTakeEffect_2 : ∃ (s : State) (c : CellId), (s.cell c).pow ≠ .off ∧ (s.cell c).trip.coil = true :=
    ⟨boltedCell 1, c0, by decide +kernel⟩
theorem witness_CellBypassCommandsTakeEffect_3 : ∃ (s : State) (c : CellId), (s.cell c).pow ≠ .off ∧ (s.cell c).sw.st = .bolted :=
    ⟨boltedCell 1, c0, by decide +kernel⟩
theorem witness_CellBypassCommandsTakeEffect_4 : ∃ (s : State) (c : CellId), (s.cell c).pow ≠ .off ∧ (s.cell c).sw.st = .bolted ∧ (s.cell c).rd
    CBYP_STATUS_AUX = 0 ∧ (s.cell c).trip.coils = 1 :=
    ⟨boltedCell 1, c0, by decide +kernel⟩
theorem witness_CellBypassCommandsTakeEffect_5 : ∃ (s : State) (c : CellId), (s.cell c).pow ≠ .off ∧ (s.cell c).sw.st = .bolted ∧ (s.cell c).rd
    CBYP_STATUS_AUX = 0 ∧ (s.cell c).trip.coils = 2 ∧ (s.cell c).rd CBYP_STATUS_BOLT_UNCONF = 0 :=
    ⟨boltedCell 2, c0, by decide +kernel⟩
theorem witness_CellBypassCommandsTakeEffect_6 : ∃ (s : State) (c : CellId) (v : Word), (s.cell c).pow = .run ∧ (s.cell c).rd CFLT_STATUS_DEADBOLT = 0
    ∧ bits v.toNat 31 16 = 0xB01D ∧ bits v.toNat 1 0 = 1 ∧ (s.cell c).sw.st ≠ .bolted ∧ (s.cell c).sw.st ≠ .bypassFired :=
    ⟨readyCell id, c0, 0xB01D0001, by decide +kernel⟩
theorem witness_CellBypassCommandsTakeEffect_7 : ∃ (s : State) (c : CellId) (v : Word), (s.cell c).pow = .run ∧ (s.cell c).rd CFLT_STATUS_DEADBOLT = 0
    ∧ bits v.toNat 31 16 = 0xB01D ∧ bits v.toNat 1 0 = 2 ∧ (s.cell c).sw.st ≠ .bolted :=
    ⟨readyCell id, c0, 0xB01D0002, by decide +kernel⟩
theorem witness_CellBypassCommandsTakeEffect_8 : ∃ (s : State) (c : CellId) (v : Word), (s.cell c).pow = .run ∧ (s.cell c).rd CFLT_STATUS_DEADBOLT = 0
    ∧ bits v.toNat 31 16 = 0xB01D ∧ bits v.toNat 1 0 = 3 ∧ (s.cell c).sw.st = .bypassFired ∧ (s.cell c).tripActive = false ∧ (s.cell c).rd
    CADC_UV_THRESH ≤ (s.cell c).adc.vcap ∧ (s.cell c).adc.vcap ≤ (s.cell c).rd CBYP_OV_WARN :=
    ⟨runCell fun d => { d with sw := { st := .bypassFired, started := true }, adc := { vcap := 100 } }, c0, 0xB01D0003, by decide +kernel⟩
theorem witness_CellBypassCommandsTakeEffect_9 : ∃ (s : State) (c : CellId) (v : Word), (s.cell c).pow = .run ∧ (s.cell c).rd CFLT_STATUS_DEADBOLT = 0
    ∧ bits v.toNat 31 16 = 0xB01D ∧ bits v.toNat 1 0 = 3 ∧ (s.cell c).sw.st = .bypassFired ∧ (s.cell c).tripActive = true :=
    ⟨runCell fun d => { d with sw := { st := .bypassFired, started := true } }.wr CTRP_STATUS_LEVEL 2, c0, 0xB01D0003, by decide +kernel⟩
theorem witness_CellBypassCommandsTakeEffect_10 : ∃ (s : State) (c : CellId) (v : Word) (i : Instr), i ∈ [.fire c v, .bolt c v, .release c v] ∧
    (s.cell c).pow = .run ∧ (s.cell c).rd CFLT_STATUS_DEADBOLT = 0 ∧ bits v.toNat 31 16 ≠ 0xB01D :=
    ⟨readyCell id, c0, 1, .bolt c0 1, by decide +kernel⟩
theorem witness_CellConversionsTakeEffect_1 : ∃ (s : State) (c : CellId), (s.cell c).pow = .run :=
    ⟨convCell fun d => { d with adc := { job := .general 3 } }, c0, by decide +kernel⟩
theorem witness_CellConversionsTakeEffect_2 : ∃ (s : State) (c : CellId), (s.cell c).pow = .run ∧ (s.cell c).adc.job = .cap ∧ (s.cell c).adc.susp =
    none ∧ (s.cell c).adc.pend.contains 0 = false ∧ (s.cell c).laneUp = true :=
    ⟨convCell fun d => { d with adc := { job := .cap } }.wr CADC_UV_THRESH 9999, c0, by decide +kernel⟩
theorem witness_CellConversionsTakeEffect_3 : ∃ (s : State) (c : CellId) (f : Nat), (s.cell c).pow = .run ∧ (s.cell c).adc.frame = some f ∧ (s.cell
    c).laneUp = true :=
    ⟨convCell fun d => { d with adc := { frame := some 77 } }, c0, 77, by decide +kernel⟩
theorem witness_CellConversionsTakeEffect_4 : ∃ (s : State) (c : CellId) (n : Fin 4), (s.cell c).pow = .run ∧ (s.cell c).rd CPWM_CMPn_EN n.val = 1 ∧
    (s.cell c).rd CPWM_STATUS_MODE_NOW = 0 ∧ (s.cell c).rd CPWM_CMPn_POINT n.val < (s.cell c).sw.len ∧ (s.cell c).rd CADC_TRIG_CMPn_EN n.val = 1 ∧
    (s.cell c).adc.job = .none ∧ (s.cell c).idleRuns = true ∧ (s.cell c).entryOk ((s.cell c).rd CADC_TRIG_CMPn_FIRST n.val) = true :=
    ⟨convCell fun d => (((d.wr CPWM_CMPn_EN 1 2).wr CPWM_CMPn_POINT 100 2).wr CADC_TRIG_CMPn_EN 1 2).wr CADC_TRIG_CMPn_FIRST 3 2, c0, 2, by
      decide +kernel⟩
theorem witness_CellConversionsTakeEffect_5 : ∃ (s : State) (c : CellId) (n : Fin 4), (s.cell c).pow = .run ∧ (s.cell c).rd CPWM_CMPn_EN n.val = 1 ∧
    (s.cell c).rd CPWM_STATUS_MODE_NOW = 0 ∧ (s.cell c).rd CPWM_CMPn_POINT n.val < (s.cell c).sw.len ∧ (s.cell c).rd CADC_TRIG_CMPn_EN n.val = 1 ∧
    (s.cell c).runBusy (n.val + 1) = true :=
    ⟨convCell fun d => ((({ d with adc := { pend := [3] } }.wr CPWM_CMPn_EN 1 2).wr CPWM_CMPn_POINT 100 2).wr CADC_TRIG_CMPn_EN 1 2), c0, 2, by
      decide +kernel⟩
theorem witness_CellConversionsTakeEffect_6 : ∃ (s : State) (c : CellId) (v : Word), (s.cell c).pow = .run ∧ (s.cell c).rd CFLT_STATUS_DEADBOLT = 0 ∧
    bitOf v.toNat 0 = true ∧ (s.cell c).rd CADC_CTL_CONT = 0 ∧ (s.cell c).rd CADC_CTL_EN = 1 ∧ (s.cell c).adc.general = false ∧ (s.cell c).adc.job =
    .none ∧ (s.cell c).idleRuns = true ∧ (s.cell c).rd CADC_CTL_SEL < 14 :=
    ⟨convCell fun d => (d.wr CADC_CTL_EN 1).wr CADC_CTL_SEL 13, c0, 1, by decide +kernel⟩
theorem witness_CellConversionsTakeEffect_7 : ∃ (s : State) (c : CellId) (ch : Nat), (s.cell c).pow = .run ∧ (s.cell c).adc.job = .general ch ∧ ch ≠
    (s.cell c).rd CADC_CAP_CH ∧ (s.cell c).rd CADC_CTL_CONT = 0 :=
    ⟨convCell fun d => { d with adc := { job := .general 8 } }, c0, 8, by decide +kernel⟩
theorem witness_CellConversionsTakeEffect_8 : ∃ (s : State) (c : CellId) (src i : Nat), (s.cell c).pow = .run ∧ (s.cell c).adc.job = .entry src i 1 ∧
    i < 16 ∧ (s.cell c).rd CADC_SEQn_CH i ≠ (s.cell c).rd CADC_CAP_CH :=
    ⟨convCell fun d => { d with adc := { job := .entry 1 15 1 } }, c0, 1, 15, by decide +kernel⟩
theorem witness_CellConversionsTakeEffect_9 : ∃ (s : State) (c : CellId) (src : Nat), (s.cell c).pow = .run ∧ (s.cell c).adc.job = .none ∧ (s.cell
    c).adc.susp = none ∧ (s.cell c).adc.slice = false ∧ (s.cell c).adc.pend = [src] ∧ src < 5 ∧ (s.cell c).entryOk ((s.cell c).trigOf src).2.1 = true
    :=
    ⟨convCell fun d => { d with adc := { pend := [1] } }.wr CADC_TRIG_CMPn_FIRST 3 0, c0, 1, by decide +kernel⟩
theorem witness_CellServicesTakeEffect_1 : ∃ (s : State) (c : CellId) (t : Int), (s.cell c).pow = .run ∧ t ≤ sext 8 ((s.cell c).rd CADC_TEMP_OVT) :=
    ⟨readyCell id, c0, -5, by decide +kernel⟩
theorem witness_CellServicesTakeEffect_2 : ∃ (s : State) (c : CellId) (t : Int), (s.cell c).pow = .run ∧ sext 8 ((s.cell c).rd CADC_TEMP_OVT) < t ∧
    (s.cell c).rd CADC_STATUS_OVT = 0 :=
    ⟨readyCell id, c0, 116, by decide +kernel⟩
theorem witness_CellServicesTakeEffect_3 : ∃ (s : State) (c : CellId) (v : Word), (s.cell c).pow = .run ∧ (s.cell c).rd CFLT_STATUS_DEADBOLT = 0 ∧
    popcount v.toNat 14 ≤ 4 :=
    ⟨readyCell id, c0, 0xF, by decide +kernel⟩
theorem witness_CellServicesTakeEffect_4 : ∃ (s : State) (c : CellId) (v : Word), (s.cell c).pow = .run ∧ (s.cell c).rd CFLT_STATUS_DEADBOLT = 0 ∧ 4 <
    popcount v.toNat 14 :=
    ⟨readyCell id, c0, 0x1F, by decide +kernel⟩
theorem witness_CellServicesTakeEffect_5 : ∃ (s : State) (c : CellId) (v : Word), (s.cell c).pow = .run ∧ (s.cell c).rd CFLT_STATUS_DEADBOLT = 0 ∧
    bitOf v.toNat 0 = true ∧ (s.cell c).adc.calRun = false :=
    ⟨readyCell id, c0, 1, by decide +kernel⟩
theorem witness_CellServicesTakeEffect_6 : ∃ (s : State) (c : CellId), (s.cell c).pow = .run ∧ (s.cell c).adc.calReq = true ∧ (s.cell c).adc.calRun =
    false ∧ (s.cell c).adc.job = .none ∧ (s.cell c).idleRuns = true :=
    ⟨readyCell fun d => { d with adc := { calReq := true } }, c0, by decide +kernel⟩
theorem witness_CellServicesTakeEffect_7 : ∃ (s : State) (c : CellId), (s.cell c).pow = .run ∧ (s.cell c).adc.calRun = true ∧ (s.cell c).rd
    CADC_CAL_SLICES = 10 :=
    ⟨readyCell fun d => { d with adc := { calRun := true } }.wr CADC_CAL_SLICES 10, c0, by decide +kernel⟩
theorem witness_CellServicesTakeEffect_8 : ∃ (s : State) (c : CellId), (s.cell c).pow = .run ∧ (s.cell c).adc.calRun = true ∧ (s.cell c).rd
    CADC_CAL_SLICES = 10 :=
    ⟨readyCell fun d => { d with adc := { calRun := true } }.wr CADC_CAL_SLICES 10, c0, by decide +kernel⟩
theorem witness_CellServicesTakeEffect_9 : ∃ (s : State) (c : CellId), (s.cell c).pow = .run ∧ (s.cell c).ident.variant = 1 ∧ (s.cell c).rd
    CDSM_CTL_EN = 1 ∧ 17 ≤ (s.cell c).adc.dsm :=
    ⟨readyCell fun d => ({ d with adc := { dsm := 17 } }.wr CDSM_CTL_EN 1).wr CDSM_CTL_SCALE 0x4000, c0, by decide +kernel⟩
theorem witness_CellRetentionAndSleepTakeEffect_1 : ∃ (s : State) (c : CellId) (a : Nat), (s.cell c).pow ≠ .off ∧ a / 4 < 0x1FFF :=
    ⟨readyCell id, c0, 0x7FF8, by decide +kernel⟩
theorem witness_CellRetentionAndSleepTakeEffect_2 : ∃ (s : State) (c : CellId) (i : Nat), (s.cell c).pow = .sleep ∧ i < 64 :=
    ⟨at2 fun d => { d with pow := .sleep, ret := { counters := [(63, 5)] } }, c0, 63, by decide +kernel⟩
theorem witness_CellRetentionAndSleepTakeEffect_3 : ∃ (s : State) (c : CellId) (mv : Nat), (s.cell c).pow = .run ∧ mv < 2600 ∧ (s.cell c).rd
    CRET_STATUS_RET_LOW = 0 :=
    ⟨readyCell id, c0, 2599, by decide +kernel⟩
theorem witness_CellRetentionAndSleepTakeEffect_4 : ∃ (s : State) (c : CellId), (s.cell c).pow = .run ∧ (s.cell c).rd CFLT_STATUS_DEADBOLT = 0 ∧
    0x1000 ≤ (s.cell c).rd CRET_WIN_ADDR_ADDR :=
    ⟨readyCell fun d => d.wr CRET_WIN_ADDR_ADDR 0x1000, c0, by decide +kernel⟩
theorem witness_CellRetentionAndSleepTakeEffect_5 : ∃ (s : State) (c : CellId), (s.cell c).pow = .run ∧ 0x1000 ≤ (s.cell c).rd CRET_WIN_ADDR_ADDR :=
    ⟨readyCell fun d => { d with ret := { station := [(0, 9)] } }.wr CRET_WIN_ADDR_ADDR 0x1000, c0, by decide +kernel⟩
theorem witness_CellRetentionAndSleepTakeEffect_6 : ∃ (s : State) (c : CellId), (s.cell c).pow = .run ∧ (s.cell c).sw.st ≠ .bolted :=
    ⟨readyCell id, c0, by decide +kernel⟩
theorem witness_CellRetentionAndSleepTakeEffect_7 : ∃ (s : State) (c : CellId), (s.cell c).pow = .sleep :=
    ⟨at2 fun d => { d with pow := .sleep, ret := { latch := true } }.wr CRET_STATUS_VALID 1, c0, by decide +kernel⟩
theorem witness_UpdateFramesTakeEffect_1 : ∃ (s : State) (n : Conc) (u : UpdFrame), (s.conc n).rd AFLT_STATUS_DEADBOLT = 0 ∧ (s.conc n).fw.up = true ∧
    u.dest = false ∧ u.session = (s.conc n).fw.tag ∧ (s.conc n).fw.sess.st = 1 ∧ u.frag < 63 :=
    ⟨upConc 1, 0, upFrame 7, by decide +kernel⟩
theorem witness_UpdateFramesTakeEffect_2 : ∃ (s : State) (n : Conc) (u : UpdFrame), (s.conc n).rd AFLT_STATUS_DEADBOLT = 0 ∧ (s.conc n).fw.up = true ∧
    u.dest = true :=
    ⟨upConc 1, 0, { upFrame 7 with dest := true }, by decide +kernel⟩
theorem witness_UpdateFramesTakeEffect_3 : ∃ (s : State) (c : CellId) (u : UpdFrame), (s.cell c).pow = .run ∧ (s.cell c).rd CFLT_STATUS_DEADBOLT = 0 ∧
    (s.cell c).fw.sess.st = 0 ∧ joinFrags 32 16 (SMap.put [] (if u.session = (s.cell c).fw.newTag then (s.cell c).fw.hdrFrags else []) u.frag u.data)
    = none :=
    ⟨readyCell id, c0, upFrame 9, by decide +kernel⟩
theorem witness_UpdateFramesTakeEffect_4 : ∃ (s : State) (n : Conc), (s.conc n).rd AFLT_STATUS_DEADBOLT = 0 ∧ (s.conc n).fw.up = true :=
    ⟨upConc 1, 0, by decide +kernel⟩
theorem witness_UpdateFramesTakeEffect_5 : ∃ (s : State) (n : Conc) (u : UpdFrame), (s.conc n).rd AFLT_STATUS_DEADBOLT = 0 ∧ (s.conc n).fw.up = true ∧
    u.dest = false ∧ u.session = (s.conc n).fw.tag ∧ (s.conc n).fw.sess.st = 2 :=
    ⟨upConc 2, 0, upFrame 7, by decide +kernel⟩
theorem witness_UpdateFramesTakeEffect_6 : ∃ (s : State) (c : CellId) (u : UpdFrame), (s.cell c).pow = .run ∧ (s.cell c).rd CFLT_STATUS_DEADBOLT = 0 ∧
    (s.cell c).fw.canActivate u = true ∧ (s.cell c).rd CUPD_STATUS_AUX_LOW = 0 ∧ (s.cell c).sw.st = .ready :=
    ⟨fwCell id, c0, upFrame 7, by decide +kernel⟩
theorem witness_UpdateFramesTakeEffect_7 : ∃ (s : State) (c : CellId) (u : UpdFrame), (s.cell c).pow = .run ∧ (s.cell c).rd CFLT_STATUS_DEADBOLT = 0 ∧
    (s.cell c).fw.canActivate u = true ∧ (s.cell c).rd CUPD_STATUS_AUX_LOW = 1 :=
    ⟨readyCell fun d => { d with fw := { up := true, tag := 7, sess := { st := 4 } } }.wr CUPD_STATUS_AUX_LOW 1, c0, upFrame 7, by decide +kernel⟩
theorem witness_UpdateFramesTakeEffect_8 : ∃ (s : State) (n : Conc) (u : UpdFrame), (s.conc n).rd AFLT_STATUS_DEADBOLT = 0 ∧ (s.conc n).fw.up = true ∧
    u.dest = false ∧ (s.conc n).fw.canActivate u = true :=
    ⟨upConc 4, 0, upFrame 7, by decide +kernel⟩
theorem witness_UpdateFramesTakeEffect_9 : ∃ (s : State) (c : CellId), (s.cell c).pow = .run ∧ (s.cell c).rd CFLT_STATUS_DEADBOLT = 0 ∧ (s.cell
    c).fw.ptr.newest.trial = true :=
    ⟨fwCell fun f => { f with ptr := trialPtr 5 }, c0, by decide +kernel⟩
theorem witness_UpdateFramesTakeEffect_10 : ∃ (s : State) (c : CellId) (u : UpdFrame), (s.cell c).pow = .run ∧ (s.cell c).rd CFLT_STATUS_DEADBOLT = 0
    ∧ u.session = (s.cell c).fw.tag ∧ (s.cell c).fw.sess.st ≠ 0 :=
    ⟨fwCell id, c0, upFrame 7, by decide +kernel⟩
theorem witness_UpdateFramesTakeEffect_11 : ∃ (s : State) (c : CellId) (u : UpdFrame) (v : Nat), (s.cell c).pow = .run ∧ (s.cell c).rd
    CFLT_STATUS_DEADBOLT = 0 ∧ u.words = [v] :=
    ⟨fwCell id, c0, upFrame 7, 9, by decide +kernel⟩
theorem witness_UpdateFramesTakeEffect_12 : ∃ (s : State) (n : Conc) (u : UpdFrame), (s.conc n).rd AFLT_STATUS_DEADBOLT = 0 ∧ (s.conc n).fw.up = true
    ∧ (s.conc n).relay = [(2, u)] ∧ (s.conc n).relayMask = 1 ∧ (s.conc n).laneUp (.port n 0) = true ∧ ((s.conc n).sender (.port n 0)).unacked = [] :=
    ⟨at1 fun d => { d with fw := { up := true }, relay := [(2, upFrame 7)], relayMask := 1 }.wr (XX_STATE_STATE.at 0x4000) 7, 0, upFrame 7, by
      decide +kernel⟩
theorem witness_UpdateFramesTakeEffect_13 : ∃ (l : LeafId) (u : UpdFrame) (i : Instr), i ∈ [.updateData (.leaf l) u, .updateHeader (.leaf l) u,
    .updateSelect (.leaf l) u, .updateVerify (.leaf l) u, .updateActivate (.leaf l) u, .updateConfirm (.leaf l) u, .updateAbort (.leaf l) u,
    .updateFloor (.leaf l) u] :=
    ⟨.leaf0, upFrame 7, .updateSelect (.leaf .leaf0) (upFrame 7), by decide +kernel⟩
theorem witness_WakesAndTrialsTakeEffect_1 : ∃ (s : State) (c : CellId), (s.cell c).pow ≠ .run ∧ (s.cell c).retValid = false ∧ (s.cell c).held = false
    ∧ (s.cell c).rd CBYP_STATUS_AUX = 0 :=
    ⟨at2 id, c0, by decide +kernel⟩
theorem witness_WakesAndTrialsTakeEffect_2 : ∃ (s : State) (c : CellId), (s.cell c).pow = .sleep ∧ (s.cell c).retValid = true ∧ (s.cell c).held =
    false ∧ (s.cell c).ret.errWait = false ∧ (s.cell c).rd CBYP_STATUS_AUX = 0 :=
    ⟨at2 fun d => { d with pow := .sleep, ret := { latch := true, bolt0 := true } }, c0, by decide +kernel⟩
theorem witness_WakesAndTrialsTakeEffect_3 : ∃ (s : State) (c : CellId), (s.cell c).pow = .run ∧ (s.cell c).sw.st = .updating ∧ (s.cell c).rd
    CTRP_STATUS_SEEN = 0 :=
    ⟨runCell fun d => { d with sw := { st := .updating } }, c0, by decide +kernel⟩
theorem witness_WakesAndTrialsTakeEffect_4 : ∃ (s : State) (l : LeafId) (secs : Nat), (s.leaf l).running = true ∧ (s.leaf l).upd.boot.newest.trial =
    true ∧ (s.leaf l).upd.boot.newest.age + secs < 86400 ∧ (s.leaf l).upd.kptr.newest.trial = false :=
    ⟨at0 fun d => { d with pwr := { step := 8 }, upd := { boot := trialPtr 5 } }, .leaf0, 600, by decide +kernel⟩
theorem witness_WakesAndTrialsTakeEffect_5 : ∃ (s : State) (c : CellId) (secs : Nat), (s.cell c).pow = .run ∧ (s.cell c).fw.up = true ∧ (s.cell
    c).fw.ptr.newest.trial = true ∧ (s.cell c).restarting = false ∧ (s.cell c).fw.ptr.newest.age + secs < 86400 :=
    ⟨fwCell fun f => { f with ptr := trialPtr 5 }, c0, 600, by decide +kernel⟩
theorem witness_WakesAndTrialsTakeEffect_6 : ∃ (s : State) (l : LeafId) (secs : Nat), (s.leaf l).trialOver secs = false :=
    ⟨at0 id, .leaf0, 600, by decide +kernel⟩
theorem witness_WakesAndTrialsTakeEffect_7 : ∃ (s : State) (l : LeafId) (secs : Nat), (s.leaf l).running = true ∧ (s.leaf l).upd.boot.newest.trial =
    true ∧ 86400 ≤ (s.leaf l).upd.boot.newest.age + secs ∧ (s.leaf l).upd.kptr.newest.trial = false ∧ (s.leaf l).moving = true ∧ (s.leaf l).upd.fwWait
    = false :=
    ⟨at0 fun d => { d with pwr := { step := 8 }, conv := { st := .charging }, upd := { boot := trialPtr 86000 } }, .leaf0, 600, by decide +kernel⟩
theorem witness_WakesAndTrialsTakeEffect_8 : ∃ (s : State) (l : LeafId) (secs : Nat), (s.leaf l).running = true ∧ (s.leaf l).upd.boot.newest.trial =
    true ∧ 86400 ≤ (s.leaf l).upd.boot.newest.age + secs ∧ (s.leaf l).upd.kptr.newest.trial = false ∧ (s.leaf l).moving = false :=
    ⟨at0 fun d => { d with pwr := { step := 8 }, upd := { boot := trialPtr 86000 } }, .leaf0, 600, by decide +kernel⟩
theorem witness_WakesAndTrialsTakeEffect_9 : ∃ (s : State) (n : Conc) (secs : Nat), (s.conc n).fw.up = true ∧ (s.conc n).fw.ptr.newest.trial = true ∧
    86400 ≤ (s.conc n).fw.ptr.newest.age + secs ∧ (s.conc n).moving = false :=
    ⟨at1 fun d => { d with fw := { up := true, ptr := trialPtr 86000 } }, 0, 600, by decide +kernel⟩
theorem witness_WakesAndTrialsTakeEffect_10 : ∃ (s : State) (c : CellId) (secs : Nat), (s.cell c).pow = .run ∧ (s.cell c).fw.up = true ∧ (s.cell
    c).fw.ptr.newest.trial = true ∧ (s.cell c).restarting = false ∧ 86400 ≤ (s.cell c).fw.ptr.newest.age + secs ∧ (s.cell c).conv = 4 :=
    ⟨readyCell fun d => { d with conv := 4, fw := { up := true, ptr := trialPtr 86000 } }, c0, 600, by decide +kernel⟩
theorem witness_SuppliesAndWarmResetTakeEffect_1 : ∃ (s : State) (l : LeafId) (r : Fin 7), 2 ≤ (s.leaf l).pwr.step ∧ r ≠ 5 ∧ bitOf ((s.leaf l).rd
    PWR_RAIL_ERR_OUT) r.val = false :=
    ⟨at0 fun d => { d with pwr := { step := 8 }, hng := { role := .active } }, .leaf0, 6, by decide +kernel⟩
theorem witness_SuppliesAndWarmResetTakeEffect_2 : ∃ (s : State) (l : LeafId) (r : Fin 7), 2 ≤ (s.leaf l).pwr.step ∧ r ≠ 5 ∧ bitOf ((s.leaf l).rd
    PWR_RAIL_ERR_OUT) r.val = true :=
    ⟨at0 fun d => { d with pwr := { step := 8 } }.wr PWR_RAIL_ERR_OUT 4, .leaf0, 2, by decide +kernel⟩
theorem witness_SuppliesAndWarmResetTakeEffect_3 : ∃ (s : State) (l : LeafId) (mv : Nat), mv < (s.leaf l).rd PWR_VHOLD_THRESH ∧ (s.leaf l).rd
    PWR_STATUS_AUX_LOW = 0 :=
    ⟨at0 fun d => { d with pwr := { step := 8 } }, .leaf0, 1199, by decide +kernel⟩
theorem witness_SuppliesAndWarmResetTakeEffect_4 : ∃ (s : State) (l : LeafId) (mv : Nat), (s.leaf l).rd PWR_VHOLD_THRESH + 50 < mv :=
    ⟨at0 fun d => { d with pwr := { step := 8 } }.wr PWR_STATUS_AUX_LOW 1, .leaf0, 1251, by decide +kernel⟩
theorem witness_SuppliesAndWarmResetTakeEffect_5 : ∃ (s : State) (l : LeafId), (s.leaf l).writable = true ∧ (s.leaf l).active = false :=
    ⟨at0 fun d => { d with pwr := { step := 8 }, tim := { c := 55, cyc := 9 } }, .leaf0, by decide +kernel⟩
theorem witness_SuppliesAndWarmResetTakeEffect_6 : ∃ (s : State) (l : LeafId), (s.leaf l).writable = true ∧ (s.leaf l).active = true ∧ (s.leaf l).is
    HNG_STATUS_PARTNER_STANDING = false ∧ (s.leaf l).moving = true :=
    ⟨at0 fun d => { d with pwr := { step := 8 }, conv := { st := .deblocked }, hng := { role := .active } }, .leaf0, by decide +kernel⟩
theorem witness_SuppliesAndWarmResetTakeEffect_7 : ∃ (v : Word), bits v.toNat 31 16 ≠ 0x5AFE :=
    ⟨1, by decide +kernel⟩
theorem witness_ResetsTakeEffect_4 : ∃ (s : State) (l : LeafId), (s.leaf l).pwr.held = true :=
    ⟨at0 fun d => { d with pwr := { held := true } }, .leaf0, by decide +kernel⟩
theorem witness_ResetsTakeEffect_6 : ∃ (n : Conc) (i : Instr), i ∈ [.corePowerOnReset (.conc n), .pinReset (.conc n)] :=
    ⟨0, .pinReset (.conc 0), by decide +kernel⟩
theorem witness_ResetsTakeEffect_7 : ∃ (s : State) (c : CellId), (s.cell c).pow = .run :=
    ⟨readyCell fun d => (d.wr CPWM_GATES_G 5).wr CPWM_GATES_SOFT_OFF 1, c0, by decide +kernel⟩
theorem witness_ResetsTakeEffect_8 : ∃ (s : State) (c : CellId), (s.cell c).held = true ∧ (s.cell c).retValid = true :=
    ⟨at2 fun d => { d with pow := .sleep, held := true, ret := { latch := true } }, c0, by decide +kernel⟩
theorem witness_StartUpTakesEffect_1 : ∃ (s : State) (l : LeafId), (s.leaf l).pwr.step = 1 ∧ (s.leaf l).pwr.held = false ∧ (s.leaf l).ident.fuseOk =
    true ∧ (s.leaf l).rd TIM_CLK_STATUS_STATE = 0 :=
    ⟨at0 id, .leaf0, by decide +kernel⟩
theorem witness_StartUpTakesEffect_2 : ∃ (s : State) (l : LeafId), (s.leaf l).pwr.step = 1 ∧ (s.leaf l).pwr.held = false ∧ (s.leaf l).ident.fuseOk =
    false ∧ (s.leaf l).rd TIM_CLK_STATUS_STATE = 0 :=
    ⟨at0 fun d => { d with ident := { fuseOk := false } }, .leaf0, by decide +kernel⟩
theorem witness_StartUpTakesEffect_3 : ∃ (s : State) (l : LeafId), (s.leaf l).pwr.step = 3 :=
    ⟨at0 fun d => { d with pwr := { step := 3 } }, .leaf0, by decide +kernel⟩
theorem witness_StartUpTakesEffect_4 : ∃ (s : State) (n : Conc), (s.conc n).fw.up = false :=
    ⟨at1 id, 0, by decide +kernel⟩
theorem witness_ConcentratorFramesTakeEffect_1 : ∃ (s : State) (n : Conc) (u : LeafId) (h : BitVec 128) (ws : List (BitVec 16)) (g : Nat), (s.conc
    n).laneUp (.uplinkConc n u) = true ∧ bits h.toNat 127 124 = 1 ∧ (s.conc n).pageOf (bits h.toNat 63 32) = some g ∧ bits h.toNat 63 32 ≠ 0 ∧
    ws.length = ((s.conc n).mappedPorts g).length ∧ bits h.toNat 31 16 = ws.length ∧ (s.conc n).isPast (bits h.toNat 111 96) = false ∧ (s.conc
    n).mayUse u (bits h.toNat 111 96) = true :=
    ⟨pathConc id, 0, .leaf0, setHdr 1 9 5 1, [8192], 0, by decide +kernel⟩
theorem witness_ConcentratorFramesTakeEffect_2 : ∃ (s : State) (n : Conc) (u : LeafId) (h : BitVec 128) (g : Nat), (s.conc n).laneUp (.uplinkConc n u)
    = true ∧ bits h.toNat 127 124 = 1 ∧ (s.conc n).pageOf (bits h.toNat 63 32) = some g ∧ bits h.toNat 63 32 ≠ 0 ∧ bits h.toNat 31 16 ≠ ((s.conc
    n).mappedPorts g).length :=
    ⟨pathConc id, 0, .leaf0, setHdr 1 9 5 2, 0, by decide +kernel⟩
theorem witness_ConcentratorFramesTakeEffect_3 : ∃ (s : State) (n : Conc) (u : LeafId) (h : BitVec 128), (s.conc n).laneUp (.uplinkConc n u) = true ∧
    bits h.toNat 127 124 = 2 ∧ bits h.toNat 63 32 = 0 ∧ (s.conc n).isPast (bits h.toNat 111 96) = false ∧ (s.conc n).mayUse u (bits h.toNat 111 96) =
    true :=
    ⟨pathConc id, 0, .leaf1, setHdr 2 9 0 0, by decide +kernel⟩
theorem witness_ConcentratorFramesTakeEffect_4 : ∃ (s : State) (n : Conc) (u : LeafId) (b : BitVec 64), (s.conc n).laneUp (.uplinkConc n u) = true ∧
    bits b.toNat 63 60 = 7 ∧ (s.conc n).mayUse u (bits b.toNat 59 44) = true :=
    ⟨pathConc id, 0, .leaf1, BitVec.ofNat 64 (7 * 2 ^ 60 + 9 * 2 ^ 44 + 77), by decide +kernel⟩
theorem witness_ConcentratorFramesTakeEffect_5 : ∃ (s : State) (n : Conc) (u : LeafId) (h : BitVec 128), (s.conc n).laneUp (.uplinkConc n u) = true ∧
    bits h.toNat 127 124 = 5 :=
    ⟨pathConc id, 0, .leaf1, setHdr 5 9 0 0, by decide +kernel⟩
theorem witness_ConcentratorFramesTakeEffect_6 : ∃ (s : State) (n : Conc) (u : LeafId) (h : BitVec 128), (s.conc n).laneUp (.uplinkConc n u) = true ∧
    bits h.toNat 127 124 = 6 ∧ (s.conc n).rd AGRT_STATUS_GRANT = u.num ∧ bitOf h.toNat 118 = true :=
    ⟨pathConc fun d => d.wr AGRT_STATUS_GRANT 1, 0, .leaf1, BitVec.ofNat 128 (6 * 2 ^ 124 + 2 ^ 118 + 9 * 2 ^ 96), by decide +kernel⟩
theorem witness_ConcentratorFramesTakeEffect_7 : ∃ (s : State) (n : Conc) (u : LeafId) (h : BitVec 128), (s.conc n).laneUp (.uplinkConc n u) = true ∧
    bits h.toNat 127 124 = 6 ∧ (s.conc n).rd AGRT_STATUS_GRANT = u.num ∧ bitOf h.toNat 118 = false ∧ (s.conc n).available n u.other.num = true ∧
    (s.conc n).rd AFLT_STATUS_DEADBOLT = 0 :=
    ⟨pathConc fun d => { d with sw := { seen0 := some (9, true) } }.wr AGRT_STATUS_GRANT 1, 0, .leaf1, setHdr 6 0 0 0, by decide +kernel⟩
theorem witness_ConcentratorFramesTakeEffect_8 : ∃ (s : State) (n : Conc) (u : LeafId) (h : BitVec 128), (s.conc n).laneUp (.uplinkConc n u) = true ∧
    bits h.toNat 127 124 = 6 ∧ (s.conc n).rd AGRT_STATUS_GRANT ≠ u.num :=
    ⟨pathConc fun d => d.wr AGRT_STATUS_GRANT 0, 0, .leaf1, setHdr 6 0 0 0, by decide +kernel⟩
theorem witness_ReplayInstantAndControlSlotTakeEffect_1 : ∃ (s : State) (n : Conc) (m : Nat) (x : HeldSet), m < 65536 ∧ (s.conc n).isPast m = false ∧
    (s.conc n).rd AGRT_STATUS_PEND_VALID = 0 ∧ (s.conc n).rd AGRT_STATUS_GRANT = x.leaf ∧ x.leaf ≤ 1 ∧ x.cycle = m ∧ x.use = true ∧ x.skip = false ∧
    (s.conc n).sw.held = [x] :=
    ⟨pathConc fun d => { d with sw := { held := [heldSet] } }.wr AGRT_STATUS_GRANT 0, 0, 9, heldSet, by decide +kernel⟩
theorem witness_ReplayInstantAndControlSlotTakeEffect_2 : ∃ (s : State) (n : Conc) (m : Nat), m < 65536 ∧ (s.conc n).isPast m = false ∧ (s.conc n).rd
    AGRT_STATUS_PEND_VALID = 0 ∧ (s.conc n).rd AGRT_STATUS_GRANT ≤ 1 ∧ (s.conc n).sw.held = [] :=
    ⟨pathConc fun d => d.wr AGRT_STATUS_GRANT 0, 0, 9, by decide +kernel⟩
theorem witness_ReplayInstantAndControlSlotTakeEffect_3 : ∃ (s : State) (n : Conc), 5 ≤ (s.conc n).rd AGRT_STATUS_REPLAYS ∧ (s.conc n).rd
    AGRT_STATUS_BLOCKING = 0 :=
    ⟨pathConc fun d => d.wr AGRT_STATUS_REPLAYS 5, 0, by decide +kernel⟩
theorem witness_ReplayInstantAndControlSlotTakeEffect_4 : ∃ (s : State) (n : Conc) (u : LeafId), (s.conc n).rd AGRT_STATUS_GRANT = u.num ∧ 3 ≤ (s.conc
    n).rd AGRT_STATUS_MISS ∧ (s.conc n).available n u.other.num = true ∧ (s.conc n).rd AFLT_STATUS_DEADBOLT = 0 :=
    ⟨pathConc fun d => ({ d with sw := { seen0 := some (9, true) } }.wr AGRT_STATUS_GRANT 1).wr AGRT_STATUS_MISS 3, 0, .leaf1, by decide +kernel⟩
theorem witness_ReplayInstantAndControlSlotTakeEffect_5 : ∃ (s : State) (n : Conc) (u : LeafId) (h : BitVec 128) (m : Nat) (i : Instr), (s.conc n).rd
    AFLT_STATUS_DEADBOLT = 1 ∧ i ∈ [.releaseFrame n u h, .silenceGrantMove n, .replayInstant n m] :=
    ⟨pathConc fun d => (d.wr AFLT_STATUS_DEADBOLT 1).wr AGRT_STATUS_GRANT 0, 0, .leaf0, setHdr 6 0 0 0, 9, .silenceGrantMove 0, by decide +kernel⟩
theorem witness_ReplayInstantAndControlSlotTakeEffect_6 : ∃ (s : State) (n : Conc), (s.conc n).sw.linked = false :=
    ⟨pathConc fun d => d, 0, by decide +kernel⟩
theorem witness_ReplayInstantAndControlSlotTakeEffect_7 : ∃ (s : State) (n : Conc) (m w o : Nat) (p : Port), m < 65536 ∧ (s.conc n).sw.linked = true ∧
    (s.conc n).sw.passed = some m ∧ (s.conc n).sw.sent = [] ∧ (s.conc n).blocksAll = false ∧ (s.conc n).slotWords = [(p.val, w, o)] ∧ (s.conc
    n).laneUp (.port n p) = true ∧ (s.conc n).fw.fallbackWait = false ∧ (s.conc n).sw.cur = none :=
    ⟨pathConc fun d => { d with sw := { linked := true, passed := some 9, words := [(3, 8192, 7)] } }, 0, 9, 8192, 7, 3, by decide +kernel⟩
theorem witness_ReplayInstantAndControlSlotTakeEffect_8 : ∃ (s : State) (n : Conc) (m : Nat), m < 65536 ∧ (s.conc n).sw.linked = true ∧ (s.conc
    n).sw.passed = some m ∧ (s.conc n).sw.sent = [] ∧ (s.conc n).fw.fallbackWait = false ∧ (((s.conc n).rd AFLT_STATUS_DEADBOLT = 1 ∨ (s.conc
    n).flt.openOf 2 = true ∨ 5 ≤ (s.conc n).rd AGRT_STATUS_REPLAYS ∧ (s.conc n).sw.cur = none)) :=
    ⟨pathConc fun d => { d with sw := { linked := true, passed := some 9, words := [(3, 8192, 7)] } }.wr AFLT_STATUS_DEADBOLT 1, 0, 9, by
      decide +kernel⟩
theorem witness_RecordsAndSumsTakeEffect_1 : ∃ (s : State) (n : Conc) (p q : Port) (f : BitVec 128), (s.conc n).laneUp (.port n p) = true ∧ (s.conc
    n).sw.summed = none ∧ p ≠ q ∧ q.val ∈ (s.conc n).mappedPorts (s.conc n).sw.page ∧ (s.conc n).laneUp (.port n q) = true ∧ ((∀ x ∈ (s.conc n).recsOf
    (bits f.toNat 127 112), x.2 ≠ q.val)) :=
    ⟨pathConc fun d => (d.wr (XX_STATE_STATE.at 0x4100) 7), 0, 4, 3, BitVec.ofNat 128 (9 * 2 ^ 112), by decide +kernel⟩
theorem witness_RecordsAndSumsTakeEffect_2 : ∃ (s : State) (n : Conc) (p : Port), (s.conc n).laneUp (.port n p) = true :=
    ⟨pathConc id, 0, 3, by decide +kernel⟩
theorem witness_RecordsAndSumsTakeEffect_3 : ∃ (s : State) (n : Conc) (p : Port) (f : BitVec 128), (s.conc n).laneUp (.port n p) = true ∧ (s.conc
    n).sw.summed = some (bits f.toNat 127 112) :=
    ⟨pathConc fun d => { d with sw := { summed := some 9 } }, 0, 3, BitVec.ofNat 128 (9 * 2 ^ 112), by decide +kernel⟩
theorem witness_RecordsAndSumsTakeEffect_4 : ∃ (s : State) (n : Conc), (s.conc n).sw.summed = none :=
    ⟨pathConc id, 0, by decide +kernel⟩
theorem witness_RecordsAndSumsTakeEffect_5 : ∃ (s : State) (n : Conc) (k : BitVec 16), (s.conc n).sw.summed = some k.toNat :=
    ⟨pathConc fun d => { d with sw := { summed := some 9 } }, 0, 9, by decide +kernel⟩
theorem witness_KnocksTakeEffect_1 : ∃ (s : State) (n : Conc) (p : Port), (s.conc n).laneUp (.port n p) = true ∧ s.lead.slotAt n.val p.val = none ∧
    s.lead.conv.st = .unkeyed ∧ SMap.get 0 s.lead.disc.unjoin (n.val * 256 + p.val) = 0 :=
    ⟨withConc id State.reset, 0, 1, by decide +kernel⟩
theorem witness_KnocksTakeEffect_2 : ∃ (s : State) (n : Conc) (p : Port) (slot : Nat) (im : Image), (s.conc n).laneUp (.port n p) = true ∧
    s.lead.key.active = some im ∧ s.lead.slotAt n.val p.val = some slot ∧ s.lead.joins n.val slot = true ∧ SMap.get 0 s.lead.disc.unjoin (n.val * 256
    + p.val) ≤ (SMap.get {} (s.conc n).knocks p.val).unjoined :=
    ⟨withConc id (keyedLeaf fun d => { d with disc := { d.disc with slots := [(3, { answered := true, ans := 55, variant := 1 })] } }.wr CT_SLOT_STATE
      1 3 ), 0, 1, 3, anImage, by decide +kernel⟩
theorem witness_KnocksTakeEffect_3 : ∃ (s : State) (n : Conc) (p : Port), (s.conc n).laneUp (.port n p) = true ∧ s.lead.idlePort n.val p.val = true ∧
    s.lead.conv.st = .unkeyed ∧ (SMap.get {} (s.conc n).knocks p.val).unjoined < SMap.get 0 s.lead.disc.unjoin (n.val * 256 + p.val) :=
    ⟨withConc id (actLeaf fun d => { d with disc := { d.disc with unjoin := [(1, 2)] } }), 0, 1, by decide +kernel⟩
theorem witness_KnocksTakeEffect_4 : ∃ (s : State) (c : CellId) (b : BitVec 219), (s.cell c).pow = .run ∧ (s.cell c).laneUp = true ∧ bits b.toNat 218
    216 = 0 :=
    ⟨runLane, c0, BitVec.ofNat 219 (9 * 2 ^ 82), by decide +kernel⟩
theorem witness_KnocksTakeEffect_5 : ∃ (s : State) (c : CellId) (b : BitVec 219), (s.cell c).pow = .run ∧ (s.cell c).laneUp = true ∧ bits b.toNat 218
    216 = 1 ∧ bits b.toNat 153 90 = (s.cell c).serialNo c ∧ (s.cell c).is CBYP_STATUS_BOLTED = false :=
    ⟨runLane, c0, BitVec.ofNat 219 (1 * 2 ^ 216 + 2 * 2 ^ 214 + 1234 * 2 ^ 154 + 55 * 2 ^ 90 + 9 * 2 ^ 82), by decide +kernel⟩
theorem witness_KnocksTakeEffect_6 : ∃ (s : State) (c : CellId) (b : BitVec 219), (s.cell c).pow = .run ∧ (s.cell c).laneUp = true ∧ bits b.toNat 218
    216 = 1 ∧ ((bits b.toNat 153 90 ≠ (s.cell c).serialNo c ∨ (s.cell c).is CBYP_STATUS_BOLTED = true)) :=
    ⟨runLane, c0, BitVec.ofNat 219 (1 * 2 ^ 216 + 2 * 2 ^ 214 + 56 * 2 ^ 90 + 9 * 2 ^ 82), by decide +kernel⟩
theorem witness_KnocksTakeEffect_7 : ∃ (s : State) (c : CellId) (b : BitVec 219), (s.cell c).pow = .run ∧ (s.cell c).laneUp = true ∧ bits b.toNat 218
    216 = 2 ∧ (s.cell c).is CBYP_STATUS_BOLTED = false :=
    ⟨runLane, c0, BitVec.ofNat 219 (2 * 2 ^ 216 + 9 * 2 ^ 82), by decide +kernel⟩
theorem witness_MembershipCommandsTakeEffect_1 : ∃ (s : State) (l : LeafId) (n : Conc) (p : Port) (b : BitVec 219) (slot : Nat), (s.leaf l).running =
    true ∧ (s.leaf l).active = true ∧ bits b.toNat 55 48 = (SMap.get {} (s.conc n).knocks p.val).seq ∧ SMap.get 0 (s.leaf l).disc.caps n.val ≠ 0 ∧
    (s.leaf l).declared.contains n.val = true ∧ (s.leaf l).slotAt n.val p.val = some slot ∧ p.val < (s.leaf l).portCount n.val ∧ bitOf b.toNat 105 =
    true ∧ (s.leaf l).slotState slot ≠ slBOLTED :=
    ⟨discLeaf id, .leaf0, 0, 1, answer 1 0 55, 3, by decide +kernel⟩
theorem witness_MembershipCommandsTakeEffect_2 : ∃ (s : State) (l : LeafId) (n : Conc) (p : Port) (b : BitVec 219) (slot : Nat), (s.leaf l).running =
    true ∧ (s.leaf l).active = true ∧ bits b.toNat 55 48 = (SMap.get {} (s.conc n).knocks p.val).seq ∧ SMap.get 0 (s.leaf l).disc.caps n.val ≠ 0 ∧
    (s.leaf l).declared.contains n.val = true ∧ (s.leaf l).slotAt n.val p.val = some slot ∧ p.val < (s.leaf l).portCount n.val ∧ bitOf b.toNat 105 =
    false ∧ bits b.toNat 112 109 ≠ 5 ∧ (s.leaf l).slotState slot = slEMPTY ∧ ((s.leaf l).slotInfo slot).answered = false ∧ (s.leaf l).quarReason slot
    (((s.leaf l).slotInfo slot).heard b.toNat) = 0 ∧ (s.leaf l).wiringOk n.val = true ∧ SMap.get 16 (s.leaf l).cyc.member slot = 16 :=
    ⟨discLeaf fun d => d.wr CT_TYPE 1 3, .leaf0, 0, 1, answer 0 1 55, 3, by decide +kernel⟩
theorem witness_MembershipCommandsTakeEffect_3 : ∃ (s : State) (l : LeafId) (n : Conc) (p : Port) (b : BitVec 219) (slot : Nat), (s.leaf l).running =
    true ∧ (s.leaf l).active = true ∧ bits b.toNat 55 48 = (SMap.get {} (s.conc n).knocks p.val).seq ∧ SMap.get 0 (s.leaf l).disc.caps n.val ≠ 0 ∧
    (s.leaf l).declared.contains n.val = true ∧ (s.leaf l).slotAt n.val p.val = some slot ∧ p.val < (s.leaf l).portCount n.val ∧ bitOf b.toNat 105 =
    false ∧ (s.leaf l).slotState slot = slJOINED ∧ fellBack ((s.leaf l).slotInfo slot) (((s.leaf l).slotInfo slot).heard b.toNat) = false ∧ (s.leaf
    l).admits (((s.leaf l).slotInfo slot).heard b.toNat) = true ∧ (s.leaf l).wiringOk n.val = true ∧ SMap.get 16 (s.leaf l).cyc.member slot = 16 :=
    ⟨discLeaf fun d => ((d.wr CT_SLOT_STATE 2 3).wr DISC_HARD_HARD 77).wr CT_TYPE 1 3, .leaf0, 0, 1, answer 0 1 55, 3, by decide +kernel⟩
theorem witness_MembershipCommandsTakeEffect_4 : ∃ (s : State) (l : LeafId) (n : Conc) (p : Port) (b : BitVec 219), (s.leaf l).running = true ∧
    (s.leaf l).key.active.isSome = true ∧ bits b.toNat 55 48 = (SMap.get {} (s.conc n).knocks p.val).seq ∧ SMap.get 0 (s.leaf l).disc.caps n.val ≠ 0 ∧
    (s.leaf l).declared.contains n.val = true ∧ (s.leaf l).slotAt n.val p.val = none ∧ SMap.get 0 (s.leaf l).disc.noted (n.val * 256 + p.val) ≠
    (SMap.get {} (s.conc n).lanes p.val).ups + 1 :=
    ⟨discLeaf id, .leaf0, 0, 7, answer 0 1 55, by decide +kernel⟩
theorem witness_MembershipCommandsTakeEffect_5 : ∃ (s : State) (n : Conc) (p : Port) (b : BitVec 219), bits b.toNat 55 48 ≠ (SMap.get {} (s.conc
    n).knocks p.val).seq :=
    ⟨discLeaf id, 0, 5, answer 0 1 55, by decide +kernel⟩
theorem witness_MembershipCommandsTakeEffect_6 : ∃ (s : State) (l : LeafId) (slot : Slot) (im : Image) (x : PortEnt), (s.leaf l).active = true ∧
    (s.leaf l).key.active = some im ∧ im.entryOf slot.val = some x ∧ (s.leaf l).slotState slot.val = slKNOCKED ∧ 3 ≤ (SMap.get {} (SMap.get {} s.concs
    x.conc).knocks x.port).joins ∧ ((s.leaf l).slotInfo slot.val).type ≠ (s.leaf l).rd CT_TYPE slot.val ∧ SMap.get 16 (s.leaf l).cyc.member slot.val =
    16 :=
    ⟨discLeaf fun d => (d.wr CT_SLOT_STATE 1 3).wr CT_TYPE 1 3, .leaf0, 3, anImage, ⟨0, 1, 1, 3⟩, by decide +kernel⟩
theorem witness_MembershipCommandsTakeEffect_7 : ∃ (s : State) (l : LeafId) (slot : Slot), (s.leaf l).active = true ∧ (((s.leaf l).slotState slot.val
    = slACTIVE ∨ (s.leaf l).slotState slot.val = slBYPASSED)) ∧ 16 ≤ SMap.get 0 (s.leaf l).cyc.silent slot.val ∧ SMap.get 16 (s.leaf l).cyc.member
    slot.val = 16 :=
    ⟨keyedLeaf fun d => { d with cyc := { d.cyc with silent := [(3, 16)] } }.wr CT_SLOT_STATE 3 3, .leaf0, 3, by decide +kernel⟩
theorem witness_MembershipCommandsTakeEffect_8 : ∃ (s : State) (l : LeafId) (n : Conc) (p : Port) (slot : Nat), (s.leaf l).active = true ∧ (s.leaf
    l).slotAt n.val p.val = some slot ∧ (s.conc n).laneUp (.port n p) = false ∧ (((s.leaf l).slotState slot = slKNOCKED ∨ (s.leaf l).slotState slot =
    slJOINED ∨ (s.leaf l).slotState slot = slQUARANTINED ∧ (s.leaf l).moving = false)) ∧ SMap.get 16 (s.leaf l).cyc.member slot = 16 :=
    ⟨keyedLeaf fun d => d.wr CT_SLOT_STATE 2 3, .leaf0, 0, 1, 3, by decide +kernel⟩
theorem witness_MembershipCommandsTakeEffect_9 : ∃ (s : State) (l : LeafId) (h : Handle) (c : Cmd), (s.leaf l).WaitsDue h 6 0x30 c ∧ (s.leaf
    l).slotMapped (c.par 0 14) = true ∧ (s.leaf l).conv.st ≠ .deblocked ∧ (((s.leaf l).slotState (c.par 0 14) = slBOLTED ∨ (s.leaf l).slotState (c.par
    0 14) = slQUARANTINED)) :=
    ⟨cmdLeaf 6 0x30 3 fun d => d.wr CT_SLOT_STATE 5 3, .leaf0, 5, aCmd 6 0x30 3, by unfold Leaf.WaitsDue Leaf.Waits; decide +kernel⟩
theorem witness_MembershipCommandsTakeEffect_10 : ∃ (s : State) (l : LeafId) (h : Handle) (c : Cmd), (s.leaf l).WaitsDue h 6 0x30 c ∧ (s.leaf
    l).slotMapped (c.par 0 14) = false :=
    ⟨cmdLeaf 6 0x30 99 id, .leaf0, 5, aCmd 6 0x30 99, by unfold Leaf.WaitsDue Leaf.Waits; decide +kernel⟩
theorem witness_MirrorFramesTakeEffect_1 : ∃ (s : State) (l : LeafId) (n : Conc), (s.leaf l).running = true ∧ (s.leaf l).uplinkUp n.val = true :=
    ⟨pairLeaf .standby fun d => d.wr (XX_STATE_STATE.at 0x220000) 7, .leaf0, 0, by decide +kernel⟩
theorem witness_MirrorFramesTakeEffect_2 : ∃ (s : State) (l : LeafId), (s.leaf l).running = true :=
    ⟨pairLeaf .standby id, .leaf0, by decide +kernel⟩
theorem witness_MirrorFramesTakeEffect_3 : ∃ (s : State) (l : LeafId) (k : Nat), (s.leaf l).running = true ∧ (s.leaf l).is HNG_STATUS_PARTNER_UP =
    true ∧ (s.leaf l).active = false ∧ (s.leaf l).conv.st ≠ .deadbolted ∧ (s.leaf l).conv.since ≤ k :=
    ⟨pairLeaf .standby id, .leaf0, 9, by decide +kernel⟩
theorem witness_MirrorFramesTakeEffect_4 : ∃ (s : State) (l : LeafId), (s.leaf l).running = true ∧ (s.leaf l).is HNG_STATUS_PARTNER_UP = true ∧
    (s.leaf l).hng.role ≠ .starting ∧ (s.leaf l).conv.st ≠ .deadbolted :=
    ⟨pairLeaf .standby id, .leaf0, by decide +kernel⟩
theorem witness_MirrorFramesTakeEffect_5 : ∃ (s : State) (l : LeafId), (s.leaf l).running = true ∧ (s.leaf l).is HNG_STATUS_PARTNER_UP = true ∧
    (s.leaf l).hng.role = .standby :=
    ⟨pairLeaf .standby id, .leaf0, by decide +kernel⟩
theorem witness_MirrorFramesTakeEffect_6 : ∃ (s : State) (l : LeafId), (s.leaf l).running = true ∧ (s.leaf l).is HNG_STATUS_PARTNER_UP = true ∧
    (s.leaf l).active = true :=
    ⟨pairLeaf .active id, .leaf0, by decide +kernel⟩
theorem witness_MirrorFramesTakeEffect_7 : ∃ (s : State) (l : LeafId), (s.leaf l).running = true ∧ (s.leaf l).is HNG_STATUS_PARTNER_UP = true ∧
    (s.leaf l).active = true :=
    ⟨pairLeaf .active id, .leaf0, by decide +kernel⟩
theorem witness_MirrorFramesTakeEffect_8 : ∃ (s : State) (l : LeafId), (s.leaf l).running = true ∧ (s.leaf l).is HNG_STATUS_PARTNER_UP = true ∧
    (s.leaf l).active = false :=
    ⟨pairLeaf .standby id, .leaf0, by decide +kernel⟩
theorem witness_MirrorFramesTakeEffect_9 : ∃ (s : State) (l : LeafId), (s.leaf l).running = true ∧ (s.leaf l).is HNG_STATUS_PARTNER_UP = true ∧
    (s.leaf l).hng.role = .standby :=
    ⟨{ pairLeaf .standby id with leaf1 := { State.reset.leaf1 with tim := { State.reset.leaf1.tim with c := 1000 } } }, .leaf0, by decide +kernel⟩
theorem witness_HingeCommandsTakeEffect_1 : ∃ (s : State) (l : LeafId), (s.leaf l).running = true ∧ (s.leaf l).is HNG_STATUS_PARTNER_UP = true ∧
    (s.leaf l).hng.role ≠ .starting ∧ (s.leaf l).hng.partner.ident = none ∧ (SMap.get {} (s.leaf l).lanes 48).unacked.length < 16 :=
    ⟨pairLeaf .active id, .leaf0, by decide +kernel⟩
theorem witness_HingeCommandsTakeEffect_2 : ∃ (s : State) (l : LeafId) (i : Identity), (s.leaf l).running = true ∧ (s.leaf l).is HNG_STATUS_PARTNER_UP
    = true ∧ (s.leaf l).hng.role = .starting ∧ (s.leaf l).hng.partner.conv ≠ 6 ∧ (s.leaf l).hng.partner.ident = some i ∧ (s.leaf l).pairOk i = true ∧
    i.role = 1 ∧ i.floor ≤ (s.leaf l).rd KEY_FLOOR_FLOOR ∧ (s.leaf l).mayStand (s.leaf l.other) = true :=
    ⟨pairLeaf .starting fun d =>
      { d with hng := { d.hng with partner := { ident := some partnerId, hash := some anImage.hash }, journalOk := true } }, .leaf0, partnerId, by
      decide +kernel⟩
theorem witness_HingeCommandsTakeEffect_3 : ∃ (s : State) (l : LeafId), (s.leaf l).hng.role = .starting ∧ (s.leaf l).pwr.step = 6 ∧ (s.leaf l).is
    HNG_STATUS_PARTNER_UP = false ∧ ((∀ n : Fin 48, (s.leaf l).uplinkUp n.val = true → (SMap.get {} (s.leaf l).hng.grantOwn n.val).grant ≠ 1 - (s.leaf
    l).ident.leaf)) :=
    ⟨at0 fun d => { d with pwr := { step := 6 } }, .leaf0, by decide +kernel⟩
theorem witness_HingeCommandsTakeEffect_4 : ∃ (s : State) (l : LeafId), (s.leaf l).standing = true ∧ (s.leaf l).hng.relSeen = true ∧ (s.leaf
    l).conv.st ≠ .deadbolted ∧ (s.leaf l).hng.exchange = none :=
    ⟨standLeaf id, .leaf0, by decide +kernel⟩
theorem witness_HingeCommandsTakeEffect_5 : ∃ (s : State) (l : LeafId), (s.leaf l).standing = true ∧ (s.leaf l).ownMajority = true ∧ (s.leaf
    l).conv.st ≠ .deadbolted ∧ (s.leaf l).hng.exchange = none :=
    ⟨standLeaf fun d => { d with hng := { d.hng with grantOwn := [(0, ⟨0, some 0⟩)] } }, .leaf0, by decide +kernel⟩
theorem witness_HingeCommandsTakeEffect_6 : ∃ (s : State) (l : LeafId), (s.leaf l).active = true ∧ (s.leaf l).hng.takeover = true :=
    ⟨cmdLeaf 5 1 0 fun d => { d with hng := { d.hng with takeover := true } }, .leaf0, by decide +kernel⟩
theorem witness_HingeCommandsTakeEffect_7 : ∃ (s : State) (l : LeafId), (s.leaf l).is HNG_STATUS_SPLIT = true ∧ 4 < (s.leaf l).rd HNG_SPLIT_NOW ∧
    (s.leaf l).majority = (s.leaf l).ident.leaf ∧ (s.leaf l).hng.splitRaised = false :=
    ⟨keyedLeaf fun d => (d.wr HNG_STATUS_SPLIT 1).wr HNG_SPLIT_NOW 5, .leaf0, by decide +kernel⟩
theorem witness_HingeCommandsTakeEffect_8 : ∃ (s : State) (l : LeafId) (h : Handle) (c : Cmd), (s.leaf l).Waits h 7 1 c ∧ c.par 0 1 = (s.leaf
    l).ident.leaf :=
    ⟨cmdLeaf 7 1 0 id, .leaf0, 5, aCmd 7 1 0, by unfold Leaf.Waits; decide +kernel⟩
theorem witness_HingeCommandsTakeEffect_9 : ∃ (s : State) (l : LeafId) (h : Handle) (c : Cmd), (s.leaf l).Waits h 7 1 c ∧ c.par 0 1 ≠ (s.leaf
    l).ident.leaf ∧ (s.leaf l).swapRefusedNow = false :=
    ⟨cmdLeaf 7 1 1 fun d => d.wr HNG_STATUS_PARTNER_STANDING 1, .leaf0, 5, aCmd 7 1 1, by unfold Leaf.Waits; decide +kernel⟩
theorem witness_HingeCommandsTakeEffect_10 : ∃ (s : State) (l : LeafId) (h : Handle) (c : Cmd), (s.leaf l).Waits h 7 1 c ∧ c.par 0 1 ≠ (s.leaf
    l).ident.leaf ∧ (s.leaf l).swapRefusedNow = true :=
    ⟨cmdLeaf 7 1 1 id, .leaf0, 5, aCmd 7 1 1, by unfold Leaf.Waits; decide +kernel⟩
theorem witness_HingeCommandsTakeEffect_11 : ∃ (s : State) (l : LeafId) (x : Exchange), (s.leaf l).hng.exchange = some x ∧ x.j ≤ (s.leaf l).tim.cyc +
    1 ∧ (s.leaf l).conv.st ≠ .deadbolted ∧ (s.leaf l).hng.role = .standby ∧ x.target = (s.leaf l).ident.leaf :=
    ⟨standLeaf fun d => { d with hng := { d.hng with exchange := some ⟨5, 0, 1⟩ } }, .leaf0, ⟨5, 0, 1⟩, by decide +kernel⟩
theorem witness_HingeCommandsTakeEffect_12 : ∃ (s : State) (l : LeafId) (x : Exchange), (s.leaf l).hng.exchange = some x ∧ x.j ≤ (s.leaf l).tim.cyc +
    1 ∧ (s.leaf l).conv.st ≠ .deadbolted ∧ (s.leaf l).active = true ∧ x.target ≠ (s.leaf l).ident.leaf ∧ (s.leaf l).pwr.warmWait = none :=
    ⟨keyedLeaf fun d => { d with hng := { d.hng with exchange := some ⟨5, 1, 1⟩ } }, .leaf0, ⟨5, 1, 1⟩, by decide +kernel⟩
theorem witness_HingeCommandsTakeEffect_13 : ∃ (s : State) (l : LeafId), (s.leaf l).hng.role = .standby :=
    ⟨standLeaf id, .leaf0, by decide +kernel⟩
theorem witness_HingeCommandsTakeEffect_14 : ∃ (s : State) (l : LeafId) (t : Nat), (s.leaf l).active = true ∧ (s.leaf l).is HNG_STATUS_PARTNER_UP =
    true ∧ (s.leaf l).hng.healthAt = some t ∧ t + 2400000000 ≤ (s.leaf l).tim.c ∧ (s.leaf l).hng.mirrorAt + 2400000000 ≤ (s.leaf l).tim.c ∧ (s.leaf
    l).hng.healthLate = false :=
    ⟨pairLeaf .active fun d => { d with tim := { d.tim with c := 3000000000 }, hng := { d.hng with healthAt := some 0 } }, .leaf0, 0, by
      decide +kernel⟩
theorem witness_FaultRecordsTakeEffect_1 : ∃ (s : State) (l : LeafId) (n : Conc) (r : FaultRec), (s.leaf l).running = true ∧ FltEnt.updateFirst
    ((s.leaf l).fillIn n.val r) (s.leaf l).flt.recs = none ∧ ((∀ x ∈ (s.leaf l).flt.recs, x.r.time ≠ r.time)) ∧ (s.leaf l).flt.recs.length < 1024 :=
    ⟨fltLeaf, .leaf0, 0, { aRec 1 5 .alarm with time := 10 }, by decide +kernel⟩
theorem witness_FaultRecordsTakeEffect_2 : ∃ (s : State) (l : LeafId) (n : Conc) (r : FaultRec) (rs : List FltEnt), (s.leaf l).running = true ∧
    FltEnt.updateFirst ((s.leaf l).fillIn n.val r) (s.leaf l).flt.recs = some rs :=
    ⟨fltLeaf, .leaf0, 0, { aRec 1 3 .alarm with count := 4 }, [⟨0, { aRec 1 3 .alarm with count := 4 }⟩, ⟨1, aRec 0 4 .trip⟩], by decide +kernel⟩
theorem witness_FaultRecordsTakeEffect_3 : ∃ (s : State) (n : Conc), (s.conc n).fw.up = true ∧ (s.conc n).laneUp (.uplinkConc n .leaf0) = true ∧
    (s.conc n).laneUp (.uplinkConc n .leaf1) = true ∧ ((s.conc n).sender (.uplinkConc n .leaf0)).unacked.length < 16 ∧ ((s.conc n).sender (.uplinkConc
    n .leaf1)).unacked.length < 16 :=
    ⟨fltConc id, 0, by decide +kernel⟩
theorem witness_FaultRecordsTakeEffect_4 : ∃ (s : State) (l : LeafId) (v : Word), (s.leaf l).writable = true ∧ bitOf v.toNat 10 = false :=
    ⟨fltLeaf, .leaf0, 1, by decide +kernel⟩
theorem witness_FaultRecordsTakeEffect_5 : ∃ (s : State) (l : LeafId) (v : Word), (s.leaf l).writable = true ∧ bitOf v.toNat 10 = true :=
    ⟨fltLeaf, .leaf0, 0x400, by decide +kernel⟩
theorem witness_FaultRecordsTakeEffect_6 : ∃ (s : State) (n : Conc) (v : Word), (s.conc n).writable = true ∧ bitOf v.toNat 4 = false :=
    ⟨fltConc id, 0, 1, by decide +kernel⟩
theorem witness_FaultRecordsTakeEffect_7 : ∃ (s : State) (n : Conc) (v : Word), (s.conc n).writable = true ∧ bitOf v.toNat 4 = true :=
    ⟨fltConc id, 0, 0x10, by decide +kernel⟩
theorem witness_FaultRecordsTakeEffect_8 : ∃ (s : State) (c : CellId) (v : Word), (s.cell c).pow = .run ∧ (s.cell c).is CFLT_STATUS_DEADBOLT = false ∧
    bitOf v.toNat 8 = false :=
    ⟨fltCell 1, c0, 3, by decide +kernel⟩
theorem witness_FaultRecordsTakeEffect_9 : ∃ (s : State) (c : CellId) (v : Word), (s.cell c).pow = .run ∧ (s.cell c).is CFLT_STATUS_DEADBOLT = false ∧
    bitOf v.toNat 8 = true :=
    ⟨fltCell 1, c0, 0x100, by decide +kernel⟩
theorem witness_FaultLinesAndInjectionTakeEffect_1 : ∃ (s : State) (l : LeafId), (s.leaf l).running = true ∧ (s.leaf l).is FLT_STATUS_MODE = true ∧
    bitOf ((s.leaf l).rd FLT_LINES_LEVEL) 4 = false :=
    ⟨fltLeaf, .leaf0, by decide +kernel⟩
theorem witness_FaultLinesAndInjectionTakeEffect_2 : ∃ (s : State) (l : LeafId) (k : Nat), (s.leaf l).running = true ∧ (s.leaf l).is FLT_STATUS_MODE =
    true ∧ ((k = 5 ∨ k = 6)) ∧ bitOf ((s.leaf l).rd FLT_LINES_LEVEL) k = false :=
    ⟨fltLeaf, .leaf0, 6, by decide +kernel⟩
theorem witness_FaultLinesAndInjectionTakeEffect_3 : ∃ (s : State) (n : Conc) (k : Nat), (s.conc n).fw.up = true ∧ (s.conc n).is AFLT_STATUS_MODE =
    true ∧ 1 ≤ k ∧ k ≤ 2 ∧ (s.conc n).rd AGRT_STATUS_GRANT + 1 = k :=
    ⟨fltConc fun d => d.wr AGRT_STATUS_GRANT 0, 0, 1, by decide +kernel⟩
theorem witness_FaultLinesAndInjectionTakeEffect_4 : ∃ (s : State) (l : LeafId) (k : Nat), (s.leaf l).running = true ∧ (s.leaf l).is FLT_STATUS_MODE =
    true ∧ k ≤ 6 :=
    ⟨fltLeaf, .leaf0, 2, by decide +kernel⟩
theorem witness_FaultLinesAndInjectionTakeEffect_5 : ∃ (s : State) (n : Conc) (k : Nat), (s.conc n).fw.up = true ∧ (s.conc n).is AFLT_STATUS_MODE =
    true ∧ k ≤ 2 :=
    ⟨fltConc id, 0, 0, by decide +kernel⟩
theorem witness_FaultLinesAndInjectionTakeEffect_6 : ∃ (s : State) (l : LeafId), (s.leaf l).writable = true ∧ (s.leaf l).ident.test = true ∧ diagCause
    ((s.leaf l).rd FLT_INJ_CODE_CODE) = none :=
    ⟨{ fltLeaf with leaf0 := { fltLeaf.leaf0 with ident := { fltLeaf.leaf0.ident with testStrap := true } }.wr FLT_INJ_CODE_CLASS 3 }, .leaf0, by
      decide +kernel⟩
theorem witness_FaultLinesAndInjectionTakeEffect_7 : ∃ (s : State) (n : Conc), (s.conc n).writable = true ∧ (s.conc n).ident.test = true :=
    ⟨fltConc fun d => { d with ident := { d.ident with testStrap := true, testFuse := true } }, 0, by decide +kernel⟩
theorem witness_FaultLinesAndInjectionTakeEffect_8 : ∃ (s : State) (c : CellId), (s.cell c).pow = .run ∧ (s.cell c).is CFLT_STATUS_DEADBOLT = false ∧
    (s.cell c).ident.test = true ∧ (s.cell c).rd CFLT_INJ_CODE_CLASS = 1 :=
    ⟨fltCell 1, c0, by decide +kernel⟩
theorem witness_FaultLinesAndInjectionTakeEffect_9 : ∃ (s : State) (c : CellId), (s.cell c).pow = .run ∧ (s.cell c).is CFLT_STATUS_DEADBOLT = false ∧
    (s.cell c).ident.test = true ∧ (s.cell c).rd CFLT_INJ_CODE_CLASS = 2 ∧ (s.cell c).sw.st = .ready ∧ ((s.cell c).trip.window.filter fun t => (s.cell
    c).trip.ms < t + 1000).length < 2 :=
    ⟨fltCell 2, c0, by decide +kernel⟩
theorem witness_DecimatorCommandsTakeEffect_1 : ∃ (s : State) (n : Conc) (k : Fin 8) (cyc : BitVec 16), (s.conc n).ident.variant = 1 ∧ (s.conc n).is
    ADSD_CTLd_EN k.val = true ∧ (SMap.get {} (s.conc n).dec k.val).cycle = cyc.toNat ∧ (SMap.get {} (s.conc n).dec k.val).samples ≠ [] ∧ (SMap.get {}
    (s.conc n).dec k.val).samples.length < 59 :=
    ⟨decConc 7, 0, 2, 7, by decide +kernel⟩
theorem witness_DecimatorCommandsTakeEffect_2 : ∃ (s : State) (n : Conc) (k : Fin 8) (cyc : BitVec 16), (s.conc n).ident.variant = 1 ∧ (s.conc n).is
    ADSD_CTLd_EN k.val = true ∧ (SMap.get {} (s.conc n).dec k.val).cycle = cyc.toNat ∧ (SMap.get {} (s.conc n).dec k.val).samples.length < 59 :=
    ⟨decConc 7, 0, 2, 7, by decide +kernel⟩
theorem witness_DecimatorCommandsTakeEffect_3 : ∃ (s : State) (n : Conc) (k : Fin 8) (cyc : BitVec 16) (x : Dec), (s.conc n).ident.variant = 1 ∧
    (s.conc n).is ADSD_CTLd_EN k.val = true ∧ SMap.get {} (s.conc n).dec k.val = x ∧ x.cycle ≠ cyc.toNat ∧ x.samples ≠ [] ∧ (s.conc n).laneUp
    (.uplinkConc n .leaf0) = true ∧ (s.conc n).laneUp (.uplinkConc n .leaf1) = true ∧ ((s.conc n).sender (.uplinkConc n .leaf0)).unacked.length < 16 ∧
    ((s.conc n).sender (.uplinkConc n .leaf1)).unacked.length < 16 :=
    ⟨decConc 6, 0, 2, 7, { cycle := 6, tick := 3, samples := [4, 5] }, by decide +kernel⟩
theorem witness_DecimatorCommandsTakeEffect_4 : ∃ (s : State) (l : LeafId) (w1 : Word), (s.leaf l).recWatching = false ∧ bits w1.toNat 25 16 = 2 :=
    ⟨recLeaf 0 id, .leaf0, 0x54020003, by decide +kernel⟩
theorem witness_DecimatorCommandsTakeEffect_5 : ∃ (s : State) (l : LeafId) (n : Conc) (w1 : Word) (f : Nat), (s.leaf l).recWatching = true ∧ reached
    (s.leaf l).rcd.lastRow ((s.leaf l).cycleNear (w1.toNat % 65536)) = false ∧ bits w1.toNat 25 16 = 1 ∧ f < 32 ∧ (s.leaf l).rd REC_FCHf_CONC f =
    n.val ∧ (s.leaf l).rd REC_FCHf_DECIM f = bits w1.toNat 31 29 ∧ bitOf ((s.leaf l).rd REC_FMASK_MASK) f = true ∧ ((∀ u : Nat, u < 8 → (s.leaf l).is
    REC_TRGu_CTL_EN u = false)) :=
    ⟨recLeaf 1 fun d => (d.wr REC_FCHf_DECIM 2 4).wr REC_FMASK_MASK 16, .leaf0, 0, 0x54010003, 4, by decide +kernel⟩
theorem witness_CaptureAndRecCommandsTakeEffect_1 : ∃ (s : State) (l : LeafId), (s.leaf l).recWatching = true ∧ (s.leaf l).recSt = recPRE ∧ (s.leaf
    l).rd REC_CFG_AUTO_MS ≠ 0 ∧ (s.leaf l).rcd.preAt + (s.leaf l).rd REC_CFG_AUTO_MS * 800000 ≤ (s.leaf l).tim.c :=
    ⟨recLeaf 1 fun d => { d with tim := { d.tim with c := 5000000 } }.wr REC_CFG_AUTO_MS 4, .leaf0, by decide +kernel⟩
theorem witness_CaptureAndRecCommandsTakeEffect_2 : ∃ (s : State) (l : LeafId) (t : Trig), (s.leaf l).recWatching = true ∧ (s.leaf l).recSt = recPOST
    ∧ (s.leaf l).rcd.postN ≤ (s.leaf l).rcd.post ∧ (s.leaf l).rcd.trig = some t ∧ (s.leaf l).is REC_STATUS_MODE = false :=
    ⟨recLeaf 2 fun d => { d with rcd := { d.rcd with trig := some aTrig, post := 1 } }, .leaf0, aTrig, by decide +kernel⟩
theorem witness_CaptureAndRecCommandsTakeEffect_3 : ∃ (s : State) (l : LeafId) (t : Trig), (s.leaf l).recWatching = true ∧ (s.leaf l).recSt = recPOST
    ∧ (s.leaf l).rcd.postN ≤ (s.leaf l).rcd.post ∧ (s.leaf l).rcd.trig = some t ∧ (s.leaf l).is REC_STATUS_MODE = true ∧ ((s.leaf l).segOf ((s.leaf
    l).rd REC_SEGSTAT_NEXT)).1 = 0 :=
    ⟨recLeaf 2 fun d => { d with rcd := { d.rcd with trig := some aTrig, post := 1 } }.wr REC_STATUS_MODE 1, .leaf0, aTrig, by decide +kernel⟩
theorem witness_CaptureAndRecCommandsTakeEffect_4 : ∃ (s : State) (l : LeafId) (t : Trig), (s.leaf l).recWatching = true ∧ (s.leaf l).recSt = recPOST
    ∧ (s.leaf l).rcd.postN ≤ (s.leaf l).rcd.post ∧ (s.leaf l).rcd.trig = some t ∧ (s.leaf l).is REC_STATUS_MODE = true ∧ ((s.leaf l).segOf ((s.leaf
    l).rd REC_SEGSTAT_NEXT)).1 ≠ 0 :=
    ⟨recLeaf 2 fun d => { d with rcd := { d.rcd with trig := some aTrig, post := 1, segs := [(0, 2, 1)] } }.wr REC_STATUS_MODE 1, .leaf0, aTrig, by
      decide +kernel⟩
theorem witness_CaptureAndRecCommandsTakeEffect_5 : ∃ (s : State) (l : LeafId), (s.leaf l).recWatching = true ∧ (s.leaf l).recSt = recREARM :=
    ⟨recLeaf 3 id, .leaf0, by decide +kernel⟩
theorem witness_CaptureAndRecCommandsTakeEffect_6 : ∃ (s : State) (l : LeafId) (c : RecClose) (r : List RecClose), (s.leaf l).rcd.closing = c :: r :=
    ⟨recLeaf 0 fun d => { d with rcd := { d.rcd with closing := [aClose] } }, .leaf0, aClose, [], by decide +kernel⟩
theorem witness_CaptureAndRecCommandsTakeEffect_7 : ∃ (s : State) (l : LeafId) (h : Handle) (c : Cmd), (s.leaf l).WaitsDue h 5 1 c ∧ c.par 0 32 ≤ 1 ∧
    (s.leaf l).recSt = recSTOPPED ∧ ((s.leaf l).segOf ((s.leaf l).rd REC_SEGSTAT_NEXT)).1 = 0 ∧ (s.leaf l).armInvalid = false :=
    ⟨recCmd 1 1 0 id, .leaf0, 5, aCmd 5 1 1, by unfold Leaf.WaitsDue Leaf.Waits; decide +kernel⟩
theorem witness_CaptureAndRecCommandsTakeEffect_8 : ∃ (s : State) (l : LeafId) (h : Handle) (c : Cmd), (s.leaf l).WaitsDue h 5 1 c ∧ c.par 0 32 ≤ 1 ∧
    (s.leaf l).recSt ≠ recSTOPPED :=
    ⟨recCmd 1 1 1 id, .leaf0, 5, aCmd 5 1 1, by unfold Leaf.WaitsDue Leaf.Waits; decide +kernel⟩
theorem witness_CaptureAndRecCommandsTakeEffect_9 : ∃ (s : State) (l : LeafId) (h : Handle) (c : Cmd), (s.leaf l).WaitsDue h 5 2 c ∧ (s.leaf l).recSt
    = recPRE :=
    ⟨recCmd 2 0 1 fun d => { d with rcd := { d.rcd with segs := [(0, 1, 4)] } }, .leaf0, 5, aCmd 5 2 0, by
      unfold Leaf.WaitsDue Leaf.Waits; decide +kernel⟩
theorem witness_CaptureAndRecCommandsTakeEffect_10 : ∃ (s : State) (l : LeafId) (h : Handle) (c : Cmd), (s.leaf l).WaitsDue h 5 2 c :=
    ⟨recCmd 2 0 2 fun d => { d with rcd := { d.rcd with trig := some aTrig } }, .leaf0, 5, aCmd 5 2 0, by
      unfold Leaf.WaitsDue Leaf.Waits; decide +kernel⟩
theorem witness_CaptureAndRecCommandsTakeEffect_11 : ∃ (s : State) (l : LeafId) (h : Handle) (c : Cmd), (s.leaf l).WaitsDue h 5 3 c ∧ (s.leaf l).recSt
    = recPRE :=
    ⟨recCmd 3 0 1 id, .leaf0, 5, aCmd 5 3 0, by unfold Leaf.WaitsDue Leaf.Waits; decide +kernel⟩
theorem witness_CaptureAndRecCommandsTakeEffect_12 : ∃ (s : State) (l : LeafId) (h : Handle) (c : Cmd), (s.leaf l).WaitsDue h 5 3 c ∧ (s.leaf l).recSt
    ≠ recPRE :=
    ⟨recCmd 3 0 0 id, .leaf0, 5, aCmd 5 3 0, by unfold Leaf.WaitsDue Leaf.Waits; decide +kernel⟩
theorem witness_CaptureAndRecCommandsTakeEffect_13 : ∃ (s : State) (l : LeafId) (h : Handle) (c : Cmd), (s.leaf l).Waits h 5 4 c ∧ (s.leaf l).segOf
    (c.par 0 12) = (2, c.par 12 16) ∧ c.par 60 32 % 4 = 0 ∧ c.par 28 32 % 4 = 0 ∧ c.par 28 32 + c.par 60 32 ≤ (s.leaf l).segSize * 4096 :=
    ⟨recCmd 4 (3 + 8 * 2 ^ 12 + 64 * 2 ^ 28 + 8 * 2 ^ 60 + 77 * 2 ^ 92) 0 fun d => { d with rcd := { d.rcd with segs := [(3, 2, 8)] } }, .leaf0, 5,
      aCmd 5 4 (3 + 8 * 2 ^ 12 + 64 * 2 ^ 28 + 8 * 2 ^ 60 + 77 * 2 ^ 92), by unfold Leaf.Waits; decide +kernel⟩
theorem witness_CaptureAndRecCommandsTakeEffect_14 : ∃ (s : State) (l : LeafId) (h : Handle) (c : Cmd), (s.leaf l).WaitsDue h 5 5 c ∧ (s.leaf l).segOf
    (c.par 0 12) = (2, c.par 12 16) :=
    ⟨recCmd 5 (3 + 8 * 2 ^ 12) 0 fun d => { d with rcd := { d.rcd with segs := [(3, 2, 8)] } }, .leaf0, 5, aCmd 5 5 (3 + 8 * 2 ^ 12), by
      unfold Leaf.WaitsDue Leaf.Waits; decide +kernel⟩
theorem witness_CaptureAndRecCommandsTakeEffect_15 : ∃ (s : State) (l : LeafId) (h : Handle) (c : Cmd), (s.leaf l).WaitsDue h 5 5 c ∧ ((s.leaf
    l).segOf (c.par 0 12)).1 ≠ 0 ∧ (s.leaf l).segOf (c.par 0 12) ≠ (2, c.par 12 16) :=
    ⟨recCmd 5 (3 + 9 * 2 ^ 12) 0 fun d => { d with rcd := { d.rcd with segs := [(3, 2, 8)] } }, .leaf0, 5, aCmd 5 5 (3 + 9 * 2 ^ 12), by
      unfold Leaf.WaitsDue Leaf.Waits; decide +kernel⟩
theorem witness_CaptureAndRecCommandsTakeEffect_16 : ∃ (s : State) (l : LeafId) (h : Handle) (c : Cmd), (s.leaf l).WaitsDue h 5 1 c ∧ (1 < c.par 0 32
    ∨ ((s.leaf l).recSt = recSTOPPED ∧ ((s.leaf l).segOf ((s.leaf l).rd REC_SEGSTAT_NEXT)).1 = 0 ∧ (s.leaf l).armInvalid = true)) :=
    ⟨recCmd 1 0 0 fun d => d.wr REC_FMASK_MASK 1, .leaf0, 5, aCmd 5 1 0, by unfold Leaf.WaitsDue Leaf.Waits; decide +kernel⟩
theorem witness_SafetyInputsAndOutputsTakeEffect_1 : ∃ (s : State) (l : LeafId) (a : BitVec 32) (g i : Nat), (s.leaf l).safOn = true ∧ (s.leaf
    l).safRunning = true ∧ g < 16 ∧ i < 32 ∧ (s.leaf l).is SAF_GRPg_CFG_EN g = true ∧ (s.leaf l).grpState g = 2 ∧ bitOf ((s.leaf l).rd
    SAF_GRPg_INMASK_PAIRS g) i = true ∧ (s.leaf l).rd SAF_INn_CFG_TYPE i ≠ 3 ∧ bitOf a.toNat i = false :=
    ⟨safLeaf 1 fun d => ((d.wr SAF_GRP_STATE_STATE 32).wr SAF_INn_CFG_TYPE 1 3).wr SAF_IN_RUN_MAP 8, .leaf0, 0, 2, 3, by decide +kernel⟩
theorem witness_SafetyInputsAndOutputsTakeEffect_2 : ∃ (s : State) (l : LeafId), (s.leaf l).safOn = true ∧ (s.leaf l).safRunning = false :=
    ⟨safLeaf 0 fun d => d.wr SAF_OUT_ON 3, .leaf0, by decide +kernel⟩
theorem witness_SafetyInputsAndOutputsTakeEffect_3 : ∃ (s : State) (l : LeafId) (ns : Nat), (s.leaf l).safOn = true ∧ ((ns < 8500 ∨ 11500 < ns)) :=
    ⟨safLeaf 1 fun d => d.wr SAF_OUT_ON 3, .leaf0, 8499, by decide +kernel⟩
theorem witness_SafetyInputsAndOutputsTakeEffect_4 : ∃ (ns : Nat), 8500 ≤ ns ∧ ns ≤ 11500 :=
    ⟨8500, by decide +kernel⟩
theorem witness_SafetyInputsAndOutputsTakeEffect_5 : ∃ (s : State) (l : LeafId), (s.leaf l).safOn = true :=
    ⟨safLeaf 1 id, .leaf0, by decide +kernel⟩
theorem witness_SafetyInputsAndOutputsTakeEffect_6 : ∃ (s : State) (l : LeafId) (i : Fin 32), (s.leaf l).safOn = true ∧ (s.leaf l).rd SAF_INn_CFG_TYPE
    i.val = 3 ∧ 100 ≤ ((s.leaf l).safPair i.val).demA :=
    ⟨safLeaf 1 fun d => { d with saf := { d.saf with pairs := [(3, { demA := 100 })] } }.wr SAF_INn_CFG_TYPE 3 3, .leaf0, 3, by decide +kernel⟩
theorem witness_SafetyInputsAndOutputsTakeEffect_7 : ∃ (s : State) (l : LeafId) (i : Fin 32), (s.leaf l).safOn = true ∧ bitOf ((s.leaf l).rd
    SAF_IN_DISC_MAP) i.val = false ∧ 100 * (s.leaf l).rd SAF_INn_CFG_TD i.val ≤ ((s.leaf l).safPair i.val).disagree :=
    ⟨safLeaf 1 fun d => { d with saf := { d.saf with pairs := [(3, { disagree := 500000 })] } }, .leaf0, 3, by decide +kernel⟩
theorem witness_SafetyInputsAndOutputsTakeEffect_8 : ∃ (s : State) (l : LeafId) (g : Fin 16) (n : Nat), (s.leaf l).safOn = true ∧ (s.leaf
    l).safRunning = true ∧ (s.leaf l).twoHand g.val = true ∧ (s.leaf l).grpState g.val = 1 ∧ SMap.get none (s.leaf l).saf.twoHand g.val = some n ∧
    50000 ≤ n :=
    ⟨safLeaf 1 fun d => ({ d with saf := { d.saf with twoHand := [(2, some 50000)] } }.wr SAF_GRPg_CFG_KIND 2 2).wr SAF_GRP_STATE_STATE 16, .leaf0, 2,
      50000, by decide +kernel⟩
theorem witness_SafetyInputsAndOutputsTakeEffect_9 : ∃ (s : State) (l : LeafId) (i : Fin 32), (s.leaf l).safOn = true ∧ 200001 ≤ ((s.leaf l).safPair
    i.val).press ∧ ((s.leaf l).safPair i.val).heldRaised = false :=
    ⟨safLeaf 1 fun d => { d with saf := { d.saf with pairs := [(3, { press := 200001 })] } }, .leaf0, 3, by decide +kernel⟩
theorem witness_SafetyInputsAndOutputsTakeEffect_10 : ∃ (s : State) (l : LeafId) (n : Fin 8), (s.leaf l).safOn = true ∧ (s.leaf l).rd
    SAF_OUTn_CFG_MODE n.val = 2 ∧ (s.leaf l).pairRun ((s.leaf l).rd SAF_OUTn_CFG_PERMIT n.val) = true ∧ (s.leaf l).rd SAF_OUTn_CFG_RELEASE_S n.val *
    100000 ≤ (s.leaf l).saf.idle ∧ (((s.leaf l).conv.st = .unkeyed ∨ (s.leaf l).conv.st = .keyedIdle)) :=
    ⟨safLeaf 1 fun d => ((((({ d with saf := { d.saf with idle := 100000 } }.wr SAF_OUTn_CFG_MODE 2 1).wr SAF_OUTn_CFG_PERMIT 3 1).wr
      SAF_OUTn_CFG_RELEASE_S 1 1).wr SAF_INn_CFG_TYPE 1 3).wr SAF_IN_A_LEVEL 8).wr SAF_IN_B_LEVEL 8, .leaf0, 1, by decide +kernel⟩
theorem witness_SafetyInputsAndOutputsTakeEffect_11 : ∃ (s : State) (l : LeafId) (n : Fin 8), (s.leaf l).safOn = true ∧ bitOf ((s.leaf l).rd
    SAF_OUT_ON) n.val = true ∧ (s.leaf l).is SAF_OUTn_CFG_TEST_EN n.val = true :=
    ⟨safLeaf 1 fun d => d.wr SAF_OUT_ON 2, .leaf0, 1, by decide +kernel⟩
theorem witness_SafetyInputsAndOutputsTakeEffect_12 : ∃ (s : State) (l : LeafId) (n : Fin 8), (s.leaf l).safOn = true ∧ bitOf ((s.leaf l).rd
    SAF_OUT_ON) n.val = true :=
    ⟨safLeaf 1 fun d => d.wr SAF_OUT_ON 2, .leaf0, 1, by decide +kernel⟩
theorem witness_SafetyInputsAndOutputsTakeEffect_13 : ∃ (s : State) (l : LeafId) (v : Word), (s.leaf l).writable = true ∧ (s.leaf l).safOn = true ∧
    v.toNat % 2 = 1 ∧ (s.leaf l).is SAF_STATUS_LOCKED = false :=
    ⟨actLeaf id, .leaf0, 1, by decide +kernel⟩
theorem witness_HaspAndTripOrdersTakeEffect_1 : ∃ (s : State) (l : LeafId) (c : Fin 16), (s.leaf l).haspOpen c.val 1 = true :=
    ⟨haspLeaf 1 fun d => d.wr SAF_HASPc_CFG_DIR 1 3, .leaf0, 3, by decide +kernel⟩
theorem witness_HaspAndTripOrdersTakeEffect_2 : ∃ (s : State) (l : LeafId) (c : Fin 16) (f : List Byte), (s.leaf l).netTakes f 0x88B5 = true ∧ (s.leaf
    l).haspOpen c.val 0 = true ∧ (s.leaf l).haspMac c.val = beNum f 6 6 ∧ crc32c ((f.drop 14).take 24) = beNum f 38 4 ∧ beNum f 14 4 = (s.leaf l).rd
    SAF_HASPc_IDENT_IDENT c.val ∧ beNum f 22 1 = 1 ∧ ((s.leaf l).hasp c.val).resync = false ∧ (beNum f 18 4 + 2 ^ 32 - ((s.leaf l).hasp c.val).last) %
    2 ^ 32 = 1 :=
    ⟨haspLeaf 1 id, .leaf0, 3, netFrame 0xB5 4 true, by decide +kernel⟩
theorem witness_HaspAndTripOrdersTakeEffect_3 : ∃ (s : State) (l : LeafId) (c : Fin 16) (f : List Byte), (s.leaf l).netTakes f 0x88B5 = true ∧ (s.leaf
    l).haspOpen c.val 0 = true ∧ (s.leaf l).haspMac c.val = beNum f 6 6 ∧ crc32c ((f.drop 14).take 24) ≠ beNum f 38 4 :=
    ⟨haspLeaf 1 id, .leaf0, 3, netFrame 0xB5 4 false, by decide +kernel⟩
theorem witness_HaspAndTripOrdersTakeEffect_4 : ∃ (s : State) (l : LeafId) (c : Fin 16) (t : Nat), ((s.leaf l).hasp c.val).timing = some t ∧ (s.leaf
    l).haspOpen c.val 0 = true ∧ t + (s.leaf l).rd SAF_HASPc_CFG_TIME c.val * 760000 ≤ (s.leaf l).tim.c :=
    ⟨haspLeaf 1 fun d => (d.wr SAF_GRPg_XMASK_HASP 8 2).wr SAF_GRP_STATE_STATE 32, .leaf0, 3, 0, by decide +kernel⟩
theorem witness_HaspAndTripOrdersTakeEffect_5 : ∃ (s : State) (l : LeafId), (s.leaf l).safOn = true :=
    ⟨safLeaf 1 fun d => { d with saf := { d.saf with tx := [⟨1, 2, 3, 1⟩, ⟨2, 2, 3, 2⟩] } }, .leaf0, by decide +kernel⟩
theorem witness_HaspAndTripOrdersTakeEffect_6 : ∃ (s : State) (l : LeafId) (r : Fin 8) (f : List Byte), (s.leaf l).netTakes f 0x88B6 = true ∧ (s.leaf
    l).is SAF_STATUS_LOCKED = true ∧ (s.leaf l).is SAF_ORDr_CFG_EN r.val = true ∧ (s.leaf l).is SAF_ORDr_CFG_TWO_OF_TWO r.val = false ∧ beNum f 14 4 =
    (s.leaf l).rd SAF_ORDr_IDENT_IDENT r.val ∧ crc32c ((f.drop 14).take 24) = beNum f 38 4 ∧ beNum f 22 1 = 1 ∧ ((s.leaf l).ordRx r.val) = {} :=
    ⟨ordLeaf 0 fun d => (d.wr SAF_GRPg_XMASK_ORDERS 8 2).wr SAF_GRP_STATE_STATE 32, .leaf0, 3, netFrame 0xB6 4 true, by decide +kernel⟩
theorem witness_HaspAndTripOrdersTakeEffect_7 : ∃ (s : State) (l : LeafId) (r : Fin 8) (c : OrdCopy), (s.leaf l).safOn = true ∧ ((s.leaf l).ordRx
    r.val).first = some c ∧ c.matched = false ∧ c.at_ + 1520000 ≤ (s.leaf l).tim.c ∧ (s.leaf l).is SAF_ORDr_CFG_TWO_OF_TWO r.val = true :=
    ⟨ordLeaf 1 fun d => { d with saf := { d.saf with rx := [(3, { first := some ⟨0, [], 5, 0, false⟩ })] }, tim := { d.tim with c := 1600000 } },
      .leaf0, 3, ⟨0, [], 5, 0, false⟩, by decide +kernel⟩
theorem witness_HaspAndTripOrdersTakeEffect_8 : ∃ (s : State) (l : LeafId) (r : Fin 8) (c : OrdCopy), (s.leaf l).safOn = true ∧ ((s.leaf l).ordRx
    r.val).first = some c ∧ c.matched = false ∧ c.at_ + 1520000 ≤ (s.leaf l).tim.c ∧ (s.leaf l).is SAF_ORDr_CFG_TWO_OF_TWO r.val = false :=
    ⟨ordLeaf 0 fun d => { d with saf := { d.saf with rx := [(3, { first := some ⟨0, [], 5, 0, false⟩ })] }, tim := { d.tim with c := 1600000 } },
      .leaf0, 3, ⟨0, [], 5, 0, false⟩, by decide +kernel⟩
theorem witness_SetpointCommandsTakeEffect_1 : ∃ (s : State) (l : LeafId) (h : Handle) (c : Cmd), (s.leaf l).WaitsDue h 2 1 c ∧ setpointOk c = true :=
    ⟨cmdLeaf 2 1 0 id, .leaf0, 5, aCmd 2 1 0, by unfold Leaf.WaitsDue Leaf.Waits; decide +kernel⟩
theorem witness_SetpointCommandsTakeEffect_2 : ∃ (s : State) (l : LeafId) (h : Handle) (c : Cmd), (s.leaf l).WaitsDue h 2 1 c ∧ setpointOk c = false
    :=
    ⟨cmdLeaf 2 1 4 id, .leaf0, 5, aCmd 2 1 4, by unfold Leaf.WaitsDue Leaf.Waits; decide +kernel⟩
theorem witness_SetpointCommandsTakeEffect_3 : ∃ (s : State) (l : LeafId) (h : Handle) (c : Cmd), (s.leaf l).WaitsDue h 2 2 c ∧ setpointOk c = true :=
    ⟨cmdLeaf 2 2 3 id, .leaf0, 5, aCmd 2 2 3, by unfold Leaf.WaitsDue Leaf.Waits; decide +kernel⟩
theorem witness_SetpointCommandsTakeEffect_4 : ∃ (s : State) (l : LeafId) (h : Handle) (c : Cmd), (s.leaf l).WaitsDue h 2 3 c ∧ setpointOk c = true :=
    ⟨cmdLeaf 2 3 3 id, .leaf0, 5, aCmd 2 3 3, by unfold Leaf.WaitsDue Leaf.Waits; decide +kernel⟩
theorem witness_SetpointCommandsTakeEffect_5 : ∃ (s : State) (l : LeafId) (h : Handle) (c : Cmd), (s.leaf l).WaitsDue h 2 4 c ∧ setpointOk c = true :=
    ⟨cmdLeaf 2 4 0x101 id, .leaf0, 5, aCmd 2 4 0x101, by unfold Leaf.WaitsDue Leaf.Waits; decide +kernel⟩
theorem witness_SetpointCommandsTakeEffect_6 : ∃ (s : State) (l : LeafId) (h : Handle) (c : Cmd), (s.leaf l).WaitsDue h 2 5 c ∧ setpointOk c = true :=
    ⟨cmdLeaf 2 5 1 id, .leaf0, 5, aCmd 2 5 1, by unfold Leaf.WaitsDue Leaf.Waits; decide +kernel⟩
theorem witness_SetpointCommandsTakeEffect_7 : ∃ (s : State) (l : LeafId), (s.leaf l).active = true ∧ (s.leaf l).blend = true :=
    ⟨keyedLeaf fun d => (d.wr PROF_STATUS_MODE 1).wr PROF_STATUS_REASON 2, .leaf0, by decide +kernel⟩
theorem witness_KeyCommandsTakeEffect_1 : ∃ (s : State) (l : LeafId) (h : Handle) (c : Cmd), (s.leaf l).WaitsDue h 3 1 c ∧ c.par 0 8 ≤ 1 ∧ (s.leaf
    l).rd KEY_STATUS_SHD_STATE = 0 ∧ (s.leaf l).key.pend = none ∧ (s.leaf l).wardBusy (decide (c.par 0 8 = 1)) = false :=
    ⟨cmdLeaf 3 1 1 id, .leaf0, 5, aCmd 3 1 1, by unfold Leaf.WaitsDue Leaf.Waits; decide +kernel⟩
theorem witness_KeyCommandsTakeEffect_2 : ∃ (s : State) (l : LeafId) (h : Handle) (c : Cmd), (s.leaf l).WaitsDue h 3 1 c ∧ 1 < c.par 0 8 :=
    ⟨cmdLeaf 3 1 2 id, .leaf0, 5, aCmd 3 1 2, by unfold Leaf.WaitsDue Leaf.Waits; decide +kernel⟩
theorem witness_KeyCommandsTakeEffect_3 : ∃ (s : State) (l : LeafId) (h : Handle) (c : Cmd) (im : Image), (s.leaf l).WaitsDue h 3 2 c ∧ (s.leaf
    l).activationStop = none ∧ ((c.par 64 8 = 0 ∨ 16 ≤ c.par 64 8 ∧ c.par 64 8 ≤ 200)) ∧ (s.leaf l).key.active.map (fun i => expectOf i.hash) ≠ some
    (c.par 0 64) ∧ (s.leaf l).key.staged = some im ∧ expectOf im.hash = c.par 0 64 ∧ (s.leaf l).swapRefused ((s.leaf l).delays (s.leaf l.other)
    s.concs) (c.par 64 8) = false :=
    ⟨cmdLeaf 3 2 9 fun d => { d with key := { d.key with staged := some { keyImg with period := 20 } } }, .leaf0, 5, aCmd 3 2 9,
      { keyImg with period := 20 }, by unfold Leaf.WaitsDue Leaf.Waits; decide +kernel⟩
theorem witness_KeyCommandsTakeEffect_4 : ∃ (s : State) (l : LeafId) (h : Handle) (c : Cmd), (s.leaf l).WaitsDue h 3 2 c ∧ (s.leaf l).is UPD_HASP_SET
    = true :=
    ⟨cmdLeaf 3 2 9 fun d => d.wr UPD_HASP_SET 1, .leaf0, 5, aCmd 3 2 9, by unfold Leaf.WaitsDue Leaf.Waits; decide +kernel⟩
theorem witness_KeyCommandsTakeEffect_5 : ∃ (s : State) (l : LeafId) (h : Handle) (c : Cmd), (s.leaf l).WaitsDue h 3 3 c ∧ (s.leaf l).key.pend = none
    ∧ (s.leaf l).key.load = none ∧ (s.leaf l).key.waitPartner = none :=
    ⟨cmdLeaf 3 3 0 id, .leaf0, 5, aCmd 3 3 0, by unfold Leaf.WaitsDue Leaf.Waits; decide +kernel⟩
theorem witness_KeyCommandsTakeEffect_6 : ∃ (s : State) (l : LeafId) (h : Handle) (c : Cmd), (s.leaf l).WaitsDue h 3 4 c ∧ (s.leaf l).activationStop =
    none ∧ (s.leaf l).key.active.map (fun i => expectOf i.hash) ≠ some (c.par 0 64) ∧ ((s.leaf l).keyWard (!(s.leaf l).keyPtr)).hash.map expectOf =
    some (c.par 0 64) ∧ (s.leaf l).rd KEY_FLOOR_FLOOR ≤ leAt ((s.leaf l).keyWard (!(s.leaf l).keyPtr)).body 0x0C 4 ∧ (s.leaf l).rd
    KEY_STATUS_SHD_STATE ≠ 1 ∧ (s.leaf l).key.pend = none :=
    ⟨cmdLeaf 3 4 9 fun d => { d with upd := { d.upd with keyB := aWard } }, .leaf0, 5, aCmd 3 4 9, by unfold Leaf.WaitsDue Leaf.Waits; decide +kernel⟩
theorem witness_KeyCommandsTakeEffect_7 : ∃ (s : State) (l : LeafId) (h : Handle) (c : Cmd), (s.leaf l).WaitsDue h 3 5 c ∧ (s.leaf l).is UPD_HASP_SET
    = false ∧ c.par 0 32 ≤ (s.leaf l).rd KEY_ACT_SEC_VALUE ∧ (s.leaf l).rd KEY_FLOOR_FLOOR < c.par 0 32 ∧ (s.leaf l).rd KEY_FLOOR_LEFT_LEFT ≠ 0 :=
    ⟨cmdLeaf 3 5 4 fun d => d.wr KEY_ACT_SEC_VALUE 4, .leaf0, 5, aCmd 3 5 4, by unfold Leaf.WaitsDue Leaf.Waits; decide +kernel⟩
theorem witness_KeyCommandsTakeEffect_8 : ∃ (s : State) (l : LeafId) (h : Handle) (c : Cmd), (s.leaf l).WaitsDue h 3 5 c ∧ (s.leaf l).is UPD_HASP_SET
    = false ∧ (s.leaf l).rd KEY_ACT_SEC_VALUE < c.par 0 32 :=
    ⟨cmdLeaf 3 5 4 id, .leaf0, 5, aCmd 3 5 4, by unfold Leaf.WaitsDue Leaf.Waits; decide +kernel⟩
theorem witness_KeyEngineEventsTakeEffect_1 : ∃ (s : State) (l : LeafId) (j : LoadJob), (s.leaf l).key.load = some j ∧ j.startUp = false ∧ j.fallback
    = false :=
    ⟨keyedLeaf fun d => { d with key := { d.key with load := some { handle := 5, ward := false } } }, .leaf0, { handle := 5, ward := false }, by
      decide +kernel⟩
theorem witness_KeyEngineEventsTakeEffect_2 : ∃ (s : State) (l : LeafId) (j : LoadJob), (s.leaf l).key.load = some j ∧ j.startUp = true ∧ j.second =
    false :=
    ⟨keyedLeaf fun d => { d with key := { d.key with load := some { handle := 0, ward := false, startUp := true } } }, .leaf0,
      { handle := 0, ward := false, startUp := true }, by decide +kernel⟩
theorem witness_KeyEngineEventsTakeEffect_3 : ∃ (s : State) (l : LeafId) (p : SwapPend) (im : Image), (s.leaf l).key.pend = some p ∧ (s.leaf
    l).key.staged = some im ∧ p.j ≤ (s.leaf l).tim.cyc ∧ ((p.startUp = true ∨ swapAllowed (s.leaf l).conv.st p.hitless = true)) :=
    ⟨swapLeaf ⟨5, 0, false, 0, true, false, false, false⟩ id, .leaf0, ⟨5, 0, false, 0, true, false, false, false⟩, keyImg, by decide +kernel⟩
theorem witness_KeyEngineEventsTakeEffect_4 : ∃ (s : State) (l : LeafId) (p : SwapPend) (im : Image), (s.leaf l).key.pend = some p ∧ (s.leaf
    l).key.staged = some im ∧ p.j ≤ (s.leaf l).tim.cyc ∧ p.startUp = false ∧ swapAllowed (s.leaf l).conv.st p.hitless = false :=
    ⟨swapLeaf ⟨5, 0, false, 0, true, false, false, false⟩ fun d => { d with conv := { st := .charging } }, .leaf0, ⟨5, 0, false, 0, true, false,
      false, false⟩, keyImg, by decide +kernel⟩
theorem witness_KeyEngineEventsTakeEffect_5 : ∃ (s : State) (l : LeafId) (b : List Byte), (s.leaf l).active = false ∧ (s.leaf l).running = true ∧
    (s.leaf l).is HNG_STATUS_PARTNER_UP = true ∧ leAt b 0x0C 4 < (s.leaf l).rd KEY_FLOOR_FLOOR :=
    ⟨pairLeaf .standby fun d => d.wr KEY_FLOOR_FLOOR 2, .leaf0, [], by decide +kernel⟩
theorem witness_KeyEngineEventsTakeEffect_6 : ∃ (s : State) (l : LeafId) (b : List Byte), (s.leaf l).active = false ∧ (s.leaf l).running = true ∧
    (s.leaf l).is HNG_STATUS_PARTNER_UP = true ∧ (s.leaf l).rd KEY_FLOOR_FLOOR ≤ leAt b 0x0C 4 :=
    ⟨pairLeaf .standby id, .leaf0, [], by decide +kernel⟩
theorem witness_DownloadCommandsTakeEffect_1 : ∃ (s : State) (l : LeafId) (h : Handle) (c : Cmd) (buf : List Byte), (s.leaf l).WaitsDue h 4 1 c ∧ 1 ≤
    c.par 0 8 ∧ c.par 0 8 ≤ 4 ∧ (s.leaf l).is UPD_HASP_SET = false ∧ (s.leaf l).beginBusy (c.par 0 8) (buf.take 512) = false ∧ ((s.leaf l).sessOf
    (c.par 0 8)).st ≠ 1 :=
    ⟨cmdLeaf 4 1 3 id, .leaf0, 5, aCmd 4 1 3, [1], by unfold Leaf.WaitsDue Leaf.Waits; decide +kernel⟩
theorem witness_DownloadCommandsTakeEffect_2 : ∃ (s : State) (l : LeafId) (h : Handle) (c : Cmd) (buf : List Byte) (x : Session), (s.leaf l).WaitsDue
    h 4 2 c ∧ 1 ≤ c.par 0 8 ∧ c.par 0 8 ≤ 4 ∧ (s.leaf l).sessOf (c.par 0 8) = x ∧ x.st = 1 ∧ leAt buf 0 4 < pkPieces x.hdr ∧ SMap.get 0 x.bits (leAt
    buf 0 4) = 0 ∧ crc32c (leBytes 4 (leAt buf 0 4) ++ sliceOf buf 4 4096) = leAt buf 4100 4 :=
    ⟨sessCmd 2 3 3 { st := 1, hdr := bigHdr } id, .leaf0, 5, aCmd 4 2 3, crcBuf, { st := 1, hdr := bigHdr }, by
      unfold Leaf.WaitsDue Leaf.Waits; decide +kernel⟩
theorem witness_DownloadCommandsTakeEffect_3 : ∃ (s : State) (l : LeafId) (h : Handle) (c : Cmd) (buf : List Byte), (s.leaf l).WaitsDue h 4 2 c ∧ 1 ≤
    c.par 0 8 ∧ c.par 0 8 ≤ 4 ∧ ((s.leaf l).sessOf (c.par 0 8)).st = 1 ∧ pkPieces ((s.leaf l).sessOf (c.par 0 8)).hdr ≤ leAt buf 0 4 :=
    ⟨sessCmd 2 3 3 { st := 1 } id, .leaf0, 5, aCmd 4 2 3, [1], by unfold Leaf.WaitsDue Leaf.Waits; decide +kernel⟩
theorem witness_DownloadCommandsTakeEffect_4 : ∃ (s : State) (l : LeafId) (h : Handle) (c : Cmd), (s.leaf l).WaitsDue h 4 3 c ∧ 1 ≤ c.par 0 8 ∧ c.par
    0 8 ≤ 4 ∧ ((s.leaf l).sessOf (c.par 0 8)).st = 2 :=
    ⟨sessCmd 3 2 2 { st := 2 } id, .leaf0, 5, aCmd 4 3 2, by unfold Leaf.WaitsDue Leaf.Waits; decide +kernel⟩
theorem witness_DownloadCommandsTakeEffect_5 : ∃ (s : State) (l : LeafId) (h : Handle) (c : Cmd), (s.leaf l).WaitsDue h 4 3 c ∧ 1 ≤ c.par 0 8 ∧ c.par
    0 8 ≤ 4 ∧ ((s.leaf l).sessOf (c.par 0 8)).st = 4 :=
    ⟨sessCmd 3 2 2 { st := 4 } id, .leaf0, 5, aCmd 4 3 2, by unfold Leaf.WaitsDue Leaf.Waits; decide +kernel⟩
theorem witness_DownloadCommandsTakeEffect_6 : ∃ (s : State) (l : LeafId) (k : Nat), (s.leaf l).running = true ∧ 1 ≤ k ∧ k ≤ 4 ∧ ((s.leaf l).sessOf
    k).st = 3 ∧ ((∀ m : Nat, m < k → 1 ≤ m → ((s.leaf l).sessOf m).st ≠ 3)) :=
    ⟨sessCmd 3 2 2 { st := 3 } id, .leaf0, 2, by decide +kernel⟩
theorem witness_DownloadCommandsTakeEffect_7 : ∃ (s : State) (l : LeafId) (h : Handle) (c : Cmd), (s.leaf l).WaitsDue h 4 8 c ∧ 1 ≤ c.par 0 8 ∧ c.par
    0 8 ≤ 4 ∧ ((s.leaf l).sessOf (c.par 0 8)).st ≠ 0 ∧ (s.leaf l).kindBusy (c.par 0 8) = false :=
    ⟨sessCmd 8 2 2 { st := 3 } id, .leaf0, 5, aCmd 4 8 2, by unfold Leaf.WaitsDue Leaf.Waits; decide +kernel⟩
theorem witness_ActivationCommandsTakeEffect_1 : ∃ (s : State) (l : LeafId) (h : Handle) (c : Cmd), (s.leaf l).WaitsDue h 4 5 c ∧ c.par 0 8 = 3 ∧
    ((s.leaf l).sessOf 3).st = 4 ∧ (s.leaf l).upd.acts = [] :=
    ⟨sessCmd 5 3 3 { st := 4 } id, .leaf0, 5, aCmd 4 5 3, by unfold Leaf.WaitsDue Leaf.Waits; decide +kernel⟩
theorem witness_ActivationCommandsTakeEffect_2 : ∃ (s : State) (l : LeafId) (h : Handle) (c : Cmd), (s.leaf l).WaitsDue h 4 5 c ∧ ((c.par 0 8 = 3 ∨
    c.par 0 8 = 4)) ∧ ((s.leaf l).sessOf (c.par 0 8)).st ≠ 4 :=
    ⟨sessCmd 5 3 3 { st := 2 } id, .leaf0, 5, aCmd 4 5 3, by unfold Leaf.WaitsDue Leaf.Waits; decide +kernel⟩
theorem witness_ActivationCommandsTakeEffect_3 : ∃ (s : State) (l : LeafId) (h : Handle) (c : Cmd), (s.leaf l).WaitsDue h 4 4 c ∧ c.par 0 8 = 3 ∧
    c.par 8 6 < 48 ∧ (s.leaf l).activationStop = none ∧ actState 3 (s.leaf l).conv.st = true ∧ ((s.leaf l).sessOf 3).st = 4 :=
    ⟨sessCmd 4 (3 + 7 * 256) 3 { st := 4 } id, .leaf0, 5, aCmd 4 4 (3 + 7 * 256), by unfold Leaf.WaitsDue Leaf.Waits; decide +kernel⟩
theorem witness_ActivationCommandsTakeEffect_4 : ∃ (s : State) (l : LeafId) (h : Handle) (c : Cmd), (s.leaf l).WaitsDue h 4 4 c ∧ c.par 0 8 = 3 ∧
    c.par 8 6 < 48 ∧ (s.leaf l).is UPD_HASP_SET = true :=
    ⟨sessCmd 4 (3 + 7 * 256) 3 { st := 4 } fun d => d.wr UPD_HASP_SET 1, .leaf0, 5, aCmd 4 4 (3 + 7 * 256), by
      unfold Leaf.WaitsDue Leaf.Waits; decide +kernel⟩
theorem witness_ActivationCommandsTakeEffect_5 : ∃ (s : State) (l : LeafId) (h : Handle) (c : Cmd) (im : Image), (s.leaf l).WaitsDue h 4 6 c ∧ (s.leaf
    l).activationStop = none ∧ c.par 0 8 < 6 ∧ 1 ≤ c.par 8 16 ∧ c.par 8 16 ≤ 2048 ∧ (s.leaf l).key.active = some im ∧ c.par 0 8 < im.arms.length ∧
    (((s.leaf l).conv.st = .keyedIdle ∨ (s.leaf l).conv.st = .blockedReady)) ∧ (s.leaf l).upd.waves = [] ∧ (s.leaf l).rd TUM_SPARE_N_REQ (c.par 0 8) <
    (s.leaf l).healthy (c.par 0 8) ∧ (s.leaf l).wavePick s { handle := h, arm := c.par 0 8, max := c.par 8 16, start := (s.leaf l).tim.cyc } ≠ [] :=
    ⟨waveWorld (waveState0 fun d => { d with hnd := { d.hnd with cmds := [aCmd 4 6 256] } }), .leaf0, 5, aCmd 4 6 256, anImage, by
      unfold Leaf.WaitsDue Leaf.Waits; decide +kernel⟩
theorem witness_ActivationCommandsTakeEffect_6 : ∃ (s : State) (l : LeafId) (h : Handle) (c : Cmd), (s.leaf l).WaitsDue h 4 6 c ∧ ((6 ≤ c.par 0 8 ∨
    c.par 8 16 = 0 ∨ 2048 < c.par 8 16)) :=
    ⟨sessCmd 6 7 4 { st := 4 } id, .leaf0, 5, aCmd 4 6 7, by unfold Leaf.WaitsDue Leaf.Waits; decide +kernel⟩
theorem witness_ActivationCommandsTakeEffect_7 : ∃ (s : State) (l : LeafId) (j : WaveJob), (s.leaf l).active = true ∧ (s.leaf l).upd.waves = [j] ∧ ((∀
    x ∈ j.cells, (s.leaf l).waveReady s x = true)) ∧ (((s.leaf l).conv.st = .keyedIdle ∨ (s.leaf l).conv.st = .blockedReady)) ∧ (s.leaf l).is
    PWR_STATUS_AUX_LOW = false ∧ (s.leaf l).rd TUM_SPARE_N_REQ j.arm < (s.leaf l).healthy j.arm ∧ (s.leaf l).wavePick s
    { j with cells := [], done := j.done ++ j.cells } = [] :=
    ⟨waveState0 fun d => { d with upd := { d.upd with waves := [⟨5, 0, 1, 0, [], 0, [3], []⟩] } }, .leaf0, ⟨5, 0, 1, 0, [], 0, [3], []⟩, by
      decide +kernel⟩
theorem witness_ActivationCommandsTakeEffect_8 : ∃ (s : State) (l : LeafId) (j : WaveJob) (x : Nat), (s.leaf l).active = true ∧ (s.leaf l).upd.waves =
    [j] ∧ x ∈ j.cells ∧ (s.leaf l).waveReady s x = false ∧ (s.leaf l).tim.c < j.begun + 800000000 :=
    ⟨waveState0 fun d => { d with upd := { d.upd with waves := [⟨5, 0, 1, 0, [3], 0, [], []⟩] } }, .leaf0, ⟨5, 0, 1, 0, [3], 0, [], []⟩, 3, by
      decide +kernel⟩
theorem witness_ActivationCommandsTakeEffect_9 : ∃ (s : State) (l : LeafId) (h : Handle) (c : Cmd), (s.leaf l).WaitsDue h 4 7 c ∧ c.par 0 8 = 1 ∧
    (s.leaf l).upd.boot.newest.named (c.par 8 32) = true ∧ (s.leaf l).hng.partner.ident = none :=
    ⟨cmdLeaf 4 7 1 fun d => { d with upd := { d.upd with boot := { c0 := trialCopy } } }, .leaf0, 5, aCmd 4 7 1, by
      unfold Leaf.WaitsDue Leaf.Waits; decide +kernel⟩
theorem witness_ActivationCommandsTakeEffect_10 : ∃ (s : State) (l : LeafId) (h : Handle) (c : Cmd), (s.leaf l).WaitsDue h 4 7 c ∧ c.par 0 8 = 2 ∧
    (s.leaf l).upd.kptr.newest.named (c.par 8 32) = true ∧ (s.leaf l).hng.partner.ident = none :=
    ⟨cmdLeaf 4 7 2 fun d => { d with upd := { d.upd with kptr := { c0 := trialCopy } } }, .leaf0, 5, aCmd 4 7 2, by
      unfold Leaf.WaitsDue Leaf.Waits; decide +kernel⟩
theorem witness_HaspCommandsTakeEffect_1 : ∃ (s : State) (l : LeafId) (h : Handle) (c : Cmd), (s.leaf l).WaitsDue h 4 9 c :=
    ⟨cmdLeaf 4 9 0 id, .leaf0, 5, aCmd 4 9 0, by unfold Leaf.WaitsDue Leaf.Waits; decide +kernel⟩
theorem witness_HaspCommandsTakeEffect_2 : ∃ (s : State) (l : LeafId) (h : Handle) (c : Cmd), (s.leaf l).WaitsDue h 4 10 c ∧ (s.leaf l).rd64
    UPD_HASP_LIFT_LO_HANDLE UPD_HASP_LIFT_HI_HANDLE ≠ h :=
    ⟨cmdLeaf 4 10 0 fun d => d.wr UPD_HASP_SET 1, .leaf0, 5, aCmd 4 10 0, by unfold Leaf.WaitsDue Leaf.Waits; decide +kernel⟩
theorem witness_HaspCommandsTakeEffect_3 : ∃ (s : State) (l : LeafId) (h : Handle) (c : Cmd), (s.leaf l).WaitsDue h 4 11 c ∧ (s.leaf l).is
    UPD_HASP_ENROLLED = false :=
    ⟨cmdLeaf 4 11 0 id, .leaf0, 5, aCmd 4 11 0, by unfold Leaf.WaitsDue Leaf.Waits; decide +kernel⟩
theorem witness_HaspCommandsTakeEffect_4 : ∃ (s : State) (l : LeafId) (h : Handle) (c : Cmd), (s.leaf l).WaitsDue h 4 11 c ∧ (s.leaf l).is
    UPD_HASP_ENROLLED = true :=
    ⟨cmdLeaf 4 11 0 fun d => d.wr UPD_HASP_ENROLLED 1, .leaf0, 5, aCmd 4 11 0, by unfold Leaf.WaitsDue Leaf.Waits; decide +kernel⟩
theorem witness_HaspCommandsTakeEffect_5 : ∃ (s : State) (l : LeafId) (h : Handle) (c : Cmd), (s.leaf l).WaitsDue h 4 12 c ∧ (s.leaf l).is
    UPD_HASP_SET = false ∧ ((c.par 0 8 = 1 ∨ c.par 0 8 = 3 ∨ c.par 0 8 = 4)) ∧ (s.leaf l).floorTooHigh s (c.par 0 8) (c.par 8 32) = false :=
    ⟨cmdLeaf 4 12 (3 + 9 * 256) id, .leaf0, 5, aCmd 4 12 (3 + 9 * 256), by unfold Leaf.WaitsDue Leaf.Waits; decide +kernel⟩
theorem witness_HaspCommandsTakeEffect_6 : ∃ (s : State) (l : LeafId) (h : Handle) (c : Cmd), (s.leaf l).WaitsDue h 4 12 c ∧ (s.leaf l).is
    UPD_HASP_SET = true :=
    ⟨cmdLeaf 4 12 3 fun d => d.wr UPD_HASP_SET 1, .leaf0, 5, aCmd 4 12 3, by unfold Leaf.WaitsDue Leaf.Waits; decide +kernel⟩
theorem witness_FabricStepsWriteTheirResults_1 : ∃ (s : State) (l : LeafId) (t : Tile) (k w n : Nat) (a v : Int) (i : Instr), (s.leaf l).StepAt t.val
    k w ∧ (s.leaf l).opndVal ((s.leaf l).tile t.val) k (stepA w) = some a ∧ (i, stepOp w, n, v) ∈ [(.stepMov l t .ok, 0x01, 1, a), (.stepNeg l t .ok,
    0x04, 1, -a), (.stepAbs l t .ok, 0x05, 1, (a.natAbs : Int)), (.stepSqrt l t .ok, 0x0F, 18, if a < 0 then 0 else (isqrt (a.toNat * 2 ^ (stepMod w %
    32)) : Int)), (.stepLoad l t .ok, 0x17, 1, ((s.leaf l).tile t.val).spRead ((a + (stepB w % 4096 : Nat)) % 4096).toNat)] :=
    ⟨tileLeaf 9 (stepW 0x04 8 2 0 0 0) id id, .leaf0, 3, 6, stepW 0x04 8 2 0 0 0, 1, -7, 7, .stepNeg .leaf0 3 .ok, by
      unfold Leaf.StepAt; decide +kernel⟩
theorem witness_FabricStepsWriteTheirResults_2 : ∃ (s : State) (l : LeafId) (t : Tile) (k w n : Nat) (a b v : Int) (i : Instr), (s.leaf l).StepAt
    t.val k w ∧ (s.leaf l).opndVal ((s.leaf l).tile t.val) k (stepA w) = some a ∧ (s.leaf l).opndVal ((s.leaf l).tile t.val) k (stepB w) = some b ∧
    (i, stepOp w, n, v) ∈ [(.stepAdd l t .ok, 0x02, 1, a + b), (.stepSub l t .ok, 0x03, 1, a - b), (.stepMin l t .ok, 0x06, 1, min a b), (.stepMax l t
    .ok, 0x07, 1, max a b), (.stepSel l t .ok, 0x09, 1, if ((s.leaf l).tile t.val).reg (stepMod w) ≠ 0 then a else b), (.stepMul l t .ok, 0x0B, 2,
    (sat64 (shiftBy (a * b) (sext 6 (stepMod w)))).1), (.stepDiv l t .ok, 0x0E, 34, if b = 0 then (if 0 < a then 2147483647 else if a < 0 then
    -2147483648 else 0) else Int.tdiv (a * (2 ^ (stepMod w % 32) : Nat)) b)] :=
    ⟨tileLeaf 3 (stepW 0x02 0x1005 1 3 0 0) id id, .leaf0, 3, 6, stepW 0x02 0x1005 1 3 0 0, 1, 5, 2147483647, 2147483652, .stepAdd .leaf0 3 .ok, by
      unfold Leaf.StepAt; decide +kernel⟩
theorem witness_FabricStepsWriteTheirResults_3 : ∃ (s : State) (l : LeafId) (t : Tile) (k w : Nat) (a b : Int) (r : Bool), (s.leaf l).StepAt t.val k w
    ∧ stepOp w = 0x08 ∧ (s.leaf l).opndVal ((s.leaf l).tile t.val) k (stepA w) = some a ∧ (s.leaf l).opndVal ((s.leaf l).tile t.val) k (stepB w) =
    some b ∧ (stepMod w % 8, r) ∈ [(0, decide (a = b)), (1, decide (a ≠ b)), (2, decide (a < b)), (3, decide (a ≤ b)), (4, decide (b < a)), (5, decide
    (b ≤ a))] :=
    ⟨tileLeaf 9 (stepW 0x08 8 2 1 0 2) id id, .leaf0, 3, 6, stepW 0x08 8 2 1 0 2, -7, 5, true, by unfold Leaf.StepAt; decide +kernel⟩
theorem witness_FabricStepsWriteTheirResults_4 : ∃ (s : State) (l : LeafId) (t : Tile) (k w : Nat) (a : Int), (s.leaf l).StepAt t.val k w ∧ stepOp w =
    0x0A ∧ stepMod w % 2 = 0 ∧ (s.leaf l).opndVal ((s.leaf l).tile t.val) k (stepA w) = some a :=
    ⟨tileLeaf 9 (stepW 0x0A 8 3 0 4 0) id id, .leaf0, 3, 6, stepW 0x0A 8 3 0 4 0, 2147483647, by unfold Leaf.StepAt; decide +kernel⟩
theorem witness_FabricStepsWriteTheirResults_5 : ∃ (s : State) (l : LeafId) (t : Tile) (k w : Nat) (a b : Int), (s.leaf l).StepAt t.val k w ∧ stepOp w
    = 0x0A ∧ stepMod w % 2 = 1 ∧ (s.leaf l).opndVal ((s.leaf l).tile t.val) k (stepA w) = some a ∧ (s.leaf l).opndVal ((s.leaf l).tile t.val) k (stepB
    w) = some b :=
    ⟨tileLeaf 9 (stepW 0x0A 8 2 1 4 1) id id, .leaf0, 3, 6, stepW 0x0A 8 2 1 4 1, -7, 5, by unfold Leaf.StepAt; decide +kernel⟩
theorem witness_FabricStepsWriteTheirResults_6 : ∃ (s : State) (l : LeafId) (t : Tile) (k w : Nat) (a : Int), (s.leaf l).StepAt t.val k w ∧ stepOp w =
    0x0E ∧ (s.leaf l).opndVal ((s.leaf l).tile t.val) k (stepA w) = some a ∧ (s.leaf l).opndVal ((s.leaf l).tile t.val) k (stepB w) = some 0 ∧ ((∀ r ∈
    flagRoutes, (s.leaf l).is r.1 t.val = false)) ∧ (s.leaf l).rd FAB_ROUTE_DIV_ZERO = 2 ∧ ((s.leaf l).tile t.val).pc + 1 < (s.leaf l).rd
    TILE_LIST_STEPS t.val :=
    ⟨tileLeaf 9 (stepW 0x0E 8 2 9 0 0) id (fun d => d.wr FAB_ROUTE_DIV_ZERO 2), .leaf0, 3, 6, stepW 0x0E 8 2 9 0 0, -7, by
      unfold Leaf.StepAt; decide +kernel⟩
theorem witness_FabricStateStepsTakeEffect_1 : ∃ (s : State) (l : LeafId) (t : Tile) (k w : Nat) (a b : Int), (s.leaf l).StepAt t.val k w ∧ stepOp w =
    0x08 ∧ (s.leaf l).opndVal ((s.leaf l).tile t.val) k (stepA w) = some a ∧ (s.leaf l).opndVal ((s.leaf l).tile t.val) k (stepB w) = some b ∧ 6 ≤
    stepMod w % 8 :=
    ⟨tileLeaf 9 (stepW 0x08 8 2 1 0 6) id id, .leaf0, 3, 6, stepW 0x08 8 2 1 0 6, -7, 5, by unfold Leaf.StepAt; decide +kernel⟩
theorem witness_FabricStateStepsTakeEffect_2 : ∃ (s : State) (l : LeafId) (t : Tile) (k w : Nat), (s.leaf l).StepAt t.val k w ∧ stepOp w = 0x00 :=
    ⟨tileLeaf 9 (stepW 0 0 0 0 0 0) id id, .leaf0, 3, 6, 0, by unfold Leaf.StepAt; decide +kernel⟩
theorem witness_FabricStateStepsTakeEffect_3 : ∃ (s : State) (l : LeafId) (t : Tile) (k w : Nat), (s.leaf l).StepAt t.val k w ∧ stepOp w = 0x0C :=
    ⟨tileLeaf 9 (stepW 0x0C 8 0 0 0 0) id id, .leaf0, 3, 6, stepW 0x0C 8 0 0 0 0, by unfold Leaf.StepAt; decide +kernel⟩
theorem witness_FabricStateStepsTakeEffect_4 : ∃ (s : State) (l : LeafId) (t : Tile) (k w : Nat) (a : Int), (s.leaf l).StepAt t.val k w ∧ stepOp w =
    0x0D ∧ (s.leaf l).opndVal ((s.leaf l).tile t.val) k (stepA w) = some a :=
    ⟨tileLeaf 9 (stepW 0x0D 0 1 0 4 2) id id, .leaf0, 3, 6, stepW 0x0D 0 1 0 4 2, 5, by unfold Leaf.StepAt; decide +kernel⟩
theorem witness_FabricStateStepsTakeEffect_5 : ∃ (s : State) (l : LeafId) (t : Tile) (k w : Nat) (a : Int), (s.leaf l).StepAt t.val k w ∧ stepOp w =
    0x10 ∧ (s.leaf l).opndVal ((s.leaf l).tile t.val) k (stepA w) = some a :=
    ⟨tileLeaf 9 (stepW 0x10 8 6 0 0 0) id id, .leaf0, 3, 6, stepW 0x10 8 6 0 0 0, 2 ^ 30, by unfold Leaf.StepAt; decide +kernel⟩
theorem witness_FabricStateStepsTakeEffect_6 : ∃ (s : State) (l : LeafId) (t : Tile) (k w : Nat) (a : Int), (s.leaf l).StepAt t.val k w ∧ stepOp w =
    0x11 ∧ (s.leaf l).opndVal ((s.leaf l).tile t.val) k (stepA w) = some a :=
    ⟨tileLeaf 9 (stepW 0x11 8 1 0 0 0) id id, .leaf0, 3, 6, stepW 0x11 8 1 0 0 0, 5, by unfold Leaf.StepAt; decide +kernel⟩
theorem witness_FabricStateStepsTakeEffect_7 : ∃ (s : State) (l : LeafId) (t : Tile) (k w : Nat) (a b : Int), (s.leaf l).StepAt t.val k w ∧ stepOp w =
    0x12 ∧ (s.leaf l).opndVal ((s.leaf l).tile t.val) k (stepA w) = some a ∧ (s.leaf l).opndVal ((s.leaf l).tile t.val) k (stepB w) = some b :=
    ⟨tileLeaf 9 (stepW 0x12 8 1 6 0 0) id id, .leaf0, 3, 6, stepW 0x12 8 1 6 0 0, 5, 2 ^ 30, by unfold Leaf.StepAt; decide +kernel⟩
theorem witness_FabricStateStepsTakeEffect_8 : ∃ (s : State) (l : LeafId) (t : Tile) (k w : Nat) (a : Int), (s.leaf l).StepAt t.val k w ∧ stepOp w =
    0x13 ∧ stepMod w ≠ 0 ∧ (s.leaf l).opndVal ((s.leaf l).tile t.val) k (stepA w) = some a :=
    ⟨tileLeaf 9 (stepW 0x13 8 1 14 0 3) id id, .leaf0, 3, 6, stepW 0x13 8 1 14 0 3, 5, by unfold Leaf.StepAt; decide +kernel⟩
theorem witness_FabricStateStepsTakeEffect_9 : ∃ (s : State) (l : LeafId) (t : Tile) (k w : Nat) (a : Int), (s.leaf l).StepAt t.val k w ∧ stepOp w =
    0x13 ∧ stepMod w = 0 ∧ (s.leaf l).opndVal ((s.leaf l).tile t.val) k (stepA w) = some a :=
    ⟨tileLeaf 9 (stepW 0x13 8 1 14 0 0) id id, .leaf0, 3, 6, stepW 0x13 8 1 14 0 0, 5, by unfold Leaf.StepAt; decide +kernel⟩
theorem witness_FabricStateStepsTakeEffect_10 : ∃ (s : State) (l : LeafId) (t : Tile) (k w : Nat) (a : Int), (s.leaf l).StepAt t.val k w ∧ stepOp w =
    0x14 ∧ (s.leaf l).opndVal ((s.leaf l).tile t.val) k (stepA w) = some a :=
    ⟨tileLeaf 9 (stepW 0x14 1 3 0 4 0) id id, .leaf0, 3, 6, stepW 0x14 1 3 0 4 0, 2147483647, by unfold Leaf.StepAt; decide +kernel⟩
theorem witness_FabricStateStepsTakeEffect_11 : ∃ (s : State) (l : LeafId) (t : Tile) (k w : Nat) (a : Int), (s.leaf l).StepAt t.val k w ∧ stepOp w =
    0x15 ∧ (s.leaf l).opndVal ((s.leaf l).tile t.val) k (stepA w) = some a :=
    ⟨tileLeaf 9 (stepW 0x15 1 3 0 4 0) id id, .leaf0, 3, 6, stepW 0x15 1 3 0 4 0, 2147483647, by unfold Leaf.StepAt; decide +kernel⟩
theorem witness_FabricStateStepsTakeEffect_12 : ∃ (s : State) (l : LeafId) (t : Tile) (k w : Nat) (a : Int), (s.leaf l).StepAt t.val k w ∧ stepOp w =
    0x16 ∧ (s.leaf l).opndVal ((s.leaf l).tile t.val) k (stepA w) = some a :=
    ⟨tileLeaf 9 (stepW 0x16 8 1 16 4 0) id id, .leaf0, 3, 6, stepW 0x16 8 1 16 4 0, 5, by unfold Leaf.StepAt; decide +kernel⟩
theorem witness_FabricStateStepsTakeEffect_13 : ∃ (s : State) (l : LeafId) (t : Tile) (k w : Nat) (a b : Int), (s.leaf l).StepAt t.val k w ∧ stepOp w
    = 0x18 ∧ (s.leaf l).opndVal ((s.leaf l).tile t.val) k (stepA w) = some a ∧ (s.leaf l).opndVal ((s.leaf l).tile t.val) k (stepB w) = some b :=
    ⟨tileLeaf 9 (stepW 0x18 20 1 2 0 0) id id, .leaf0, 3, 6, stepW 0x18 20 1 2 0 0, 5, -7, by unfold Leaf.StepAt; decide +kernel⟩
theorem witness_FabricStateStepsTakeEffect_14 : ∃ (s : State) (l : LeafId) (t : Tile) (k w : Nat) (a : Int), (s.leaf l).StepAt t.val k w ∧ stepOp w =
    0x1C ∧ (s.leaf l).opndVal ((s.leaf l).tile t.val) k (stepA w) = some a :=
    ⟨tileLeaf 9 (stepW 0x1C 1 1 0 0 2) id id, .leaf0, 3, 6, stepW 0x1C 1 1 0 0 2, 5, by unfold Leaf.StepAt; decide +kernel⟩
theorem witness_FabricStateStepsTakeEffect_15 : ∃ (s : State) (l : LeafId) (t : Tile) (k w : Nat) (a b : Int), (s.leaf l).StepAt t.val k w ∧ stepOp w
    = 0x1D ∧ (s.leaf l).opndVal ((s.leaf l).tile t.val) k (stepA w) = some a ∧ (s.leaf l).opndVal ((s.leaf l).tile t.val) k (stepB w) = some b :=
    ⟨tileLeaf 9 (stepW 0x1D 0 1 2 0 0) id id, .leaf0, 3, 6, stepW 0x1D 0 1 2 0 0, 5, -7, by unfold Leaf.StepAt; decide +kernel⟩
theorem witness_FabricStateStepsTakeEffect_16 : ∃ (s : State) (l : LeafId) (t : Tile) (k w : Nat) (a : Int), (s.leaf l).StepAt t.val k w ∧ stepOp w =
    0x1B ∧ (s.leaf l).opndVal ((s.leaf l).tile t.val) k (stepA w) = some a :=
    ⟨tileLeaf 9 (stepW 0x1B 0x083 1 0 0 0) id id, .leaf0, 3, 6, stepW 0x1B 0x083 1 0 0 0, 5, by unfold Leaf.StepAt; decide +kernel⟩
theorem witness_FabricStateStepsTakeEffect_17 : ∃ (s : State) (l : LeafId) (t : Tile) (k w : Nat) (a : Int), (s.leaf l).StepAt t.val k w ∧ stepOp w =
    0x19 ∧ (s.leaf l).opndVal ((s.leaf l).tile t.val) k (stepA w) = some a ∧ ((s.leaf l).tile (stepDst w / 16 % 256)).chanHeld (stepDst w % 8) < 4 ∧
    stepDst w / 16 % 256 ≠ t.val :=
    ⟨tileLeaf 9 (stepW 0x19 0x45 1 0 0 0) id id, .leaf0, 3, 6, stepW 0x19 0x45 1 0 0 0, 5, by unfold Leaf.StepAt; decide +kernel⟩
theorem witness_FabricStateStepsTakeEffect_18 : ∃ (s : State) (l : LeafId) (t : Tile) (k w : Nat) (a : Int), (s.leaf l).StepAt t.val k w ∧ stepOp w =
    0x19 ∧ (s.leaf l).opndVal ((s.leaf l).tile t.val) k (stepA w) = some a ∧ ((s.leaf l).tile t.val).chanHeld (stepDst w % 8) < 4 ∧ stepDst w / 16 %
    256 = t.val :=
    ⟨tileLeaf 9 (stepW 0x19 0x35 1 0 0 0) id id, .leaf0, 3, 6, stepW 0x19 0x35 1 0 0 0, 5, by unfold Leaf.StepAt; decide +kernel⟩
theorem witness_FabricStateStepsTakeEffect_19 : ∃ (s : State) (l : LeafId) (t : Tile) (k w v : Nat) (n : Nat) (r : List ChanEnt), (s.leaf l).StepAt
    t.val k w ∧ stepOp w = 0x1A ∧ dropEarlier k (((s.leaf l).tile t.val).chanOf (stepMod w % 8)) = (n, ⟨k % 4, v⟩ :: r) :=
    ⟨tileLeaf 9 (stepW 0x1A 8 0 0 0 5) (fun x => { x with chan := [(5, [⟨0, 1⟩, ⟨2, 77⟩])] }) id, .leaf0, 3, 6, stepW 0x1A 8 0 0 0 5, 77, 1, [], by
      unfold Leaf.StepAt; decide +kernel⟩
theorem witness_FabricListsAndServicesTakeEffect_1 : ∃ (s : State) (l : LeafId) (t : Tile) (chk : StepCheck) (k w op : Nat) (ua ub : Bool) (i :
    Instr), (s.leaf l).StepAt t.val k w ∧ StepRow l t chk w i op ua ub ∧ stepOp w = op ∧ (((ua = true ∧ (s.leaf l).opndVal ((s.leaf l).tile t.val) k
    (stepA w) = none) ∨ (ub = true ∧ (s.leaf l).opndVal ((s.leaf l).tile t.val) k (stepB w) = none))) :=
    ⟨tileLeaf 9 (stepW 0x02 8 0x2001 1 0 0) id id, .leaf0, 3, .ok, 6, stepW 0x02 8 0x2001 1 0 0, 0x02, true, true, .stepAdd .leaf0 3 .ok, by
      unfold Leaf.StepAt StepRow; decide +kernel⟩
theorem witness_FabricListsAndServicesTakeEffect_2 : ∃ (s : State) (l : LeafId) (t : Tile) (chk : StepCheck) (w op : Nat) (ua ub : Bool) (i : Instr),
    StepRow l t chk w i op ua ub ∧ ((((s.leaf l).tile t.val).run = none ∨ stepOp (SMap.get 0 ((s.leaf l).tile t.val).steps ((s.leaf l).tile t.val).pc)
    ≠ op)) :=
    ⟨tileLeaf 9 (stepW 0x02 8 1 1 0 0) id id, .leaf0, 3, .ok, 0, 0x03, true, true, .stepSub .leaf0 3 .ok, by unfold StepRow; decide +kernel⟩
theorem witness_FabricListsAndServicesTakeEffect_3 : ∃ (s : State) (l : LeafId) (t : Tile) (chk : StepCheck) (k w op : Nat) (ua ub : Bool) (i :
    Instr), (s.leaf l).StepAt t.val k w ∧ StepRow l t chk w i op ua ub ∧ stepOp w = op ∧ chk ≠ .ok ∧ (ua = true → (s.leaf l).opndVal ((s.leaf l).tile
    t.val) k (stepA w) ≠ none) ∧ (ub = true → (s.leaf l).opndVal ((s.leaf l).tile t.val) k (stepB w) ≠ none) :=
    ⟨tileLeaf 9 (stepW 0x02 8 1 1 0 0) id id, .leaf0, 3, .selfCheck, 6, stepW 0x02 8 1 1 0 0, 0x02, true, true, .stepAdd .leaf0 3 .selfCheck, by
      unfold Leaf.StepAt StepRow; decide +kernel⟩
theorem witness_FabricListsAndServicesTakeEffect_4 : ∃ (s : State) (l : LeafId) (t : Tile) (k w : Nat) (a : Int), (s.leaf l).StepAt t.val k w ∧ stepOp
    w = 0x19 ∧ (s.leaf l).opndVal ((s.leaf l).tile t.val) k (stepA w) = some a ∧ 4 ≤ ((s.leaf l).tile (stepDst w / 16 % 256)).chanHeld (stepDst w % 8)
    :=
    ⟨tileLeaf 9 (stepW 0x19 0x35 1 0 0 0) (fun x => { x with flight := [(5, ⟨0, 1⟩), (5, ⟨0, 1⟩), (5, ⟨0, 1⟩), (5, ⟨0, 1⟩)] }) id, .leaf0, 3, 6, stepW
      0x19 0x35 1 0 0 0, 5, by unfold Leaf.StepAt; decide +kernel⟩
theorem witness_FabricListsAndServicesTakeEffect_5 : ∃ (s : State) (l : LeafId) (t : Tile) (k w : Nat), (s.leaf l).StepAt t.val k w ∧ stepOp w = 0x1A
    ∧ ((s.leaf l).tile t.val).chanOf (stepMod w % 8) = [] :=
    ⟨tileLeaf 9 (stepW 0x1A 8 0 0 0 5) id id, .leaf0, 3, 6, stepW 0x1A 8 0 0 0 5, by unfold Leaf.StepAt; decide +kernel⟩
theorem witness_FabricListsAndServicesTakeEffect_6 : ∃ (s : State) (l : LeafId) (t : Tile) (j : Nat), ((s.leaf l).tile t.val).used = true ∧ ((s.leaf
    l).tile t.val).run = none ∧ (s.leaf l).is FAB_STATUS_RUN = true ∧ (s.leaf l).fab.fdDone = some j ∧ ((s.leaf l).tile t.val).late = false ∧ ((∀ i,
    ((s.leaf l).tile t.val).lastDone = some i → i ≤ j)) ∧ (s.leaf l).key.runFrom ≤ j + 1 :=
    ⟨tileLeaf 9 0 (fun x => { x with run := none, lastDone := some 5 }) (fun d => { d with fab := { d.fab with fdDone := some 6 } }.wr FAB_STATUS_RUN
      1), .leaf0, 3, 6, by decide +kernel⟩
theorem witness_FabricListsAndServicesTakeEffect_7 : ∃ (s : State) (l : LeafId) (t : Tile) (i j : Nat), ((s.leaf l).tile t.val).used = true ∧ ((s.leaf
    l).tile t.val).run = none ∧ (s.leaf l).is FAB_STATUS_RUN = true ∧ (s.leaf l).fab.fdDone = some j ∧ ((s.leaf l).tile t.val).late = true ∧ ((s.leaf
    l).tile t.val).lastDone = some i ∧ i ≤ j ∧ (s.leaf l).key.runFrom ≤ i + 1 :=
    ⟨tileLeaf 9 0 (fun x => { x with run := none, lastDone := some 5, late := true }) (fun d =>
      { d with fab := { d.fab with fdDone := some 6, delivered := some 6 } }.wr FAB_STATUS_RUN 1), .leaf0, 3, 5, 6, by decide +kernel⟩
theorem witness_FabricListsAndServicesTakeEffect_8 : ∃ (s : State) (l : LeafId) (t : Tile) (k : Nat), ((s.leaf l).tile t.val).run = some k ∧ k + 2 ≤
    (s.leaf l).tim.cyc :=
    ⟨tileLeaf 9 0 id (fun d => { d with tim := { d.tim with cyc := 8 } }), .leaf0, 3, 6, by decide +kernel⟩
theorem witness_FabricListsAndServicesTakeEffect_9 : ∃ (s : State) (l : LeafId) (t : Tile) (ch : Fin 8) (p q : List (Nat × ChanEnt)) (v : ChanEnt),
    ((s.leaf l).tile t.val).flight = p ++ (ch.val, v) :: q ∧ ((∀ x ∈ p, x.1 ≠ ch.val)) :=
    ⟨tileLeaf 9 0 (fun x => { x with flight := [(2, ⟨0, 1⟩), (5, ⟨1, 3⟩), (5, ⟨1, 3⟩)] }) id, .leaf0, 3, 5, [(2, ⟨0, 1⟩)], [(5, ⟨1, 3⟩)], ⟨1, 3⟩, by
      decide +kernel⟩
theorem witness_FabricListsAndServicesTakeEffect_10 : ∃ (s : State) (l : LeafId) (a : Arm) (t : Tile) (q : CtReq), (s.leaf l).tiles = [(t.val, (s.leaf
    l).tile t.val)] ∧ ((s.leaf l).tile t.val).reqs = [q] ∧ q.ofArm a.val = true ∧ q.cycle ≤ (s.leaf l).pubCycle ∧ q.store = false :=
    ⟨tileLeaf 9 0 (fun x => { x with reqs := [⟨6, false, 3, 0, 2⟩] }) (fun d => { d with tim := { d.tim with cyc := 8 } }), .leaf0, 0, 3, ⟨6, false,
      3, 0, 2⟩, by decide +kernel⟩
theorem witness_FabricListsAndServicesTakeEffect_11 : ∃ (s : State) (l : LeafId) (a : Arm) (t : Tile) (q : CtReq), (s.leaf l).tiles = [(t.val, (s.leaf
    l).tile t.val)] ∧ ((s.leaf l).tile t.val).reqs = [q] ∧ q.ofArm a.val = true ∧ q.cycle ≤ (s.leaf l).pubCycle ∧ q.store = true :=
    ⟨tileLeaf 9 0 (fun x => { x with reqs := [⟨6, true, 3, 5, 0x70008⟩] }) (fun d => { d with tim := { d.tim with cyc := 8 } }), .leaf0, 0, 3, ⟨6,
      true, 3, 5, 0x70008⟩, by decide +kernel⟩
theorem witness_FabricListsAndServicesTakeEffect_12 : ∃ (s : State) (l : LeafId) (u : Fin 12), (s.leaf l).rd FAB_MWu_CTL_ALARM_P u.val ≤ ((s.leaf
    l).mwOf u.val).aRun ∧ ((s.leaf l).mwOf u.val).alarmed = false :=
    ⟨keyedLeaf fun d => d.setMw 2 { aRun := 32 }, .leaf0, 2, by decide +kernel⟩
theorem witness_FabricListsAndServicesTakeEffect_13 : ∃ (s : State) (l : LeafId) (u : Fin 12), (s.leaf l).rd FAB_MWu_CTL_TRIP_P u.val ≤ ((s.leaf
    l).mwOf u.val).tRun ∧ ((s.leaf l).mwOf u.val).tripped = false :=
    ⟨keyedLeaf fun d => d.setMw 2 { tRun := 8 }, .leaf0, 2, by decide +kernel⟩
theorem witness_FabricListsAndServicesTakeEffect_14 : ∃ (s : State) (l : LeafId) (t : Tile) (m : FabMem) (a : Nat), ((s.leaf l).tile t.val).used =
    true ∧ a < fabMemWords m :=
    ⟨tileLeaf 9 0 id id, .leaf0, 3, .coeff, 511, by decide +kernel⟩
theorem witness_FabricListsAndServicesTakeEffect_15 : ∃ (s : State) (l : LeafId) (t : Nat), (s.leaf l).is FAB_CFG_STEST_EN = true ∧ (s.leaf
    l).spareFrom ((s.leaf l).rd FAB_STEST_TILE) = some t :=
    ⟨tileLeaf 9 0 id (fun d => d.wr FAB_CFG_STEST_EN 1), .leaf0, 0, by decide +kernel⟩
theorem witness_FabricListsAndServicesTakeEffect_16 : ∃ (s : State) (l : LeafId) (t : Nat), (s.leaf l).is FAB_CFG_STEST_EN = true ∧ (s.leaf
    l).spareFrom ((s.leaf l).rd FAB_STEST_TILE) = some t ∧ (s.leaf l).is TILE_STATUS_FAILED t = false :=
    ⟨tileLeaf 9 0 id (fun d => d.wr FAB_CFG_STEST_EN 1), .leaf0, 0, by decide +kernel⟩
theorem witness_FabricListsAndServicesTakeEffect_18 : ∃ (s : State) (l : LeafId), (s.leaf l).writable = true :=
    ⟨tileLeaf 9 0 id (fun d => d.wr TILE_SP_ADDR_ADDR 17 3), .leaf0, by decide +kernel⟩
theorem witness_FabricListsAndServicesTakeEffect_19 : ∃ (s : State) (l : LeafId), (s.leaf l).writable = true :=
    ⟨tileLeaf 9 0 id id, .leaf0, by decide +kernel⟩
theorem witness_CoreCommandsTakeEffect_1 : ∃ (s : State) (l : LeafId) (p : Fin 4) (v : Word) (t : Nat), (s.leaf l).pairRuns p.val = true ∧ t = bits
    v.toNat 23 16 :=
    ⟨coreLeaf id, .leaf0, 0, 0x10050000, 5, by decide +kernel⟩
theorem witness_CoreCommandsTakeEffect_2 : ∃ (s : State) (l : LeafId) (p : Fin 4) (v : Word) (t : Nat), (s.leaf l).pairRuns p.val = true ∧ t = bits
    v.toNat 23 16 :=
    ⟨coreLeaf id, .leaf0, 0, 0x20040000, 4, by decide +kernel⟩
theorem witness_CoreCommandsTakeEffect_3 : ∃ (s : State) (l : LeafId) (p : Fin 4) (v : Word) (t : Nat), (s.leaf l).pairRuns p.val = true ∧ t = bits
    v.toNat 23 16 :=
    ⟨coreLeaf id, .leaf0, 1, 0x30040000, 4, by decide +kernel⟩
theorem witness_CoreCommandsTakeEffect_4 : ∃ (s : State) (l : LeafId) (p : Fin 4) (v : Word) (t : Nat), (s.leaf l).pairRuns p.val = true ∧ t = bits
    v.toNat 23 16 :=
    ⟨coreLeaf id, .leaf0, 0, 0x4003001F, 3, by decide +kernel⟩
theorem witness_CoreCommandsTakeEffect_5 : ∃ (s : State) (l : LeafId) (p : Fin 4) (v : Word) (t : Nat), (s.leaf l).pairRuns p.val = true ∧ t = bits
    v.toNat 23 16 :=
    ⟨coreLeaf id, .leaf0, 0, 0x50040001, 4, by decide +kernel⟩
theorem witness_CoreCommandsTakeEffect_6 : ∃ (s : State) (l : LeafId) (p : Fin 4) (v : Word) (t : Nat), (s.leaf l).pairRuns p.val = true ∧ t = bits
    v.toNat 23 16 :=
    ⟨coreLeaf id, .leaf0, 0, 0x60060F04, 6, by decide +kernel⟩
theorem witness_CoreCommandsTakeEffect_7 : ∃ (s : State) (l : LeafId) (p : Fin 4) (v : Word) (t : Nat), (s.leaf l).pairRuns p.val = true ∧ t = bits
    v.toNat 23 16 :=
    ⟨coreLeaf id, .leaf0, 0, 0x70040000, 4, by decide +kernel⟩
theorem witness_CoreCommandsTakeEffect_8 : ∃ (s : State) (l : LeafId) (p : Fin 4) (v : Word) (t : Nat), (s.leaf l).pairRuns p.val = true ∧ t = bits
    v.toNat 23 16 :=
    ⟨coreLeaf id, .leaf0, 1, 0x80040000, 4, by decide +kernel⟩
theorem witness_CoreCommandsTakeEffect_9 : ∃ (s : State) (l : LeafId) (p : Fin 4) (v : Word) (i : Instr), (s.leaf l).pairRuns p.val = false ∧ i ∈
    [.coreOpReady l p v, .coreOpBlock l p v, .coreOpYield l p v, .coreOpSetPrio l p v, .coreOpSetAff l p v, .coreOpStart l p v, .coreOpStop l p v,
    .coreOpSwitched l p v, .coreMsix l p v, .coreRelease l p v] :=
    ⟨State.reset, .leaf0, 1, 0x10050000, .coreOpReady .leaf0 1 0x10050000, by decide +kernel⟩
theorem witness_CoreCommandsTakeEffect_12 : ∃ (s : State) (l : LeafId), (s.leaf l).pairRuns 0 = true :=
    ⟨coreLeaf (fun d => { d with sch := { d.sch with released := 2 } }), .leaf0, by decide +kernel⟩
theorem witness_CoreCommandsTakeEffect_13 : ∃ (p : Fin 4), p.val ≠ 0 :=
    ⟨1, by decide +kernel⟩
theorem witness_CoreCommandsTakeEffect_15 : ∃ (s : State) (l : LeafId) (p : Fin 4), (s.leaf l).alive p.val = true :=
    ⟨coreLeaf id, .leaf0, 1, by decide +kernel⟩
theorem witness_CoreCommandsTakeEffect_16 : ∃ (s : State) (l : LeafId) (p : Fin 4), (s.leaf l).alive p.val = false :=
    ⟨coreLeaf (fun d => d.wr SCH_PAIRS_ALIVE 13), .leaf0, 1, by decide +kernel⟩
theorem witness_CoreCommandsTakeEffect_17 : ∃ (s : State) (l : LeafId), ((s.leaf l).active && (s.leaf l).is HNG_STATUS_PARTNER_STANDING && !(s.leaf
    l).is FLT_STATUS_DEADBOLT) = false :=
    ⟨coreLeaf id, .leaf0, by decide +kernel⟩
theorem witness_CoreCommandsTakeEffect_18 : ∃ (s : State) (l : LeafId), (s.leaf l).active = true ∧ (s.leaf l).is HNG_STATUS_PARTNER_STANDING = true ∧
    (s.leaf l).is FLT_STATUS_DEADBOLT = false :=
    ⟨coreLeaf (fun d => d.wr HNG_STATUS_PARTNER_STANDING 1), .leaf0, by decide +kernel⟩
theorem witness_CoreMsixFiresItsVector_1 : ∃ (s : State) (l : LeafId) (p : Fin 4), (s.leaf l).pairRuns p.val = true :=
    ⟨coreLeaf id, .leaf0, 0, by decide +kernel⟩
theorem witness_SchedulerDecisionPicksThePair_1 : ∃ (d : Leaf) (p t : Nat), d.cand p = some t :=
    ⟨schLeaf id, 0, 3, by decide +kernel⟩
theorem witness_SchedulerDecisionPicksThePair_2 : ∃ (d : Leaf) (p : Nat), d.cand p = none :=
    ⟨schLeaf (fun d => { d with sch := { d.sch with lists := [] } }), 0, by decide +kernel⟩
theorem witness_SchedulerDecisionPicksThePair_3 : ∃ (d : Leaf) (p t : Nat), d.nextPair = some (p, t) :=
    ⟨schLeaf id, 0, 3, by decide +kernel⟩
theorem witness_SchedulerDecisionPicksThePair_4 : ∃ (d : Leaf), d.nextPair = none :=
    ⟨schLeaf (fun d => { d with sch := { d.sch with lists := [] } }), by decide +kernel⟩
theorem witness_SchedulerDecisionPicksThePair_5 : ∃ (d : Leaf) (p t : Nat), p < 4 ∧ d.onPair p ≠ some t :=
    ⟨schLeaf id, 1, 3, by decide +kernel⟩
theorem witness_StepRunsTheFrontCommand_1 : ∃ (s : State) (c : Instr) (r : List Instr), s.pending = c :: r :=
    ⟨{ State.reset with pending := [.cycleStart .leaf0, .doorbell .leaf1 5] }, .cycleStart .leaf0, [.doorbell .leaf1 5], by decide +kernel⟩
theorem witness_IdleStepCountsTheClock_1 : ∃ (s : State), s.pending = [] :=
    ⟨State.reset, by decide +kernel⟩
theorem witness_EveryStepKeepsTheParts_1 : ∃ (s t : State), s.partsOk = true ∧ step s = .next t :=
    ⟨{ State.reset with concs := [(47, { fw := { up := true } })] }, { State.reset with concs := [(47, { fw := { up := true } })] }.tick, by
      exact ⟨by decide +kernel, rfl⟩⟩

end Sys2Proof.Tests
end

section
/-! PROOFS. The scope chapter (00_scope.md): what registers of absent units answer. -/

namespace Sys2Proof.Machine

/-! ## Absent units of a leaf (R5, R6, R11) -/

/-- A cell-table entry at a position beyond the variant's limit is an absent unit (R11). -/
theorem Leaf.absentAt_of_beyond_armLimit {d : Leaf} {off : Nat} (hlo : 0x400000 ≤ off) (hhi : off < 0x460000)
    (hlim : d.armLimit ≤ (off - 0x400000) / 32 % 2048) : d.absentAt off = true := by
  simp [Leaf.absentAt, hlo, hhi, hlim]

theorem Leaf.word_of_absentAt {d : Leaf} {off : Nat} (h : d.absentAt off = true) : d.word off = 0 := by
  simp [Leaf.word, h]

theorem Leaf.writeAt_of_absentAt {d : Leaf} {off : Nat} (h : d.absentAt off = true) (ag : Agent) (v : Word) :
    d.writeAt ag off v = d := by
  simp [Leaf.writeAt, h]

/-- A slot that no arm maps takes no write of its control half, whatever the leaf's state and the word. -/
theorem Leaf.controlHalfWrite_of_not_slotMapped {d : Leaf} {slot : Nat} (h : d.slotMapped slot = false) (w v : Nat) :
    d.controlHalfWrite slot w v = d := by
  simp [Leaf.controlHalfWrite, h]

/-- Settles O6: the read and the write of BAR0 both stop at an absent unit, and the control half of a slot that is not mapped takes no
write. -/
theorem absentCellTableEntries : Obligations.AbsentCellTableEntries := by
  unfold Obligations.AbsentCellTableEntries
  constructor
  · intro d off hlo hhi hlim
    have habsent : d.absentAt off = true := Leaf.absentAt_of_beyond_armLimit hlo hhi hlim
    exact ⟨Leaf.word_of_absentAt habsent, Leaf.writeAt_of_absentAt habsent⟩
  · intro s l slot w v _ hunmapped
    exact LeafDoes.of (Leaf.controlHalfWrite slot.val w v.toNat) rfl (Leaf.controlHalfWrite_of_not_slotMapped hunmapped w v.toNat)

end Sys2Proof.Machine
end

section
/-! PROOFS. The control fabric (05_control_fabric.md): the steps of a tile that write one result. -/

namespace Sys2Proof.Machine
open Reg

/-! ## Tiles of a leaf -/

@[simp] theorem Leaf.tile_setTile_same (d : Leaf) (t : Nat) (x : TileSt) : (d.setTile t x).tile t = x := SMap.get_put_same _ _ _ _

theorem Leaf.tile_setTile_ne (d : Leaf) {t i : Nat} (x : TileSt) (h : i ≠ t) : (d.setTile t x).tile i = d.tile i :=
  SMap.get_put_ne _ _ _ _ _ h

@[simp] theorem Leaf.rd_setTile (d : Leaf) (t : Nat) (x : TileSt) (g : Fld) (j : Nat) : (d.setTile t x).rd g j = d.rd g j := rfl

/-! ## What a step may touch of the leaf -/

theorem Leaf.Keeps.refl (ks : List Nat) (d : Leaf) : Leaf.Keeps ks d d := fun _ _ _ => rfl

theorem Leaf.Keeps.trans {ks : List Nat} {d e r : Leaf} (h : Leaf.Keeps ks d e) (h' : Leaf.Keeps ks e r) : Leaf.Keeps ks d r :=
  fun g j hg => (h' g j hg).trans (h g j hg)

theorem Leaf.Keeps.mono_left {ks ks' fs : List Nat} {d e : Leaf} (h : Leaf.Keeps (ks ++ fs) d e) (hs : ks ⊆ ks') :
    Leaf.Keeps (ks' ++ fs) d e :=
  fun g j hg => h g j fun hk => hg (List.mem_append.2 ((List.mem_append.1 hk).imp_left (hs ·)))

theorem Leaf.keeps_setTile (ks : List Nat) (d : Leaf) (t : Nat) (x : TileSt) : Leaf.Keeps ks d (d.setTile t x) := fun _ _ _ => rfl

/-- Outside the register bank, the tiles and the list times, only what a fault changes may differ. -/
def Leaf.StepFrame (d e : Leaf) : Prop :=
  ∃ bank tiles loads flt conv out,
    e = { d with bank := bank, tiles := tiles, fab := { d.fab with loads := loads }, flt := flt, conv := conv, out := out }

theorem Leaf.StepFrame.refl (d : Leaf) : d.StepFrame d := ⟨_, _, _, _, _, _, rfl⟩

theorem Leaf.StepFrame.trans {d e r : Leaf} (h : d.StepFrame e) (h' : e.StepFrame r) : d.StepFrame r := by
  obtain ⟨_, _, _, _, _, _, rfl⟩ := h
  obtain ⟨_, _, _, _, _, _, rfl⟩ := h'
  exact ⟨_, _, _, _, _, _, rfl⟩

theorem Leaf.StepFrame.eq {d e : Leaf} (h : d.StepFrame e) :
    e = { d with bank := e.bank, tiles := e.tiles, fab := e.fab, flt := e.flt, conv := e.conv, out := e.out } := by
  obtain ⟨_, _, _, _, _, _, rfl⟩ := h
  rfl

theorem Leaf.StepFrame.fab {d e : Leaf} (h : d.StepFrame e) : e.fab = { d.fab with loads := e.fab.loads } := by
  obtain ⟨_, _, _, _, _, _, rfl⟩ := h
  rfl

theorem Leaf.stepFrame_wr (d : Leaf) (f : Fld) (v i : Nat) : d.StepFrame (d.wr f v i) := ⟨_, _, _, _, _, _, rfl⟩

theorem Leaf.stepFrame_setTile (d : Leaf) (t : Nat) (x : TileSt) : d.StepFrame (d.setTile t x) := ⟨_, _, _, _, _, _, rfl⟩

theorem Leaf.stepFrame_raise (d : Leaf) (code : Nat) (cls : FaultClass) (inst cause detail : Nat) :
    d.StepFrame (d.raise code cls inst cause detail) := ⟨_, _, _, _, _, _, d.raise_frame code cls inst cause detail⟩

/-! ## The sticky flags (R178, R179) -/

/-- The four sticky flags of a tile. -/
def stickyFlags : List Fld := flagRoutes.map (·.1)

/-- The fields that record the step of the first flag. -/
def flagStepKeys (t : Nat) : List Nat := [TILE_FLAG_STEP_CYCLE.key t, TILE_FLAG_STEP_STEP.key t, TILE_FLAG_STEP_VALID.key t]

/-- The fields that a rising flag can change, the fault apart. -/
def flagKeys (t : Nat) : List Nat := stickyFlags.map (·.key t) ++ flagStepKeys t

theorem stickyFlag_width {f : Fld} (hf : f ∈ stickyFlags) : f.w = 1 := by
  revert f
  decide

/-- The registers of the tiles lie below those that a fault changes. -/
theorem tileKey_not_mem_faultKeys {f : Fld} {t : Nat} (ht : t < 256) (hoff : f.off < 0x101000) (hstride : f.stride = 4096)
    (hlo : f.lo < 32) : f.key t ∉ faultKeys := by
  have habove : ∀ k ∈ faultKeys, 0x270000 * 32 ≤ k := by decide
  intro hmem
  have := habove _ hmem
  simp only [Fld.key, hstride] at this
  omega

theorem stickyFlag_key_not_mem_faultKeys {f : Fld} (hf : f ∈ stickyFlags) {t : Nat} (ht : t < 256) : f.key t ∉ faultKeys := by
  have hplace : ∀ g ∈ stickyFlags, g.off < 0x101000 ∧ g.stride = 4096 ∧ g.lo < 32 := by decide
  obtain ⟨hoff, hstride, hlo⟩ := hplace f hf
  exact tileKey_not_mem_faultKeys ht hoff hstride hlo

theorem flagStepKeys_not_mem_faultKeys {t : Nat} (ht : t < 256) : ∀ k ∈ flagStepKeys t, k ∉ faultKeys := by
  simp only [flagStepKeys, List.forall_mem_cons, List.not_mem_nil, false_implies, implies_true, and_true]
  exact ⟨tileKey_not_mem_faultKeys ht (by decide) rfl (by decide), tileKey_not_mem_faultKeys ht (by decide) rfl (by decide),
    tileKey_not_mem_faultKeys ht (by decide) rfl (by decide)⟩

/-- Two fields of one copy of a register differ in their keys as they differ in copy 0. -/
theorem Fld.key_ne_of_stride_eq {f g : Fld} (hs : f.stride = g.stride) (h : f.key 0 ≠ g.key 0) (t : Nat) : f.key t ≠ g.key t := by
  simp only [Fld.key, hs] at h ⊢
  omega

theorem stickyFlag_key_ne {f g : Fld} (hf : f ∈ stickyFlags) (hg : g ∈ stickyFlags) (hne : f ≠ g) (t : Nat) : f.key t ≠ g.key t := by
  have hplace : ∀ f ∈ stickyFlags, ∀ g ∈ stickyFlags, f ≠ g → f.stride = g.stride ∧ f.key 0 ≠ g.key 0 := by decide
  obtain ⟨hs, hk⟩ := hplace f hf g hg hne
  exact Fld.key_ne_of_stride_eq hs hk t

theorem stickyFlag_key_not_mem_flagStepKeys {f : Fld} (hf : f ∈ stickyFlags) (t : Nat) : f.key t ∉ flagStepKeys t := by
  have hplace : ∀ f ∈ stickyFlags, ∀ g ∈ [TILE_FLAG_STEP_CYCLE, TILE_FLAG_STEP_STEP, TILE_FLAG_STEP_VALID],
      f.stride = g.stride ∧ f.key 0 ≠ g.key 0 := by decide
  simp only [flagStepKeys, List.mem_cons, List.not_mem_nil, or_false, not_or]
  have hne : ∀ g ∈ [TILE_FLAG_STEP_CYCLE, TILE_FLAG_STEP_STEP, TILE_FLAG_STEP_VALID], f.key t ≠ g.key t := fun g hg =>
    Fld.key_ne_of_stride_eq (hplace f hf g hg).1 (hplace f hf g hg).2 t
  exact ⟨hne _ (by simp), hne _ (by simp), hne _ (by simp)⟩

/-- The record of the step that sets the first flag. -/
def Leaf.recordFlagStep (d : Leaf) (t k pc : Nat) : Leaf :=
  ((d.wr TILE_FLAG_STEP_CYCLE k t).wr TILE_FLAG_STEP_STEP pc t).wr TILE_FLAG_STEP_VALID 1 t

/-- The leaf with a rising flag set, before the fault it raises. -/
def Leaf.flagged (d : Leaf) (t k pc : Nat) (flag : Fld) : Leaf :=
  (if flagRoutes.all fun r => !d.is r.1 t then d.recordFlagStep t k pc else d).wr flag 1 t

/-- A flag that is set stays as it is; a clear one rises, and may raise a fault. -/
theorem Leaf.setFlag_cases (d : Leaf) (t k pc : Nat) (flag : Fld) :
    (d.is flag t = true ∧ d.setFlag t k pc flag = d) ∨
    (d.is flag t = false ∧ d.setFlag t k pc flag = d.flagged t k pc flag) ∨
    (d.is flag t = false ∧ ∃ code cls, d.setFlag t k pc flag = (d.flagged t k pc flag).raise code cls t) := by
  unfold Leaf.setFlag
  split
  case isTrue h => exact .inl ⟨h, rfl⟩
  case isFalse h =>
    rw [Bool.not_eq_true] at h
    dsimp only
    split
    · split
      · exact .inr (.inr ⟨h, _, _, rfl⟩)
      · exact .inr (.inl ⟨h, rfl⟩)
    · exact .inr (.inl ⟨h, rfl⟩)

theorem Leaf.stepFrame_recordFlagStep (d : Leaf) (t k pc : Nat) : d.StepFrame (d.recordFlagStep t k pc) := ⟨_, _, _, _, _, _, rfl⟩

theorem Leaf.stepFrame_flagged (d : Leaf) (t k pc : Nat) (flag : Fld) : d.StepFrame (d.flagged t k pc flag) := by
  unfold Leaf.flagged
  split
  · exact (d.stepFrame_recordFlagStep t k pc).trans (Leaf.stepFrame_wr _ _ _ _)
  · exact d.stepFrame_wr _ _ _

theorem Leaf.stepFrame_setFlag (d : Leaf) (t k pc : Nat) (flag : Fld) : d.StepFrame (d.setFlag t k pc flag) := by
  rcases d.setFlag_cases t k pc flag with ⟨-, h⟩ | ⟨-, h⟩ | ⟨-, code, cls, h⟩ <;> rw [h]
  · exact .refl d
  · exact d.stepFrame_flagged t k pc flag
  · exact (d.stepFrame_flagged t k pc flag).trans (Leaf.stepFrame_raise _ _ _ _ _ _)

@[simp] theorem Leaf.flagged_tiles (d : Leaf) (t k pc : Nat) (flag : Fld) : (d.flagged t k pc flag).tiles = d.tiles := by
  unfold Leaf.flagged
  split <;> rfl

@[simp] theorem Leaf.setFlag_tiles (d : Leaf) (t k pc : Nat) (flag : Fld) : (d.setFlag t k pc flag).tiles = d.tiles := by
  rcases d.setFlag_cases t k pc flag with ⟨-, h⟩ | ⟨-, h⟩ | ⟨-, code, cls, h⟩ <;> rw [h] <;> simp

theorem Leaf.rd_recordFlagStep_of_not_mem (d : Leaf) {t k pc : Nat} {g : Fld} {j : Nat} (h : g.key j ∉ flagStepKeys t) :
    (d.recordFlagStep t k pc).rd g j = d.rd g j := by
  simp only [flagStepKeys, List.mem_cons, List.not_mem_nil, or_false, not_or] at h
  obtain ⟨hcycle, hstep, hvalid⟩ := h
  unfold Leaf.recordFlagStep
  rw [Leaf.rd_wr_ne _ _ _ _ _ _ hvalid, Leaf.rd_wr_ne _ _ _ _ _ _ hstep, Leaf.rd_wr_ne _ _ _ _ _ _ hcycle]

theorem Leaf.rd_flagged_of_not_mem (d : Leaf) {t k pc : Nat} {flag g : Fld} {j : Nat} (hne : g.key j ≠ flag.key t)
    (h : g.key j ∉ flagStepKeys t) : (d.flagged t k pc flag).rd g j = d.rd g j := by
  unfold Leaf.flagged
  rw [Leaf.rd_wr_ne _ _ _ _ _ _ hne]
  split
  · exact d.rd_recordFlagStep_of_not_mem h
  · rfl

/-- Besides its flag, a rising flag changes the record of its step and what a fault changes. -/
theorem Leaf.rd_setFlag_of_not_mem (d : Leaf) {t k pc : Nat} {flag g : Fld} {j : Nat} (hne : g.key j ≠ flag.key t)
    (hstep : g.key j ∉ flagStepKeys t) (hfault : g.key j ∉ faultKeys) : (d.setFlag t k pc flag).rd g j = d.rd g j := by
  rcases d.setFlag_cases t k pc flag with ⟨-, h⟩ | ⟨-, h⟩ | ⟨-, code, cls, h⟩ <;> rw [h]
  · exact d.rd_flagged_of_not_mem hne hstep
  · rw [Leaf.rd_raise _ _ _ _ _ _ _ _ hfault, d.rd_flagged_of_not_mem hne hstep]

/-- R178: a flag that a step sets is set afterwards. -/
theorem Leaf.is_setFlag_same (d : Leaf) {t : Nat} (ht : t < 256) (k pc : Nat) {flag : Fld} (hf : flag ∈ stickyFlags) :
    (d.setFlag t k pc flag).is flag t = true := by
  have hset : (d.flagged t k pc flag).is flag t = true := by
    simp [Leaf.is, Leaf.flagged, stickyFlag_width hf]
  rcases d.setFlag_cases t k pc flag with ⟨h1, h⟩ | ⟨-, h⟩ | ⟨-, code, cls, h⟩ <;> rw [h]
  · exact h1
  · exact hset
  · rwa [Leaf.is, Leaf.rd_raise _ _ _ _ _ _ _ _ (stickyFlag_key_not_mem_faultKeys hf ht)]

/-- The first flag of a tile records its step (R179). -/
theorem Leaf.rd_setFlag_flagStep (d : Leaf) {t : Nat} (ht : t < 256) (k pc : Nat) {flag : Fld} (hf : flag ∈ stickyFlags)
    (hclear : ∀ r ∈ flagRoutes, d.is r.1 t = false) {g : Fld} (hg : g.key t ∈ flagStepKeys t) :
    (d.setFlag t k pc flag).rd g t = (d.recordFlagStep t k pc).rd g t := by
  have hfault : g.key t ∉ faultKeys := flagStepKeys_not_mem_faultKeys ht _ hg
  have hne : g.key t ≠ flag.key t := fun h => stickyFlag_key_not_mem_flagStepKeys hf t (h ▸ hg)
  have hrecorded : (d.flagged t k pc flag).rd g t = (d.recordFlagStep t k pc).rd g t := by
    unfold Leaf.flagged
    rw [Leaf.rd_wr_ne _ _ _ _ _ _ hne, if_pos]
    simpa using hclear
  rcases d.setFlag_cases t k pc flag with ⟨h1, -⟩ | ⟨-, h⟩ | ⟨-, code, cls, h⟩
  · obtain ⟨r, hr, rfl⟩ := List.mem_map.mp hf
    exact absurd h1 (by simp [hclear r hr])
  · rw [h, hrecorded]
  · rw [h, Leaf.rd_raise _ _ _ _ _ _ _ _ hfault, hrecorded]

theorem Leaf.rd_recordFlagStep_valid (d : Leaf) (t k pc : Nat) : (d.recordFlagStep t k pc).rd TILE_FLAG_STEP_VALID t = 1 :=
  Leaf.rd_wr_same _ _ _ _

theorem Leaf.rd_recordFlagStep_step (d : Leaf) (t k pc : Nat) : (d.recordFlagStep t k pc).rd TILE_FLAG_STEP_STEP t = pc % 512 := by
  have hvalid : TILE_FLAG_STEP_STEP.key t ≠ TILE_FLAG_STEP_VALID.key t :=
    Fld.key_ne_of_stride_eq (f := TILE_FLAG_STEP_STEP) (g := TILE_FLAG_STEP_VALID) rfl (by decide) t
  unfold Leaf.recordFlagStep
  rw [Leaf.rd_wr_ne _ _ _ _ _ _ hvalid]
  exact Leaf.rd_wr_same _ _ _ _

theorem Leaf.rd_recordFlagStep_cycle (d : Leaf) (t k pc : Nat) : (d.recordFlagStep t k pc).rd TILE_FLAG_STEP_CYCLE t = k % 65536 := by
  have hvalid : TILE_FLAG_STEP_CYCLE.key t ≠ TILE_FLAG_STEP_VALID.key t :=
    Fld.key_ne_of_stride_eq (f := TILE_FLAG_STEP_CYCLE) (g := TILE_FLAG_STEP_VALID) rfl (by decide) t
  have hstep : TILE_FLAG_STEP_CYCLE.key t ≠ TILE_FLAG_STEP_STEP.key t :=
    Fld.key_ne_of_stride_eq (f := TILE_FLAG_STEP_CYCLE) (g := TILE_FLAG_STEP_STEP) rfl (by decide) t
  unfold Leaf.recordFlagStep
  rw [Leaf.rd_wr_ne _ _ _ _ _ _ hvalid, Leaf.rd_wr_ne _ _ _ _ _ _ hstep]
  exact Leaf.rd_wr_same _ _ _ _

/-! ## What the body of a step does -/

/-- From `d` to `e` the body of a step changes its own tile by `f` and sets the sticky flags that `fl` names; flags are never cleared. -/
structure Leaf.BodyDone (d e : Leaf) (t : Nat) (f : TileSt → TileSt) (fl : Fld → Bool) : Prop where
  tile : e.tile t = f (d.tile t)
  others : ∀ i ≠ t, e.tile i = d.tile i
  keeps : Leaf.Keeps (flagKeys t ++ faultKeys) d e
  frame : d.StepFrame e
  flags : ∀ g ∈ stickyFlags, e.is g t = (d.is g t || fl g)

theorem Leaf.BodyDone.trans {d e r : Leaf} {t : Nat} {f f' : TileSt → TileSt} {fl fl' : Fld → Bool} (h : d.BodyDone e t f fl)
    (h' : e.BodyDone r t f' fl') : d.BodyDone r t (f' ∘ f) (fun g => fl g || fl' g) where
  tile := by rw [h'.tile, h.tile, Function.comp_apply]
  others i hi := (h'.others i hi).trans (h.others i hi)
  keeps := h.keeps.trans h'.keeps
  frame := h.frame.trans h'.frame
  flags g hg := by rw [h'.flags g hg, h.flags g hg, Bool.or_assoc]

theorem Leaf.bodyDone_refl (d : Leaf) (t : Nat) : d.BodyDone d t id fun _ => false where
  tile := rfl
  others _ _ := rfl
  keeps := .refl _ d
  frame := .refl d
  flags _ _ := (Bool.or_false _).symm

theorem Leaf.bodyDone_setTile (d : Leaf) (t : Nat) (f : TileSt → TileSt) :
    d.BodyDone (d.setTile t (f (d.tile t))) t f fun _ => false where
  tile := d.tile_setTile_same t _
  others _ hi := d.tile_setTile_ne _ hi
  keeps := d.keeps_setTile _ t _
  frame := d.stepFrame_setTile t _
  flags _ _ := (Bool.or_false _).symm

theorem Leaf.bodyDone_setFlag (d : Leaf) {t : Nat} (ht : t < 256) (k pc : Nat) {flag : Fld} (hf : flag ∈ stickyFlags) :
    d.BodyDone (d.setFlag t k pc flag) t id fun g => decide (g = flag) where
  tile := by simp only [Leaf.tile, Leaf.setFlag_tiles, id_eq]
  others i _ := by simp only [Leaf.tile, Leaf.setFlag_tiles]
  keeps g j h := by
    simp only [flagKeys, List.mem_append, not_or, List.mem_map, not_exists, not_and] at h
    obtain ⟨⟨hflags, hstep⟩, hfault⟩ := h
    exact d.rd_setFlag_of_not_mem (fun hk => hflags flag hf hk.symm) hstep hfault
  frame := d.stepFrame_setFlag t k pc flag
  flags g hg := by
    by_cases h : g = flag
    · subst h
      simp [d.is_setFlag_same ht k pc hf]
    · have hrd : (d.setFlag t k pc flag).rd g t = d.rd g t :=
        d.rd_setFlag_of_not_mem (stickyFlag_key_ne hg hf h t) (stickyFlag_key_not_mem_flagStepKeys hg t)
          (stickyFlag_key_not_mem_faultKeys hg ht)
      simp [Leaf.is, hrd, h]

theorem Leaf.bodyDone_flagIf (d : Leaf) {c : StepCtx} (ht : c.t < 256) (on : Bool) {flag : Fld} (hf : flag ∈ stickyFlags) :
    d.BodyDone (d.flagIf c on flag) c.t id fun g => on && decide (g = flag) := by
  cases on
  · exact d.bodyDone_refl c.t
  · simpa [Leaf.flagIf] using d.bodyDone_setFlag ht c.k c.pc hf

theorem Leaf.putReg_eq (d : Leaf) (c : StepCtx) (n : Nat) (v : Int) :
    d.putReg c n v = (d.setTile c.t ((d.tile c.t).setReg n v)).flagIf c (sat32 v).2 TILE_STATUS_SAT := rfl

theorem Leaf.putSp_eq (d : Leaf) (c : StepCtx) (a : Nat) (v : Int) :
    d.putSp c a v = (d.setTile c.t ((d.tile c.t).setSp a v)).flagIf c (sat32 v).2 TILE_STATUS_SAT := rfl

/-- The flags that writing `v` to the destination of a word sets (R176). -/
def dstFlags (w : Nat) (v : Int) (g : Fld) : Bool := dstOk w && (sat32 v).2 && decide (g = TILE_STATUS_SAT)

theorem Leaf.bodyDone_putDst (d : Leaf) {c : StepCtx} (ht : c.t < 256) (v : Int) :
    d.BodyDone (d.putDst c v) c.t (·.setDst c.w v) (dstFlags c.w v) := by
  have hwrite : ∀ f : TileSt → TileSt, d.BodyDone ((d.setTile c.t (f (d.tile c.t))).flagIf c (sat32 v).2 TILE_STATUS_SAT) c.t f
      fun g => (sat32 v).2 && decide (g = TILE_STATUS_SAT) := fun f =>
    (d.bodyDone_setTile c.t f).trans (Leaf.bodyDone_flagIf _ ht _ (by decide))
  unfold Leaf.putDst TileSt.setDst dstFlags dstOk
  cases opndOf (stepDst c.w) with
  | reg n => simpa [Leaf.putReg_eq] using hwrite (·.setReg n v)
  | sp a => simpa [Leaf.putSp_eq] using hwrite (·.setSp a v)
  | inw | mb | special | invalid => exact d.bodyDone_refl c.t

/-- The same after a flag of the operation. -/
theorem Leaf.bodyDone_flagIf_putDst (d : Leaf) {c : StepCtx} (ht : c.t < 256) (on : Bool) {flag : Fld} (hf : flag ∈ stickyFlags)
    (v : Int) :
    d.BodyDone ((d.flagIf c on flag).putDst c v) c.t (·.setDst c.w v) fun g => (on && decide (g = flag)) || dstFlags c.w v g :=
  (d.bodyDone_flagIf ht on hf).trans (Leaf.bodyDone_putDst _ ht v)

/-- A result of 32 bits sets no flag: the registers are as before. -/
theorem Leaf.rd_putDst_of_fits (d : Leaf) (c : StepCtx) {v : Int} (h : (sat32 v).2 = false) (g : Fld) (j : Nat) :
    (d.putDst c v).rd g j = d.rd g j := by
  unfold Leaf.putDst
  cases opndOf (stepDst c.w) <;> simp [Leaf.putReg_eq, Leaf.putSp_eq, Leaf.flagIf, h]

/-! ## The end of a step and of a list (R168, R172, R183) -/

/-- The fields that the end of a list can change, the fault apart. -/
def listEndKeys (t : Nat) : List Nat :=
  [TILE_TIME_LAST.key t, TILE_TIME_MAX.key t, TILE_ACC_LO_ACC.key t, TILE_ACC_HI_ACC.key t, FAB_LOAD_TILE.key 0, FAB_LOAD_MAX.key 0,
   TILE_STATUS_RESERVE.key t, FAB_STATUS_RESERVE.key 0]

theorem flagKeys_subset_stepKeys (t : Nat) : flagKeys t ⊆ stepKeys t := by
  simp [flagKeys, stickyFlags, flagRoutes, flagStepKeys, stepKeys]

theorem listEndKeys_subset_stepKeys (t : Nat) : listEndKeys t ⊆ stepKeys t := by
  simp [listEndKeys, stepKeys]

theorem Leaf.rd_noteLoad_of_not_mem (d : Leaf) {t k time : Nat} {g : Fld} {j : Nat} (hload : g.key j ≠ FAB_LOAD_TILE.key 0)
    (hmax : g.key j ≠ FAB_LOAD_MAX.key 0) : (d.noteLoad t k time).rd g j = d.rd g j := by
  unfold Leaf.noteLoad
  rw [Leaf.rd_wr_ne _ _ _ _ _ _ hmax, Leaf.rd_wr_ne _ _ _ _ _ _ hload]
  rfl

theorem Leaf.stepFrame_noteLoad (d : Leaf) (t k time : Nat) : d.StepFrame (d.noteLoad t k time) := ⟨_, _, _, _, _, _, rfl⟩

/-- The leaf with the list of tile `t` for cycle `k` ended and its time shown, before the reserve of R172 is judged. -/
def Leaf.listEnded (d : Leaf) (t k : Nat) : Leaf :=
  let x := d.tile t
  let d := d.setTile t { x with run := none, lastDone := some k }
  let d := (d.wr TILE_TIME_LAST x.spent t).wr TILE_TIME_MAX (max (d.rd TILE_TIME_MAX t) x.spent) t
  ((d.wr TILE_ACC_LO_ACC (pat 64 x.acc % 2 ^ 32) t).wr TILE_ACC_HI_ACC (pat 64 x.acc / 2 ^ 32) t).noteLoad t k x.spent

/-- A list that has used up its reserve is marked, and the first time raises a NOTE (R172). -/
theorem Leaf.endList_cases (d : Leaf) (t k : Nat) :
    d.endList t k = d.listEnded t k ∨ d.endList t k = ((d.listEnded t k).wr TILE_STATUS_RESERVE 1 t).wr FAB_STATUS_RESERVE 1 ∨
    d.endList t k = (((d.listEnded t k).wr TILE_STATUS_RESERVE 1 t).wr FAB_STATUS_RESERVE 1).raise 0x0401 .note t := by
  unfold Leaf.endList
  dsimp only
  split
  · split
    · exact .inr (.inl rfl)
    · exact .inr (.inr rfl)
  · exact .inl rfl

theorem Leaf.stepFrame_listEnded (d : Leaf) (t k : Nat) : d.StepFrame (d.listEnded t k) :=
  (((((d.stepFrame_setTile t _).trans (Leaf.stepFrame_wr _ _ _ _)).trans (Leaf.stepFrame_wr _ _ _ _)).trans
    (Leaf.stepFrame_wr _ _ _ _)).trans (Leaf.stepFrame_wr _ _ _ _)).trans (Leaf.stepFrame_noteLoad _ _ _ _)

theorem Leaf.stepFrame_endList (d : Leaf) (t k : Nat) : d.StepFrame (d.endList t k) := by
  rcases d.endList_cases t k with h | h | h <;> rw [h]
  · exact d.stepFrame_listEnded t k
  · exact ((d.stepFrame_listEnded t k).trans (Leaf.stepFrame_wr _ _ _ _)).trans (Leaf.stepFrame_wr _ _ _ _)
  · exact (((d.stepFrame_listEnded t k).trans (Leaf.stepFrame_wr _ _ _ _)).trans (Leaf.stepFrame_wr _ _ _ _)).trans
      (Leaf.stepFrame_raise _ _ _ _ _ _)

theorem Leaf.tile_endList (d : Leaf) (t k i : Nat) :
    (d.endList t k).tile i = (d.setTile t { d.tile t with run := none, lastDone := some k }).tile i := by
  have hended : (d.listEnded t k).tiles = (d.setTile t { d.tile t with run := none, lastDone := some k }).tiles := rfl
  rcases d.endList_cases t k with h | h | h <;> simp [Leaf.tile, h, hended]

theorem Leaf.keeps_endList (d : Leaf) (t k : Nat) : Leaf.Keeps (listEndKeys t ++ faultKeys) d (d.endList t k) := by
  intro g j hg
  simp only [listEndKeys, List.mem_append, List.mem_cons, List.not_mem_nil, or_false, not_or] at hg
  obtain ⟨⟨hlast, hmax, hlo, hhi, hload, hloadMax, hreserve, hfabReserve⟩, hfault⟩ := hg
  have hended : (d.listEnded t k).rd g j = d.rd g j := by
    unfold Leaf.listEnded
    dsimp only
    rw [Leaf.rd_noteLoad_of_not_mem _ hload hloadMax, Leaf.rd_wr_ne _ _ _ _ _ _ hhi, Leaf.rd_wr_ne _ _ _ _ _ _ hlo,
      Leaf.rd_wr_ne _ _ _ _ _ _ hmax, Leaf.rd_wr_ne _ _ _ _ _ _ hlast, Leaf.rd_setTile]
  have hmarked : (((d.listEnded t k).wr TILE_STATUS_RESERVE 1 t).wr FAB_STATUS_RESERVE 1).rd g j = d.rd g j := by
    rw [Leaf.rd_wr_ne _ _ _ _ _ _ hfabReserve, Leaf.rd_wr_ne _ _ _ _ _ _ hreserve, hended]
  rcases d.endList_cases t k with h | h | h <;> rw [h]
  · exact hended
  · exact hmarked
  · rw [Leaf.rd_raise _ _ _ _ _ _ _ _ hfault, hmarked]

/-- The tail of a step: the tile `x` of before moves on by `cost` cycles, and the list ends after its last step. -/
def Leaf.advance (e : Leaf) (t k cost : Nat) (x : TileSt) : Leaf :=
  let m := e.setTile t { e.tile t with pc := x.pc + 1, spent := x.spent + cost, spOld := (e.tile t).spOld.drop x.spOld.length }
  if m.rd TILE_LIST_STEPS t ≤ x.pc + 1 then m.endList t k else m

/-- A step whose operands have values and whose checks hold does what its body does, and moves on. -/
theorem Leaf.stepRun_eq_advance {d e : Leaf} {t op cost k w : Nat} {uses : Nat → Bool × Bool} {body : StepCtx → Leaf → Option Leaf}
    {a b : Int} (hat : d.StepAt t k w) (hop : stepOp w = op)
    (ha : (if (uses w).1 then d.opndVal (d.tile t) k (stepA w) else some 0) = some a)
    (hb : (if (uses w).2 then d.opndVal (d.tile t) k (stepB w) else some 0) = some b)
    (hbody : body ⟨t, k, (d.tile t).pc, w, a, b⟩ d = some e) :
    d.stepRun t .ok op cost uses body =
      e.advance t k (cost + b2n ((uses w).1 && (uses w).2 && twoWords (stepA w) (stepB w))) (d.tile t) := by
  obtain ⟨hrun, rfl⟩ := hat
  unfold Leaf.stepRun
  simp only [hrun, hop, ne_eq, not_true_eq_false, if_false, ha, hb, if_true, hbody, Leaf.stepCheck, Leaf.advance, Nat.add_assoc]

/-- `f` leaves alone what moves a tile on, and neither reads nor changes the scratchpad words that the step before wrote. -/
structure StepEffect (f : TileSt → TileSt) : Prop where
  run : ∀ x, (f x).run = x.run
  lastDone : ∀ x, (f x).lastDone = x.lastDone
  spOld : ∀ x, { f x with spOld := (f x).spOld.drop x.spOld.length } = f { x with spOld := [] }

theorem stepEffect_setDst (w : Nat) (v : Int) : StepEffect (·.setDst w v) where
  run x := by
    unfold TileSt.setDst
    cases opndOf (stepDst w) <;> rfl
  lastDone x := by
    unfold TileSt.setDst
    cases opndOf (stepDst w) <;> rfl
  spOld x := by
    unfold TileSt.setDst
    cases opndOf (stepDst w) with
    | reg n => simp [TileSt.setReg]
    | sp a => simp [TileSt.setSp]
    | inw | mb | special | invalid => simp

/-- A step that has run and set the sticky flags that `fl` names; flags are never cleared. -/
structure Leaf.StepSets (d e : Leaf) (t cost : Nat) (f : TileSt → TileSt) (fl : Fld → Bool) : Prop where
  ran : d.StepDone e t cost f
  flags : ∀ g ∈ stickyFlags, e.is g t = (d.is g t || fl g)

theorem stickyFlag_key_not_mem_listEndKeys {f : Fld} (hf : f ∈ stickyFlags) (t : Nat) : f.key t ∉ listEndKeys t := by
  have hplace : ∀ f ∈ stickyFlags, f.off = 0x100000 ∧ f.stride = 4096 ∧ f.lo < 4 := by decide
  obtain ⟨hoff, hstride, hlo⟩ := hplace f hf
  simp only [listEndKeys, List.mem_cons, List.not_mem_nil, or_false, not_or, Fld.key, hoff, hstride, TILE_TIME_LAST, TILE_TIME_MAX,
    TILE_ACC_LO_ACC, TILE_ACC_HI_ACC, FAB_LOAD_TILE, FAB_LOAD_MAX, TILE_STATUS_RESERVE, FAB_STATUS_RESERVE]
  omega

theorem listSteps_key_not_mem_stepKeys (t : Nat) : TILE_LIST_STEPS.key t ∉ stepKeys t := by
  simp only [stepKeys, List.mem_cons, List.not_mem_nil, or_false, not_or, Fld.key, TILE_LIST_STEPS, TILE_TIME_LAST, TILE_TIME_MAX,
    TILE_ACC_LO_ACC, TILE_ACC_HI_ACC, FAB_LOAD_TILE, FAB_LOAD_MAX, TILE_STATUS_RESERVE, FAB_STATUS_RESERVE, TILE_STATUS_SAT,
    TILE_STATUS_ACC_OVF, TILE_STATUS_DIV_ZERO, TILE_STATUS_SQRT_NEG, TILE_FLAG_STEP_CYCLE, TILE_FLAG_STEP_STEP, TILE_FLAG_STEP_VALID,
    TILE_IC_DISCARD]
  omega

theorem Leaf.keeps_advance (e : Leaf) (t k cost : Nat) (x : TileSt) : Leaf.Keeps (listEndKeys t ++ faultKeys) e (e.advance t k cost x) := by
  unfold Leaf.advance
  dsimp only
  split
  · exact (e.keeps_setTile _ t _).trans (Leaf.keeps_endList _ t k)
  · exact e.keeps_setTile _ t _

theorem Leaf.stepFrame_advance (e : Leaf) (t k cost : Nat) (x : TileSt) : e.StepFrame (e.advance t k cost x) := by
  unfold Leaf.advance
  dsimp only
  split
  · exact (e.stepFrame_setTile t _).trans (Leaf.stepFrame_endList _ t k)
  · exact e.stepFrame_setTile t _

theorem Leaf.tile_advance_ne (e : Leaf) {t i : Nat} (k cost : Nat) (x : TileSt) (hi : i ≠ t) : (e.advance t k cost x).tile i = e.tile i := by
  unfold Leaf.advance
  dsimp only
  split
  · rw [Leaf.tile_endList, Leaf.tile_setTile_ne _ _ hi, Leaf.tile_setTile_ne _ _ hi]
  · exact e.tile_setTile_ne _ hi

theorem Leaf.tile_advance_same (e : Leaf) (t k cost : Nat) (x : TileSt) :
    (e.advance t k cost x).tile t =
      { e.tile t with
        pc := x.pc + 1, spent := x.spent + cost, spOld := (e.tile t).spOld.drop x.spOld.length,
        run := if e.rd TILE_LIST_STEPS t ≤ x.pc + 1 then none else (e.tile t).run,
        lastDone := if e.rd TILE_LIST_STEPS t ≤ x.pc + 1 then some k else (e.tile t).lastDone } := by
  unfold Leaf.advance
  dsimp only
  rw [Leaf.rd_setTile]
  split <;> simp [Leaf.tile_endList]

/-- The body of a step and the move to the next step make a step that has run. -/
theorem Leaf.BodyDone.advance {d e : Leaf} {t k : Nat} {f : TileSt → TileSt} {fl : Fld → Bool} (h : d.BodyDone e t f fl) (ht : t < 256)
    (hf : StepEffect f) (hrun : (d.tile t).run = some k) (cost : Nat) :
    d.StepSets (e.advance t k cost (d.tile t)) t cost f fl := by
  have hkeeps : Leaf.Keeps (stepKeys t ++ faultKeys) d (e.advance t k cost (d.tile t)) :=
    (h.keeps.mono_left (flagKeys_subset_stepKeys t)).trans ((e.keeps_advance t k cost _).mono_left (listEndKeys_subset_stepKeys t))
  have hframe : d.StepFrame (e.advance t k cost (d.tile t)) := h.frame.trans (e.stepFrame_advance t k cost _)
  have hsteps : e.rd TILE_LIST_STEPS t = d.rd TILE_LIST_STEPS t := by
    refine h.keeps _ _ (List.not_mem_append (fun hk => ?_) (tileKey_not_mem_faultKeys ht (by decide) rfl (by decide)))
    exact listSteps_key_not_mem_stepKeys t (flagKeys_subset_stepKeys t hk)
  refine ⟨⟨⟨?_, hkeeps, hframe.eq⟩, fun i hi => ?_, hframe.fab⟩, fun g hg => ?_⟩
  · rw [Leaf.tile_advance_same, h.tile, hsteps, hf.run, hf.lastDone, hrun, ← hf.spOld]
  · rw [e.tile_advance_ne k cost _ hi, h.others i hi]
  · have hend : (e.advance t k cost (d.tile t)).is g t = e.is g t := by
      rw [Leaf.is, e.keeps_advance t k cost _ g t (List.not_mem_append (stickyFlag_key_not_mem_listEndKeys hg t)
        (stickyFlag_key_not_mem_faultKeys hg ht)), Leaf.is]
    rw [hend, h.flags g hg]

/-! ## The commands of the steps -/

theorem LeafDoes.mono {i : Instr} {s : State} {l : LeafId} {P Q : Leaf → Leaf → Prop} (h : LeafDoes i s l P)
    (hPQ : ∀ e, P (s.leaf l) e → Q (s.leaf l) e) : LeafDoes i s l Q := by
  obtain ⟨e, hexec, hp⟩ := h
  exact ⟨e, hexec, hPQ e hp⟩

section
variable {i : Instr} {s : State} {l : LeafId} {t : Tile} {op cost k w : Nat} {uses : Nat → Bool × Bool}
  {body : StepCtx → Leaf → Option Leaf} {a b v : Int} {e : Leaf} {fl : Fld → Bool}

/-- A command has one outcome, so what it does is what each of two laws says. -/
theorem LeafDoes.and {i : Instr} {s : State} {l : LeafId} {P Q : Leaf → Leaf → Prop} (h : LeafDoes i s l P) (h' : LeafDoes i s l Q) :
    LeafDoes i s l fun d e => P d e ∧ Q d e := by
  obtain ⟨e, hexec, hp⟩ := h
  obtain ⟨e', hexec', hq⟩ := h'
  have hsame : s.setLeaf l e = s.setLeaf l e' := by
    rw [hexec] at hexec'
    injection hexec'
  have he : e = e' := by simpa using congrArg (·.leaf l) hsame
  exact ⟨e, hexec, hp, he ▸ hq⟩

/-- A step command with the operand A whose body writes `v` to the destination of its word and sets the flags `fl`. -/
theorem leafDoes_stepA (hexec : exec i s = onLeaf l s fun d => d.stepRun t.val .ok op cost uses body)
    (hat : (s.leaf l).StepAt t.val k w) (hop : stepOp w = op) (huses : uses w = (true, false))
    (ha : (s.leaf l).opndVal ((s.leaf l).tile t.val) k (stepA w) = some a)
    (hbody : body ⟨t.val, k, ((s.leaf l).tile t.val).pc, w, a, 0⟩ (s.leaf l) = some e)
    (h : (s.leaf l).BodyDone e t.val (·.setDst w v) fl) :
    LeafDoes i s l fun d e => d.StepSets e t.val cost (·.setDst w v) fl := by
  refine .of _ hexec ?_
  rw [Leaf.stepRun_eq_advance hat hop (by rw [huses]; exact ha) (by rw [huses]; rfl) hbody, huses]
  exact h.advance t.isLt (stepEffect_setDst w v) hat.1 cost

/-- The same with the operands A and B, where two scratchpad words cost one cycle more (R168). -/
theorem leafDoes_stepAB (hexec : exec i s = onLeaf l s fun d => d.stepRun t.val .ok op cost uses body)
    (hat : (s.leaf l).StepAt t.val k w) (hop : stepOp w = op) (huses : uses w = (true, true))
    (ha : (s.leaf l).opndVal ((s.leaf l).tile t.val) k (stepA w) = some a)
    (hb : (s.leaf l).opndVal ((s.leaf l).tile t.val) k (stepB w) = some b)
    (hbody : body ⟨t.val, k, ((s.leaf l).tile t.val).pc, w, a, b⟩ (s.leaf l) = some e)
    (h : (s.leaf l).BodyDone e t.val (·.setDst w v) fl) :
    LeafDoes i s l fun d e => d.StepSets e t.val (cost + b2n (twoWords (stepA w) (stepB w))) (·.setDst w v) fl := by
  refine .of _ hexec ?_
  rw [Leaf.stepRun_eq_advance hat hop (by rw [huses]; exact ha) (by rw [huses]; exact hb) hbody, huses]
  exact h.advance t.isLt (stepEffect_setDst w v) hat.1 _

end

/-- A step without a flag of its own sets SAT when its result saturates. -/
theorem Leaf.StepSets.sat {d e : Leaf} {t cost w : Nat} {v : Int} (h : d.StepSets e t cost (·.setDst w v) (dstFlags w v)) :
    e.is TILE_STATUS_SAT t = (d.is TILE_STATUS_SAT t || (dstOk w && (sat32 v).2)) := by
  rw [h.flags _ (by decide)]
  simp [dstFlags]

/-- A step with a flag of its own sets SAT when its result saturates. -/
theorem Leaf.StepSets.sat_of_ne {d e : Leaf} {t cost w : Nat} {v : Int} {on : Bool} {flag : Fld}
    (h : d.StepSets e t cost (·.setDst w v) fun g => (on && decide (g = flag)) || dstFlags w v g) (hne : flag ≠ TILE_STATUS_SAT) :
    e.is TILE_STATUS_SAT t = (d.is TILE_STATUS_SAT t || (dstOk w && (sat32 v).2)) := by
  rw [h.flags _ (by decide)]
  simp [dstFlags, hne.symm]

/-- A step sets its own flag when the operation says so. -/
theorem Leaf.StepSets.flag {d e : Leaf} {t cost w : Nat} {v : Int} {on : Bool} {flag : Fld}
    (h : d.StepSets e t cost (·.setDst w v) fun g => (on && decide (g = flag)) || dstFlags w v g) (hf : flag ∈ stickyFlags)
    (hne : flag ≠ TILE_STATUS_SAT) : e.is flag t = (d.is flag t || on) := by
  rw [h.flags _ hf]
  simp [dstFlags, hne]

theorem cmpStep_of_mem {m : Nat} {a b : Int} {r : Bool} (h : (m, r) ∈ [(0, decide (a = b)), (1, decide (a ≠ b)), (2, decide (a < b)),
    (3, decide (a ≤ b)), (4, decide (b < a)), (5, decide (b ≤ a))]) : cmpStep m a b = some r := by
  simp only [List.mem_cons, Prod.mk.injEq, List.not_mem_nil, or_false] at h
  rcases h with ⟨rfl, rfl⟩ | ⟨rfl, rfl⟩ | ⟨rfl, rfl⟩ | ⟨rfl, rfl⟩ | ⟨rfl, rfl⟩ | ⟨rfl, rfl⟩ <;> rfl

theorem Leaf.cmpTo_of_some {c : StepCtx} {r : Bool} (h : cmpStep (stepMod c.w % 8) c.a c.b = some r) (d : Leaf) :
    Leaf.cmpTo c d = d.putDst c (b2n r : Nat) := by
  unfold Leaf.cmpTo
  rw [h]

theorem Leaf.limTo_of_even {c : StepCtx} (h : stepMod c.w % 2 = 0) (d : Leaf) :
    Leaf.limTo c d = d.putDst c (min (max c.a (-((d.tile c.t).cVal (stepCoef c.w)).natAbs)) ((d.tile c.t).cVal (stepCoef c.w)).natAbs) := by
  simp only [Leaf.limTo, if_pos h]
  rfl

theorem Leaf.limTo_of_odd {c : StepCtx} (h : stepMod c.w % 2 = 1) (d : Leaf) :
    Leaf.limTo c d = d.putDst c (min (max c.a c.b) ((d.tile c.t).cVal (stepCoef c.w))) := by
  have hne : ¬ stepMod c.w % 2 = 0 := by omega
  simp only [Leaf.limTo, if_neg hne]
  rfl

theorem Leaf.sqrtTo_eq {c : StepCtx} {v : Int} (hv : v = if c.a < 0 then 0 else (isqrt (c.a.toNat * 2 ^ (stepMod c.w % 32)) : Int))
    (d : Leaf) : Leaf.sqrtTo c d = (d.flagIf c (decide (c.a < 0)) TILE_STATUS_SQRT_NEG).putDst c v := by
  have hroot : sqrtStep c.a (stepMod c.w % 32) = (v, decide (c.a < 0)) := by
    subst hv
    unfold sqrtStep
    split <;> simp [*]
  simp only [Leaf.sqrtTo, hroot]

theorem Leaf.divTo_eq {c : StepCtx} {v : Int} (hv : v = if c.b = 0 then (if 0 < c.a then 2147483647 else if c.a < 0 then -2147483648 else 0)
    else Int.tdiv (c.a * (2 ^ (stepMod c.w % 32) : Nat)) c.b) (d : Leaf) :
    Leaf.divTo c d = (d.flagIf c (decide (c.b = 0)) TILE_STATUS_DIV_ZERO).putDst c v := by
  have hquot : divStep c.a c.b (stepMod c.w % 32) = (v, decide (c.b = 0)) := by
    subst hv
    unfold divStep
    split <;> simp [*]
  simp only [Leaf.divTo, hquot]

/-! ### One law per command (Table 5.5) -/

section
variable {s : State} {l : LeafId} {t : Tile} {k w : Nat} {a b : Int} (hat : (s.leaf l).StepAt t.val k w)
  (ha : (s.leaf l).opndVal ((s.leaf l).tile t.val) k (stepA w) = some a)
include hat ha

theorem stepMov_sets (hop : stepOp w = 0x01) :
    LeafDoes (.stepMov l t .ok) s l fun d e => d.StepSets e t.val 1 (·.setDst w a) (dstFlags w a) :=
  leafDoes_stepA rfl hat hop rfl ha rfl (Leaf.bodyDone_putDst _ t.isLt _)

theorem stepNeg_sets (hop : stepOp w = 0x04) :
    LeafDoes (.stepNeg l t .ok) s l fun d e => d.StepSets e t.val 1 (·.setDst w (-a)) (dstFlags w (-a)) :=
  leafDoes_stepA rfl hat hop rfl ha rfl (Leaf.bodyDone_putDst _ t.isLt _)

theorem stepAbs_sets (hop : stepOp w = 0x05) :
    LeafDoes (.stepAbs l t .ok) s l fun d e => d.StepSets e t.val 1 (·.setDst w a.natAbs) (dstFlags w a.natAbs) :=
  leafDoes_stepA rfl hat hop rfl ha rfl (Leaf.bodyDone_putDst _ t.isLt _)

theorem stepLoad_sets (hop : stepOp w = 0x17) {v : Int}
    (hv : v = ((s.leaf l).tile t.val).spRead ((a + (stepB w % 4096 : Nat)) % 4096).toNat) :
    LeafDoes (.stepLoad l t .ok) s l fun d e => d.StepSets e t.val 1 (·.setDst w v) (dstFlags w v) := by
  subst hv
  exact leafDoes_stepA rfl hat hop rfl ha rfl (Leaf.bodyDone_putDst _ t.isLt _)

/-- R177: a negative operand gives 0 and sets SQRT_NEG. -/
theorem stepSqrt_sets (hop : stepOp w = 0x0F) {v : Int} (hv : v = if a < 0 then 0 else (isqrt (a.toNat * 2 ^ (stepMod w % 32)) : Int)) :
    LeafDoes (.stepSqrt l t .ok) s l fun d e =>
      d.StepSets e t.val 18 (·.setDst w v) fun g => (decide (a < 0) && decide (g = TILE_STATUS_SQRT_NEG)) || dstFlags w v g :=
  leafDoes_stepA rfl hat hop rfl ha (congrArg some (Leaf.sqrtTo_eq hv _)) (Leaf.bodyDone_flagIf_putDst _ t.isLt _ (by decide) v)

/-- LIM with MOD[0] = 0 keeps A within ± the coefficient. -/
theorem stepLim_even_sets (hop : stepOp w = 0x0A) (hmod : stepMod w % 2 = 0) {c v : Int}
    (hc : c = ((s.leaf l).tile t.val).cVal (stepCoef w)) (hv : v = min (max a (-c.natAbs)) c.natAbs) :
    LeafDoes (.stepLim l t .ok) s l fun d e => d.StepSets e t.val 1 (·.setDst w v) (dstFlags w v) := by
  subst hv hc
  exact leafDoes_stepA rfl hat hop (by simp [hmod]) ha (congrArg some (Leaf.limTo_of_even hmod _)) (Leaf.bodyDone_putDst _ t.isLt _)

variable (hb : (s.leaf l).opndVal ((s.leaf l).tile t.val) k (stepB w) = some b)
include hb

theorem stepAdd_sets (hop : stepOp w = 0x02) :
    LeafDoes (.stepAdd l t .ok) s l fun d e =>
      d.StepSets e t.val (1 + b2n (twoWords (stepA w) (stepB w))) (·.setDst w (a + b)) (dstFlags w (a + b)) :=
  leafDoes_stepAB rfl hat hop rfl ha hb rfl (Leaf.bodyDone_putDst _ t.isLt _)

theorem stepSub_sets (hop : stepOp w = 0x03) :
    LeafDoes (.stepSub l t .ok) s l fun d e =>
      d.StepSets e t.val (1 + b2n (twoWords (stepA w) (stepB w))) (·.setDst w (a - b)) (dstFlags w (a - b)) :=
  leafDoes_stepAB rfl hat hop rfl ha hb rfl (Leaf.bodyDone_putDst _ t.isLt _)

theorem stepMin_sets (hop : stepOp w = 0x06) :
    LeafDoes (.stepMin l t .ok) s l fun d e =>
      d.StepSets e t.val (1 + b2n (twoWords (stepA w) (stepB w))) (·.setDst w (min a b)) (dstFlags w (min a b)) :=
  leafDoes_stepAB rfl hat hop rfl ha hb rfl (Leaf.bodyDone_putDst _ t.isLt _)

theorem stepMax_sets (hop : stepOp w = 0x07) :
    LeafDoes (.stepMax l t .ok) s l fun d e =>
      d.StepSets e t.val (1 + b2n (twoWords (stepA w) (stepB w))) (·.setDst w (max a b)) (dstFlags w (max a b)) :=
  leafDoes_stepAB rfl hat hop rfl ha hb rfl (Leaf.bodyDone_putDst _ t.isLt _)

theorem stepSel_sets (hop : stepOp w = 0x09) {v : Int} (hv : v = if ((s.leaf l).tile t.val).reg (stepMod w) ≠ 0 then a else b) :
    LeafDoes (.stepSel l t .ok) s l fun d e =>
      d.StepSets e t.val (1 + b2n (twoWords (stepA w) (stepB w))) (·.setDst w v) (dstFlags w v) := by
  subst hv
  exact leafDoes_stepAB rfl hat hop rfl ha hb rfl (Leaf.bodyDone_putDst _ t.isLt _)

theorem stepCmp_sets (hop : stepOp w = 0x08) {r : Bool} (hr : cmpStep (stepMod w % 8) a b = some r) :
    LeafDoes (.stepCmp l t .ok) s l fun d e =>
      d.StepSets e t.val (1 + b2n (twoWords (stepA w) (stepB w))) (·.setDst w (b2n r : Nat)) (dstFlags w (b2n r : Nat)) :=
  leafDoes_stepAB rfl hat hop rfl ha hb (congrArg some (Leaf.cmpTo_of_some hr _)) (Leaf.bodyDone_putDst _ t.isLt _)

/-- LIM with MOD[0] = 1 keeps A between B and the coefficient. -/
theorem stepLim_odd_sets (hop : stepOp w = 0x0A) (hmod : stepMod w % 2 = 1) {c v : Int}
    (hc : c = ((s.leaf l).tile t.val).cVal (stepCoef w)) (hv : v = min (max a b) c) :
    LeafDoes (.stepLim l t .ok) s l fun d e =>
      d.StepSets e t.val (1 + b2n (twoWords (stepA w) (stepB w))) (·.setDst w v) (dstFlags w v) := by
  subst hv hc
  exact leafDoes_stepAB rfl hat hop (by simp [hmod]) ha hb (congrArg some (Leaf.limTo_of_odd hmod _)) (Leaf.bodyDone_putDst _ t.isLt _)

/-- R174, R176: the shifted product saturates to 64 bits with ACC_OVF before it saturates to 32. -/
theorem stepMul_sets (hop : stepOp w = 0x0B) {p : Int × Bool} (hp : p = sat64 (shiftBy (a * b) (sext 6 (stepMod w)))) :
    LeafDoes (.stepMul l t .ok) s l fun d e =>
      d.StepSets e t.val (2 + b2n (twoWords (stepA w) (stepB w))) (·.setDst w p.1)
        fun g => (p.2 && decide (g = TILE_STATUS_ACC_OVF)) || dstFlags w p.1 g := by
  subst hp
  exact leafDoes_stepAB rfl hat hop rfl ha hb rfl (Leaf.bodyDone_flagIf_putDst _ t.isLt _ (by decide) _)

/-- R177: a divisor of 0 gives the bound on the side of the dividend and sets DIV_ZERO. -/
theorem stepDiv_sets (hop : stepOp w = 0x0E) {v : Int}
    (hv : v = if b = 0 then (if 0 < a then 2147483647 else if a < 0 then -2147483648 else 0)
      else Int.tdiv (a * (2 ^ (stepMod w % 32) : Nat)) b) :
    LeafDoes (.stepDiv l t .ok) s l fun d e =>
      d.StepSets e t.val (34 + b2n (twoWords (stepA w) (stepB w))) (·.setDst w v)
        fun g => (decide (b = 0) && decide (g = TILE_STATUS_DIV_ZERO)) || dstFlags w v g :=
  leafDoes_stepAB rfl hat hop rfl ha hb (congrArg some (Leaf.divTo_eq hv _)) (Leaf.bodyDone_flagIf_putDst _ t.isLt _ (by decide) v)

end

theorem flagStepKeys_not_mem_listEndKeys (t : Nat) : ∀ k ∈ flagStepKeys t, k ∉ listEndKeys t := by
  intro k hk
  simp only [flagStepKeys, listEndKeys, List.mem_cons, List.not_mem_nil, or_false, not_or, Fld.key, TILE_FLAG_STEP_CYCLE, TILE_FLAG_STEP_STEP,
    TILE_FLAG_STEP_VALID, TILE_TIME_LAST, TILE_TIME_MAX,
    TILE_ACC_LO_ACC, TILE_ACC_HI_ACC, FAB_LOAD_TILE, FAB_LOAD_MAX, TILE_STATUS_RESERVE, FAB_STATUS_RESERVE] at hk ⊢
  omega

/-- The quotient by 0 fits in 32 bits. -/
theorem sat32_divStep_zero (a : Int) (q : Nat) : (sat32 (divStep a 0 q).1).2 = false := by
  unfold divStep
  rw [if_pos rfl]
  dsimp only
  split
  · rfl
  · split <;> rfl

/-- R177 to R179: a division by 0 that sets the first flag of its tile is recorded with its place in the list and its cycle. -/
theorem stepDiv_zero_records {s : State} {l : LeafId} {t : Tile} {k w : Nat} {a : Int} (hat : (s.leaf l).StepAt t.val k w)
    (hop : stepOp w = 0x0E) (ha : (s.leaf l).opndVal ((s.leaf l).tile t.val) k (stepA w) = some a)
    (hb : (s.leaf l).opndVal ((s.leaf l).tile t.val) k (stepB w) = some 0) (hclear : ∀ r ∈ flagRoutes, (s.leaf l).is r.1 t.val = false) :
    LeafDoes (.stepDiv l t .ok) s l fun d e => ∀ g : Fld, g.key t.val ∈ flagStepKeys t.val →
      e.rd g t.val = (d.recordFlagStep t.val k (d.tile t.val).pc).rd g t.val := by
  refine .of (Leaf.stepRun · t.val .ok 0x0E 34 useAB fun c d => some (Leaf.divTo c d)) rfl fun g hg => ?_
  have hend : g.key t.val ∉ listEndKeys t.val ++ faultKeys :=
    List.not_mem_append (flagStepKeys_not_mem_listEndKeys _ _ hg) (flagStepKeys_not_mem_faultKeys t.isLt _ hg)
  rw [Leaf.stepRun_eq_advance (uses := useAB) hat hop ha hb rfl, Leaf.keeps_advance _ _ _ _ _ g _ hend, Leaf.divTo,
    Leaf.rd_putDst_of_fits _ _ (sat32_divStep_zero _ _)]
  exact Leaf.rd_setFlag_flagStep _ t.isLt _ _ (by decide) hclear hg

/-- Settles O50: every body writes its destination and sets its flags (`BodyDone`), every such body makes a step that has run
(`BodyDone.advance`), and each command is one of these bodies. -/
theorem fabricStepsWriteTheirResults : Obligations.FabricStepsWriteTheirResults := by
  unfold Obligations.FabricStepsWriteTheirResults
  refine ⟨?oneOperand, ?twoOperands, ?cmp, ?limEven, ?limOdd, ?divByZero⟩
  case oneOperand =>
    intro s l t k w n a v i hat ha hrow
    simp only [List.mem_cons, Prod.mk.injEq, List.not_mem_nil, or_false] at hrow
    rcases hrow with ⟨rfl, hop, rfl, rfl⟩ | ⟨rfl, hop, rfl, rfl⟩ | ⟨rfl, hop, rfl, rfl⟩ | ⟨rfl, hop, rfl, hv⟩ | ⟨rfl, hop, rfl, hv⟩
    · exact (stepMov_sets hat ha hop).mono fun e h => ⟨h.ran, h.sat, by omega⟩
    · exact (stepNeg_sets hat ha hop).mono fun e h => ⟨h.ran, h.sat, by omega⟩
    · exact (stepAbs_sets hat ha hop).mono fun e h => ⟨h.ran, h.sat, by omega⟩
    · exact (stepSqrt_sets hat ha hop hv).mono fun e h => ⟨h.ran, h.sat_of_ne (by decide), fun _ => h.flag (by decide) (by decide)⟩
    · exact (stepLoad_sets hat ha hop hv).mono fun e h => ⟨h.ran, h.sat, by omega⟩
  case twoOperands =>
    intro s l t k w n a b v i hat ha hb hrow
    simp only [List.mem_cons, Prod.mk.injEq, List.not_mem_nil, or_false] at hrow
    rcases hrow with ⟨rfl, hop, rfl, rfl⟩ | ⟨rfl, hop, rfl, rfl⟩ | ⟨rfl, hop, rfl, rfl⟩ | ⟨rfl, hop, rfl, rfl⟩ | ⟨rfl, hop, rfl, hv⟩ |
      ⟨rfl, hop, rfl, rfl⟩ | ⟨rfl, hop, rfl, hv⟩
    · exact (stepAdd_sets hat ha hb hop).mono fun e h => ⟨h.ran, h.sat, by omega, by omega⟩
    · exact (stepSub_sets hat ha hb hop).mono fun e h => ⟨h.ran, h.sat, by omega, by omega⟩
    · exact (stepMin_sets hat ha hb hop).mono fun e h => ⟨h.ran, h.sat, by omega, by omega⟩
    · exact (stepMax_sets hat ha hb hop).mono fun e h => ⟨h.ran, h.sat, by omega, by omega⟩
    · exact (stepSel_sets hat ha hb hop hv).mono fun e h => ⟨h.ran, h.sat, by omega, by omega⟩
    · exact (stepMul_sets hat ha hb hop rfl).mono fun e h =>
        ⟨h.ran, h.sat_of_ne (by decide), fun _ => h.flag (by decide) (by decide), by omega⟩
    · exact (stepDiv_sets hat ha hb hop hv).mono fun e h =>
        ⟨h.ran, h.sat_of_ne (by decide), by omega, fun _ => h.flag (by decide) (by decide)⟩
  case cmp =>
    intro s l t k w a b r hat hop ha hb hr
    exact (stepCmp_sets hat ha hb hop (cmpStep_of_mem hr)).mono fun e h => h.ran
  case limEven =>
    intro s l t k w a hat hop hmod ha
    exact (stepLim_even_sets hat ha hop hmod rfl rfl).mono fun e h => h.ran
  case limOdd =>
    intro s l t k w a b hat hop hmod ha hb
    exact (stepLim_odd_sets hat ha hb hop hmod rfl rfl).mono fun e h => h.ran
  case divByZero =>
    intro s l t k w a hat hop ha hb hclear _ _
    refine ((stepDiv_zero_records hat hop ha hb hclear).and (stepDiv_sets hat ha hb hop rfl)).mono fun e ⟨hrecord, hsets⟩ => ⟨?_, ?_, ?_, ?_⟩
    · rw [hrecord _ (by simp [flagStepKeys]), Leaf.rd_recordFlagStep_valid]
    · rw [hrecord _ (by simp [flagStepKeys]), Leaf.rd_recordFlagStep_step]
    · rw [hrecord _ (by simp [flagStepKeys]), Leaf.rd_recordFlagStep_cycle]
    · simp [hsets.flag (by decide) (by decide)]

end Sys2Proof.Machine
end

section
/-! PROOFS. The cores and the scheduler (18_cores_and_scheduler.md): the write of CORE_MSIX. -/

namespace Sys2Proof.Machine
open Reg

/-! ## A vector fires -/

/-- A vector that fires is one output more, and the leaf stays as it was. -/
theorem Leaf.msix_eq (d : Leaf) (v : Nat) : d.msix v = { d with out := d.out ++ [.msix v] } := by
  rw [Leaf.msix, Leaf.emit_msix, Leaf.log]

/-! ## A write changes one field -/

theorem Leaf.keeps_wr (d : Leaf) (f : Fld) (v i : Nat) : Leaf.Keeps [f.key i] d (d.wr f v i) :=
  fun _ _ hg => d.rd_wr_ne _ _ _ _ _ (List.ne_of_not_mem_cons hg)

/-! ## The write of CORE_MSIX (R567) -/

section
variable {d : Leaf} {p : Nat} {val : Word} (hruns : d.pairRuns p = true)
include hruns

theorem Leaf.coreMsix_of_vector (hvec : 16 ≤ val.toNat ∧ val.toNat ≤ 63) : d.coreMsix p val = d.msix val.toNat := by
  simp [Leaf.coreMsix, hruns, hvec]

theorem Leaf.coreMsix_of_not_vector (hvec : ¬(16 ≤ val.toNat ∧ val.toNat ≤ 63)) :
    d.coreMsix p val = d.wr SCH_STATUS_OP_ERR 1 := by
  simp [Leaf.coreMsix, hruns, hvec]

end

/-- Settles O54: the write is one field write or one vector, by the range of the whole word (log entry 74, PRESUMED). -/
theorem coreMsixFiresItsVector : Obligations.CoreMsixFiresItsVector := by
  unfold Obligations.CoreMsixFiresItsVector
  intro s l p v hruns
  refine .of (Leaf.coreMsix p.val v) rfl ⟨fun hvec => ?vector, fun hvec => ?otherValue⟩
  case vector => rw [Leaf.coreMsix_of_vector hruns hvec, Leaf.msix_eq]
  case otherValue =>
    rw [Leaf.coreMsix_of_not_vector hruns hvec]
    exact ⟨Leaf.rd_wr_same _ _ _ _, Leaf.keeps_wr _ _ _ _, rfl⟩

end Sys2Proof.Machine
end
